-- ==== Sys2Proof/Word.lean ====
section
/-! DEFINITION. The widths and the plain value type the manual works with: bytes of the three byte layouts,
16-bit fields, and an engineering value that may be ABSENT. -/

namespace Sys2Proof

/-- One character of the pass line or the sign link, one byte of the configuration memory. -/
abbrev Byte := BitVec 8

/-- A two-byte field of a bulletin, a page or the configuration memory (sent high byte first, R188-R191). -/
abbrev Word16 := BitVec 16

/-- A measured or derived quantity: a signed whole number, or ABSENT (`none`), which is carried as -32768 wherever a
value appears in a bulletin or on a page (00_scope.md, Terms). -/
abbrev Value := Option Int

end Sys2Proof
end

