-- ==== Sys2Proof/Syntax.lean ====
section
/-! DEFINITION. The commands: one constructor of `Instr` per row of spec/opcode_table.json, with the operands the row's
rules give it, and the operand types (channels, signs, gates, bulletin bodies). A command is an event: an event of
the outside (a pin, a received frame, a reply) or an event of the station's own timers. -/

namespace Sys2Proof

/-- The pulse channels 1 to 4 (01_observation_channels.md). -/
inductive Chan
  | c1 | c2 | c3 | c4
  deriving DecidableEq, Repr

/-- The sign-link addresses 1 to 3 (R124). -/
inductive Sign
  | s1 | s2 | s3
  deriving DecidableEq, Repr

/-- The two snow gates: E stops eastbound traffic, W westbound traffic (R153). -/
inductive Gate
  | e | w
  deriving DecidableEq, Repr

/-- The two limit inputs of a gate (R153). -/
inductive Limit
  | openLimit | closedLimit
  deriving DecidableEq, Repr

/-- What the bulletin handler receives of a good frame beside its kind and body (R63, R188). -/
structure FrameHeader where
  source : Byte
  sequence : Byte
  deriving DecidableEq, Repr

/-- The body of an ANNOUNCE, field by field (R189). -/
structure AnnounceBody where
  chainage : Word16
  gatesFitted : Byte
  role1 : Byte
  role2 : Byte
  role3 : Byte
  flags : Byte
  deriving DecidableEq, Repr

/-- The body of a STATUS, field by field (R92, R189). -/
structure StatusBody where
  chainage : Word16
  interval : Word16
  computed : Byte
  effective : Byte
  score : Byte
  floor : Byte
  flags : Byte
  alerts : Byte
  wind : Word16
  gust : Word16
  temperature : Word16
  depth : Word16
  precipitation : Word16
  gateE : Byte
  gateW : Byte
  slowTravel : Byte
  sign1 : Byte
  sign2 : Byte
  sign3 : Byte
  deriving DecidableEq, Repr

/-- The body of a CLOSURE or an ALERT, field by field (R89, R189). The kind and the state are the raw codes: the closure
register judges them (R98). -/
structure ClosureBody where
  origin : Byte
  serial : Byte
  revision : Byte
  kind : Byte
  scopeLo : Word16
  scopeHi : Word16
  state : Byte
  lead : Word16
  minutes : Word16
  template : Byte
  deriving DecidableEq, Repr

/-- The body of a FLOOR (R189). -/
structure FloorBody where
  target : Byte
  level : Byte
  minutes : Word16
  deriving DecidableEq, Repr

/-- The commands of the station, one constructor per row of spec/opcode_table.json, in the table's order. -/
inductive Instr
  /-- POWER_ON_RESET (R187), with the strap levels sampled at its release (R178). -/
  | powerOnReset (address : BitVec 5) (rate : BitVec 2)
  /-- WARM_RESET (R187), with the strap levels sampled at its release (R178). -/
  | warmReset (address : BitVec 5) (rate : BitVec 2)
  /-- CONFIGURATION_READ_END (R182), with the bytes that arrived: fewer than 128 when the memory stopped answering (R179). -/
  | configurationReadEnd (arrived : List Byte)
  /-- SETTLING_START (R184). -/
  | settlingStart
  /-- RUNNING_ENTRY (R185). -/
  | runningEntry
  /-- PULSE_EDGE (R4): a rising or a falling edge of a pulse input. -/
  | pulseEdge (ch : Chan) (rising : Bool)
  /-- SENSE_LINE_CHANGE (R8): the sense line takes a new level. -/
  | senseLineChange (ch : Chan) (high : Bool)
  /-- WIDTH_OVERRANGE (R8). -/
  | widthOverrange (ch : Chan)
  /-- SILENCE_TIMER_EXPIRY (R8). -/
  | silenceTimerExpiry (ch : Chan)
  /-- RATE_WINDOW_END (R5). -/
  | rateWindowEnd (ch : Chan)
  /-- MINUTE_CLOSE (R12). -/
  | minuteClose
  /-- HOUR_CLOSE (R22). -/
  | hourClose
  /-- SLIDE_CONTACT_CHANGE (R19). -/
  | slideContactChange (closed : Bool)
  /-- SLIDE_CONFIRMATION_EXPIRY (R19). -/
  | slideConfirmationExpiry
  /-- REARM_TIMER_EXPIRY (R19). -/
  | rearmTimerExpiry
  /-- OPERATOR_FLOOR_EXPIRY (R45). -/
  | operatorFloorExpiry
  /-- OVERRIDE_HOLD_EXPIRY (R53). -/
  | overrideHoldExpiry
  /-- RECEIVER_IDLE_REACHED (R57). -/
  | receiverIdleReached
  /-- CHARACTER_RECEIVED (R57): a confirmed character, with or without a framing error (R60). -/
  | characterReceived (char : Byte) (framingError : Bool)
  /-- FRAME_DISCARDED (R61): the frame on the line ends and is dropped. -/
  | frameDiscarded
  /-- ANNOUNCE_RECEIVED (R82): the frame on the line ends and is a good ANNOUNCE. -/
  | announceReceived (header : FrameHeader) (body : AnnounceBody)
  /-- STATUS_RECEIVED (R82). -/
  | statusReceived (header : FrameHeader) (body : StatusBody)
  /-- CLOSURE_RECEIVED (R101). -/
  | closureReceived (header : FrameHeader) (body : ClosureBody)
  /-- ALERT_RECEIVED (R98). -/
  | alertReceived (header : FrameHeader) (body : ClosureBody)
  /-- FLOOR_RECEIVED (R44). -/
  | floorReceived (header : FrameHeader) (body : FloorBody)
  /-- QUERY_RECEIVED (R87). -/
  | queryReceived (header : FrameHeader) (target : Byte)
  /-- RECAP_RECEIVED (R86). -/
  | recapReceived (header : FrameHeader) (target : Byte)
  /-- ATTEMPT_START (R71). -/
  | attemptStart
  /-- ATTEMPT_SUCCESS (R74). -/
  | attemptSuccess
  /-- ATTEMPT_FAILED (R72). -/
  | attemptFailed
  /-- PEER_LATE (R81), of the peer at an address. -/
  | peerLate (address : Byte)
  /-- PEER_SILENT (R81), of the peer at an address. -/
  | peerSilent (address : Byte)
  /-- RECAP_TIMER_EXPIRY (R84), of the peer at an address. -/
  | recapTimerExpiry (address : Byte)
  /-- STATUS_TIMER_EXPIRY (R90). -/
  | statusTimerExpiry
  /-- ANNOUNCE_TIMER_EXPIRY (R93). -/
  | announceTimerExpiry
  /-- LEAD_EXPIRY (R105), of the record at a register index. -/
  | leadExpiry (index : Nat)
  /-- DURATION_EXPIRY (R106), of the record at a register index. -/
  | durationExpiry (index : Nat)
  /-- LIFTED_DISPLAY_EXPIRY (R107), of the record at a register index. -/
  | liftedDisplayExpiry (index : Nat)
  /-- RECORD_STALE (R108), of the record at a register index. -/
  | recordStale (index : Nat)
  /-- WALKER_STEP (R117). -/
  | walkerStep
  /-- REFRESH_TIMER_EXPIRY (R135). -/
  | refreshTimerExpiry (sign : Sign)
  /-- PAGE_SET_SENT (R142). -/
  | pageSetSent
  /-- ACK_RECEIVED (R147): the sign address and the check value the reply carries (R190). -/
  | ackReceived (address : BitVec 4) (check : Word16)
  /-- NAK_UNKNOWN_TEMPLATE (R148): the sign address and the page index the reply carries (R190). -/
  | nakUnknownTemplate (address : BitVec 4) (page : BitVec 4)
  /-- NAK_BAD_FORMAT (R146): the sign address and the page index the reply carries (R190). -/
  | nakBadFormat (address : BitVec 4) (page : BitVec 4)
  /-- REPLY_TIMEOUT (R143). -/
  | replyTimeout
  /-- XOFF_RECEIVED (R144). -/
  | xoffReceived
  /-- XON_RECEIVED (R144). -/
  | xonReceived
  /-- PAUSE_LIMIT (R143). -/
  | pauseLimit
  /-- PROBE_DUE (R149). -/
  | probeDue (sign : Sign)
  /-- LIMIT_INPUT_CHANGE (R165): a limit input takes a new level that has held for 100 ms (R154). -/
  | limitInputChange (gate : Gate) (limit : Limit) (active : Bool)
  /-- GATE_LEAD_ELAPSED (R158). -/
  | gateLeadElapsed (gate : Gate)
  /-- DWELL_END (R162). -/
  | dwellEnd (gate : Gate)
  /-- TRAVEL_STALL (R163). -/
  | travelStall (gate : Gate)
  /-- STALL_RETRY (R163). -/
  | stallRetry (gate : Gate)
  /-- KEY_TO_LOCAL (R169). -/
  | keyToLocal
  /-- KEY_TO_REMOTE (R171). -/
  | keyToRemote
  /-- CLOSE_BUTTON_PRESS (R170). -/
  | closeButtonPress
  /-- OPEN_BUTTON_PRESS (R170), with whether the CLOSE button is held at that instant. -/
  | openButtonPress (closeHeld : Bool)
  /-- QUIET_ENTRY (R175). -/
  | quietEntry
  deriving DecidableEq, Repr

end Sys2Proof
end

