-- ==== Sys2Proof/Decode.lean ====
section
/-! DEFINITION. The words of the opcode table: no row of spec/opcode_table.json gives bits, so no word spells a command. The
byte layouts the spec does give (R188-R191) are parsed and formed in Machine/Operands.lean. -/

namespace Sys2Proof

/-- The command a table word spells: none, for every word (no row has bits). -/
def decodeTableWord (_nbits _w : Nat) : Option Instr := none

end Sys2Proof
end

