-- ==== Sys2Proof/Config.lean ====
section
/-! DEFINITION. What no rule of the manual fixes and no state decides: the free value of the random wait (R69). -/

namespace Sys2Proof.Config

/-- The random draws of the transmitter (R69: "drawn with equal chance over its range, afresh at each draw and
independently of every earlier draw"): the k-th draw since the model began. A FREE VALUE: it has no body, so nothing can
be proved of a draw but that it lies in 0-7; a class-0 wait uses it modulo 4 (0-3). Log entry 2. -/
opaque lineDraw : Nat → BitVec 3

end Sys2Proof.Config
end

