-- ==== Sys2Proof/Machine/State.lean ====
section
/-! DEFINITION. The state of the station as plain data, block by block as the manual's block overview lays it out
(00_scope.md), the faults and refusals, and the state after a power-on reset. -/

namespace Sys2Proof.Machine

open Sys2Proof

/-- No command of this block stops: the manual gives every one an effect or lets it change nothing, so there is no fault
to raise, and the type has no constructor (safe). -/
inductive Fault
  deriving DecidableEq, Repr

/-- What a command may be refused for. -/
inductive Refusal
  /-- Raised only by an arm of `exec` whose command has no meaning yet (safe: nothing can be proved of it). No arm raises
  it: every row of the table is modelled. -/
  | notModelled (mnemonic : String)
  deriving DecidableEq, Repr

/-! ## One item per channel, sign or gate -/

/-- One item for each of the channels 1 to 4. -/
structure PerChan (α : Type) where
  one : α
  two : α
  three : α
  four : α
  deriving DecidableEq, Repr

/-- One item for each of the sign addresses 1 to 3. -/
structure PerSign (α : Type) where
  one : α
  two : α
  three : α
  deriving DecidableEq, Repr

/-- One item for gate E and one for gate W. -/
structure PerGate (α : Type) where
  east : α
  west : α
  deriving DecidableEq, Repr

def PerChan.get {α : Type} (v : PerChan α) : Chan → α
  | .c1 => v.one
  | .c2 => v.two
  | .c3 => v.three
  | .c4 => v.four

def PerChan.set {α : Type} (v : PerChan α) (c : Chan) (a : α) : PerChan α :=
  match c with
  | .c1 => { v with one := a }
  | .c2 => { v with two := a }
  | .c3 => { v with three := a }
  | .c4 => { v with four := a }

def PerChan.fill {α : Type} (a : α) : PerChan α := ⟨a, a, a, a⟩

def PerSign.get {α : Type} (v : PerSign α) : Sign → α
  | .s1 => v.one
  | .s2 => v.two
  | .s3 => v.three

def PerSign.set {α : Type} (v : PerSign α) (n : Sign) (a : α) : PerSign α :=
  match n with
  | .s1 => { v with one := a }
  | .s2 => { v with two := a }
  | .s3 => { v with three := a }

def PerSign.fill {α : Type} (a : α) : PerSign α := ⟨a, a, a⟩

def PerGate.get {α : Type} (v : PerGate α) : Gate → α
  | .e => v.east
  | .w => v.west

def PerGate.set {α : Type} (v : PerGate α) (g : Gate) (a : α) : PerGate α :=
  match g with
  | .e => { v with east := a }
  | .w => { v with west := a }

def PerGate.fill {α : Type} (a : α) : PerGate α := ⟨a, a⟩

/-! ## Configuration and start-up (11_start_up_and_configuration.md) -/

/-- The stage of start-up (R182-R187). QUIET is a sub-state of RUNNING, held in `Startup.quiet`. -/
inductive Phase
  | configRead | joining | settling | running | configFault
  deriving DecidableEq, Repr

inductive ChannelMode
  | off | rate | total | width
  deriving DecidableEq, Repr

inductive Edge
  | single | double
  deriving DecidableEq, Repr

/-- The weather quantity a channel supplies; `none` is NONE. -/
inductive Role
  | none | wind | temp | precip | depth
  deriving DecidableEq, Repr

inductive Direction
  | above | below
  deriving DecidableEq, Repr

inductive SignRole
  | notFitted | eastApproach | westApproach | panel
  deriving DecidableEq, Repr

/-- The settings of one channel after substitution (table 'Channel settings', R180). -/
structure ChannelConfig where
  mode : ChannelMode
  edge : Edge
  role : Role
  gain : Int
  offset : Int
  limit : Int
  direction : Direction
  hold : Nat
  release : Nat
  window : Nat
  deriving DecidableEq, Repr

/-- The thresholds T1 to T5 (R42). -/
structure Thresholds where
  t1 : Nat
  t2 : Nat
  t3 : Nat
  t4 : Nat
  t5 : Nat
  deriving DecidableEq, Repr

/-- The class default templates of classes 1 to 8 (R132). -/
structure Templates where
  d1 : Byte
  d2 : Byte
  d3 : Byte
  d4 : Byte
  d5 : Byte
  d6 : Byte
  d7 : Byte
  d8 : Byte
  deriving DecidableEq, Repr

/-- The configuration values in use (R180, R191). Distances in m, leads in s, the travel limit in 0.1 s. -/
structure StationConfig where
  chainage : Nat
  segmentHalf : Nat
  slideHalf : Nat
  influence : Nat
  controlFirst : Nat
  controlLast : Nat
  channels : PerChan ChannelConfig
  thresholds : Thresholds
  hysteresis : Nat
  transport : Nat
  /-- The autoclose level, `none` for OFF. -/
  autoclose : Option Nat
  announceLead : Nat
  fitted : PerGate Bool
  reach : Nat
  gateLead : Nat
  slideLead : Nat
  travelLimit : Nat
  signRoles : PerSign SignRole
  lookAheads : PerSign Nat
  templates : Templates
  deriving DecidableEq, Repr

/-- The defaults of R180 where it gives one, 0 where every value is in range. -/
def ChannelConfig.defaults : ChannelConfig :=
  { mode := .off, edge := .single, role := .none, gain := 0, offset := 0, limit := 32767, direction := .above,
    hold := 3, release := 0, window := 1 }

/-- The defaults of R180 where it gives one, 0 where every value is in range: what the typed configuration holds while the
image is unread. DESIGN CHOICE, log entry 3. -/
def StationConfig.defaults : StationConfig :=
  { chainage := 0, segmentHalf := 1500, slideHalf := 400, influence := 3000, controlFirst := 29, controlLast := 31,
    channels := .fill ChannelConfig.defaults, thresholds := ⟨40, 80, 120, 160, 200⟩, hysteresis := 15, transport := 70,
    autoclose := some 4, announceLead := 1800, fitted := .fill false, reach := 2000, gateLead := 120, slideLead := 20,
    travelLimit := 450, signRoles := .fill .notFitted, lookAheads := .fill 3000,
    templates := ⟨0, 0, 0, 0, 0, 0, 0, 0⟩ }

/-- The start-up controller (tables of chapters 10 and 11). -/
structure Startup where
  phase : Phase
  /-- The station address sampled from the straps, 0 to 31 (R178). -/
  address : Byte
  /-- The bit-rate code sampled from the straps (R178). -/
  rateCode : BitVec 2
  /-- The 128 bytes of the configuration image, substitutions applied, or unread (R179, R180). -/
  image : Option (List Byte)
  /-- The values in use, read from the image (R180, R191). -/
  config : StationConfig
  /-- Configuration-substituted (R180). -/
  substituted : Bool
  /-- Whether the last reset was warm: the first condition of R181. -/
  warm : Bool
  /-- Retained-memory validity, as judged in CONFIG-READ (R181). -/
  retainedValid : Bool
  /-- QUIET (R173-R177). -/
  quiet : Bool
  /-- The QUIET entry timer: stopped, or 0 to 300 s (R174). -/
  entryTimer : Option Nat
  deriving DecidableEq, Repr

/-- Station time (00_scope.md, Time; R182) and where the minute and hour divisions of it stand. -/
structure Clock where
  /-- Station time in whole seconds since the end of CONFIG-READ. -/
  time : Nat
  /-- 10 microsecond ticks since the present second began, 0 to 99,999 (the model's own: log entry 1). -/
  tick : Nat
  /-- Minute closes taken since the end of CONFIG-READ (the model's own: log entry 1). -/
  minutesClosed : Nat
  /-- Hour closes taken since the end of CONFIG-READ (the model's own: log entry 1). -/
  hoursClosed : Nat
  deriving DecidableEq, Repr

/-- The levels of the field input pins, which outlive a reset (log entry 4). -/
structure Pins where
  /-- The sense line of each channel: high or low. -/
  sense : PerChan Bool
  /-- The slide contact: closed or open. -/
  contact : Bool
  openLimit : PerGate Bool
  closedLimit : PerGate Bool
  /-- The key switch stands at LOCAL. -/
  keyLocal : Bool
  deriving DecidableEq, Repr

/-! ## Observation unit (01_observation_channels.md) -/

/-- One entry of a channel's current-hour list (R12, R13). An absent sample has both parts ABSENT; only a RATE sample
carries a maximum. -/
structure MinuteSample where
  value : Value
  maximum : Value
  deriving DecidableEq, Repr

structure Channel where
  /-- Effective mode and role (R1, R2). -/
  mode : ChannelMode
  role : Role
  windowCount : Nat
  minuteCount : Nat
  hourCount : Nat
  /-- The sense line was low at some time in the window in progress (R5). -/
  windowLow : Bool
  /-- RATE windows ended since the end of CONFIG-READ (the model's own: log entry 1). -/
  windowsEnded : Nat
  /-- Accumulated sense-low time of the minute, in 10 microsecond ticks (R6). -/
  lowTicks : Nat
  /-- The pulse in progress: whole 10 microsecond ticks since its rising edge (R7). -/
  pulse : Option Nat
  /-- The silence timer of a WIDTH channel: ticks since it was started (R8). -/
  silence : Option Nat
  /-- The window samples that ended in the present minute, oldest first (R12). -/
  windows : List Value
  /-- The last present width sample of the present minute (R13). -/
  minuteWidth : Value
  latest : Value
  hourPeak : Value
  clamped : Bool
  alert : Bool
  run : Nat
  /-- The current-hour minute samples, oldest first (R12-R14). -/
  minutes : List MinuteSample
  deriving DecidableEq, Repr

/-- The channel state after either reset (table 'Channel and contact state after reset'). -/
def Channel.reset : Channel :=
  { mode := .off, role := .none, windowCount := 0, minuteCount := 0, hourCount := 0, windowLow := false,
    windowsEnded := 0, lowTicks := 0, pulse := none, silence := none, windows := [], minuteWidth := none,
    latest := none, hourPeak := none, clamped := false, alert := false, run := 0, minutes := [] }

inductive SlideState
  | armed | confirming | tripped
  deriving DecidableEq, Repr

/-- The slide contact supervisor (R19, R20); timers count ticks since they were started. -/
structure Slide where
  state : SlideState
  confirm : Option Nat
  rearm : Option Nat
  deferred : Bool
  deriving DecidableEq, Repr

/-! ## Hour ring (02_the_hour_ring.md) -/

structure HourRecord where
  serial : Word16
  isPartial : Bool
  present : PerChan Nat
  precipitation : Value
  meanWind : Value
  gust : Value
  tempMin : Value
  tempMax : Value
  depth : Value
  deriving DecidableEq, Repr

/-- Retained memory (R181): what a warm reset keeps. -/
structure Retained where
  /-- The hourly records, newest first (R30). -/
  records : List HourRecord
  /-- The record count (R30). -/
  count : Nat
  hourSerial : Word16
  /-- Closing and opening histories, newest first, in 0.1 s (R166). -/
  closing : PerGate (List Nat)
  opening : PerGate (List Nat)
  /-- The own serial counter (R109). -/
  ownSerial : Byte
  /-- The configuration checksum of the last start with a usable image. -/
  checksum : Word16
  /-- Whether the integrity check matches the contents. -/
  integrity : Bool
  deriving DecidableEq, Repr

/-! ## Hazard unit (03_avalanche_hazard_computation.md) -/

structure Hazard where
  termA : Nat
  termB : Nat
  termC : Nat
  termD : Nat
  score : Nat
  degraded : Bool
  computed : Nat
  floorLevel : Nat
  floorRemaining : Nat
  neighbourFloor : Nat
  neighbourSilent : Bool
  effective : Nat
  liftCounter : Nat
  /-- The override hold's remaining time, `none` when it is not running (R53). -/
  hold : Option Nat
  deriving DecidableEq, Repr

/-! ## Line unit (04_the_pass_line.md) -/

/-- A record id: origin address and origin serial. -/
structure RecId where
  origin : Byte
  serial : Byte
  deriving DecidableEq, Repr

/-- A queue entry's kind and identity (R65). Its class follows from the kind, its arrival place from its place in the
queue. -/
inductive Bulletin
  | alert (id : RecId)
  | closure (id : RecId)
  | recap (target : Byte)
  | status
  | announce
  deriving DecidableEq, Repr

/-- The receiver's states (R57); `inactive` before the end of CONFIG-READ (R77). -/
inductive ReceiverState
  | inactive | hunting | ready | assembling | discarding
  deriving DecidableEq, Repr

/-- The in-flight bulletin (R71): its kind and identity, its sequence, and its characters from header to CRC. -/
structure Flight where
  bulletin : Bulletin
  sequence : Byte
  frame : List Byte
  deriving DecidableEq, Repr

/-- A transmit wait (R69, R70, R73). -/
inductive Wait
  /-- Counting idle: the class, the retry extension and the draw in Tc, and the idle counted since the reference instant
  in millionths of Tc. -/
  | counting (cls : Nat) (extension : Nat) (draw : Nat) (elapsed : Int)
  /-- Interrupted by a start bit until the frame on the line ends (R70). -/
  | interrupted
  deriving DecidableEq, Repr

/-- A frame being sent: how many characters have been echoed and matched, whether a comparison has failed, and the time
since the attempt began in millionths of Tc (R72). -/
structure Transmission where
  echoed : Nat
  failed : Bool
  elapsed : Nat
  deriving DecidableEq, Repr

structure Line where
  receiver : ReceiverState
  buffer : List Byte
  /-- The frame being assembled is the station's own echo (R64). -/
  echo : Bool
  /-- Idle since the end of the last stop bit, in millionths of Tc; negative while that character is on the line. -/
  idle : Int
  queue : List Bulletin
  wait : Option Wait
  inFlight : Option Flight
  attempts : Nat
  sending : Option Transmission
  ownSequence : Byte
  lineTrouble : Bool
  successRun : Nat
  addressConflict : Bool
  /-- The MODEL's own: how many random draws have been made (log entry 2). -/
  draws : Nat
  deriving DecidableEq, Repr

/-! ## Peer table (05_bulletins_and_the_peer_table.md) -/

inductive Presence
  | heard | late | silent
  deriving DecidableEq, Repr

structure Peer where
  address : Byte
  /-- The role: CONTROL, or ROADSIDE (R79). -/
  control : Bool
  chainage : Option Nat
  lastSequence : Byte
  age : Nat
  interval : Nat
  presence : Presence
  level : Option Nat
  gap : Bool
  recapTimer : Option Nat
  deriving DecidableEq, Repr

structure PeerTable where
  /-- In address order (R79). -/
  entries : List Peer
  /-- Seconds since a STATUS entered flight, `none` when stopped (R90). -/
  statusTimer : Option Nat
  statusInterval : Nat
  /-- Seconds since an ANNOUNCE entered flight, `none` when stopped (R93). -/
  announceTimer : Option Nat
  deriving DecidableEq, Repr

/-! ## Closure register (06_the_closure_register.md) -/

inductive ClosureKind
  | slide | avalanche | operator | season
  deriving DecidableEq, Repr

inductive ClosureState
  | announced | inForce | lifted
  deriving DecidableEq, Repr

/-- A closure record; its index is its place in `Register.slots`. Times in s. -/
structure ClosureRecord where
  id : RecId
  revision : Byte
  kind : ClosureKind
  scopeLo : Nat
  scopeHi : Nat
  state : ClosureState
  lead : Nat
  duration : Option Nat
  template : Byte
  age : Nat
  stale : Bool
  display : Nat
  own : Bool
  deriving DecidableEq, Repr

structure Register where
  /-- The indices 0 to 15: always sixteen places (R95). -/
  slots : List (Option ClosureRecord)
  walkerIndex : Nat
  /-- Walker mode FAST, or NORMAL (R118). -/
  walkerFast : Bool
  /-- Seconds to the walker's next step, `none` when it does not run. -/
  walkerTimer : Option Nat
  full : Bool
  slidePending : Bool
  deriving DecidableEq, Repr

/-! ## Notice selector (07_notice_selection.md) -/

/-- A page of a page set (R129). A parameter that is ABSENT holds -32768 (R131). -/
structure Page where
  template : Byte
  p1 : Int
  p2 : Int
  p3 : Int
  p4 : Int
  carries : Option RecId
  deriving DecidableEq, Repr

structure PageSet where
  pageA : Page
  pageB : Option Page
  cls : Nat
  deriving DecidableEq, Repr

/-- What a candidate stands for (R126, R127). -/
inductive Source
  | record (index : Nat) (id : RecId)
  | hazard
  | alert (ch : Chan)
  | data
  | weather
  deriving DecidableEq, Repr

structure Candidate where
  cls : Nat
  distance : Nat
  source : Source
  deriving DecidableEq, Repr

structure SignState where
  role : SignRole
  lookAhead : Nat
  candidates : List Candidate
  built : Option PageSet
  offered : Option PageSet
  acknowledged : Option PageSet
  /-- The displayed-since map (R137). -/
  displayed : List (RecId × Nat)
  /-- The refused templates, oldest first (R133). -/
  refused : List Byte
  /-- The refresh timer in s, `none` when stopped (R135). -/
  refresh : Option Nat
  deriving DecidableEq, Repr

/-- The selector's state of one sign after either reset (table of chapter 07). -/
def SignState.reset : SignState :=
  { role := .notFitted, lookAhead := 0, candidates := [], built := none, offered := none, acknowledged := none,
    displayed := [], refused := [], refresh := none }

/-! ## Sign link controller (08_the_sign_link.md) -/

/-- The link state; PAUSED remembers the state it came from (R144). -/
inductive LinkState
  | idle | sending | awaiting | pausedSending | pausedAwaiting
  deriving DecidableEq, Repr

inductive Health
  | notFitted | untried | ok | fault
  deriving DecidableEq, Repr

/-- The probe timer (R149): stopped, counting from the entry to FAULT or from the last failed probe, in ticks of 10
microseconds, or due. -/
inductive ProbeTimer
  | stopped
  | counting (ticks : Nat)
  | due
  deriving DecidableEq, Repr

/-- The transfer in progress (R142). -/
structure Transfer where
  sign : Sign
  pages : PageSet
  probe : Bool
  /-- How far the sending has come, in millionths of a sign-link character (R140). -/
  progress : Nat
  /-- The pause total, in ticks (R144). -/
  pause : Nat
  /-- The reply timer: ticks left of 2 s (R142). -/
  reply : Nat
  deriving DecidableEq, Repr

structure SignLink where
  health : Health
  failures : Nat
  waiting : Option PageSet
  probe : ProbeTimer
  deriving DecidableEq, Repr

structure Link where
  state : LinkState
  /-- The flow state HELD, or RELEASED (R144). -/
  held : Bool
  transfer : Option Transfer
  lastServed : Sign
  signs : PerSign SignLink
  deriving DecidableEq, Repr

/-- A character on the reply pair, with whether its stop bit stands at the non-idle level: a framing error (R141). -/
structure ReplyChar where
  char : Byte
  framingError : Bool
  deriving DecidableEq, Repr

/-- The reply pair as the controller hears it (R140, R141). -/
structure ReplyPair where
  /-- The MODEL's own: the characters the panels send next, first in, first out (log entry 9). -/
  arriving : List ReplyChar
  /-- The character on the pair: its start bit has come and its stop bit has not ended. -/
  onPair : Option ReplyChar
  /-- Millionths of a sign-link character since that character's start bit or, with none on the pair, since the end of the
  last stop bit, where the count stops at two character times. -/
  elapsed : Nat
  /-- The reply being assembled. -/
  reply : List Byte
  /-- A character of it had a framing error. -/
  framingError : Bool
  deriving DecidableEq, Repr

/-! ## Gate controller (09_snow_gates.md) -/

inductive GateState
  | opened | closePending | closing | closed | opening | reversing | stalled | lockedOut | unpositioned
  deriving DecidableEq, Repr

inductive Demand
  | opened | closed
  deriving DecidableEq, Repr

structure GateUnit where
  state : GateState
  /-- The demand; of a fitted gate in SETTLING and RUNNING `none` only in LOCAL while the local demand is NONE (R155, R169; log
  entry 11). In JOINING it is `none` while the key is LOCAL (log entry 50). -/
  demand : Option Demand
  demanding : Option RecId
  /-- When the gate last entered CLOSE-PENDING (station time). -/
  pendingEntry : Option Nat
  /-- The travel timer: ticks since the travel began (R160). -/
  travel : Option Nat
  /-- The present travel began while the opposite limit was active (R166). -/
  fullTravel : Bool
  /-- The dwell timer: ticks since it was started (R162). -/
  dwell : Option Nat
  /-- The stall wait timer: ticks since it was started (R163). -/
  stallWait : Option Nat
  stalls : Nat
  slow : Bool
  deriving DecidableEq, Repr

structure Gates where
  units : PerGate GateUnit
  /-- The key state LOCAL, or REMOTE. -/
  keyLocal : Bool
  localDemand : Option Demand
  deriving DecidableEq, Repr

/-! ## The station -/

structure State where
  /-- The commands that are waiting, first in, first out. -/
  pending : List Instr
  pins : Pins
  startup : Startup
  clock : Clock
  channels : PerChan Channel
  slide : Slide
  retained : Retained
  /-- The ring's partial-pending flag (R29). -/
  partialPending : Bool
  hazard : Hazard
  line : Line
  peers : PeerTable
  register : Register
  signs : PerSign SignState
  link : Link
  replyPair : ReplyPair
  gates : Gates
  deriving DecidableEq, Repr

/-! ## Reset values -/

def Startup.reset : Startup :=
  { phase := .configRead, address := 0, rateCode := 0, image := none, config := .defaults, substituted := false,
    warm := false, retainedValid := false, quiet := false, entryTimer := none }

def Clock.reset : Clock := { time := 0, tick := 0, minutesClosed := 0, hoursClosed := 0 }

/-- The pin levels the model starts from: every sense line low, the contact open, no limit active, the key at REMOTE.
DESIGN CHOICE, log entry 4. -/
def Pins.low : Pins :=
  { sense := .fill false, contact := false, openLimit := .fill false, closedLimit := .fill false, keyLocal := false }

def Slide.reset : Slide := { state := .armed, confirm := none, rearm := none, deferred := false }

/-- Retained memory after a power-on reset: cleared, with nothing written, so the integrity check does not match (R181). -/
def Retained.lost : Retained :=
  { records := [], count := 0, hourSerial := 0, closing := .fill [], opening := .fill [], ownSerial := 0,
    checksum := 0, integrity := false }

def Hazard.reset : Hazard :=
  { termA := 0, termB := 0, termC := 0, termD := 0, score := 0, degraded := false, computed := 0, floorLevel := 0,
    floorRemaining := 0, neighbourFloor := 0, neighbourSilent := false, effective := 0, liftCounter := 0, hold := none }

/-- The line unit after either reset (table 'Line unit state after reset'); the count of draws is the model's own and
goes on. -/
def Line.reset (draws : Nat) : Line :=
  { receiver := .inactive, buffer := [], echo := false, idle := 0, queue := [], wait := none, inFlight := none,
    attempts := 0, sending := none, ownSequence := 0, lineTrouble := false, successRun := 0, addressConflict := false,
    draws := draws }

def PeerTable.reset : PeerTable :=
  { entries := [], statusTimer := none, statusInterval := 60, announceTimer := none }

def Register.reset : Register :=
  { slots := List.replicate 16 none, walkerIndex := 0, walkerFast := true, walkerTimer := none, full := false,
    slidePending := false }

def SignLink.reset : SignLink := { health := .notFitted, failures := 0, waiting := none, probe := .stopped }

def Link.reset : Link :=
  { state := .idle, held := false, transfer := none, lastServed := .s3, signs := .fill SignLink.reset }

/-- The reply pair with no reply begun and nothing on its way. -/
def ReplyPair.reset : ReplyPair :=
  { arriving := [], onPair := none, elapsed := 0, reply := [], framingError := false }

/-- A gate after either reset, before its limits are read: every output off, no timer running (R172). The state shown
until the end of CONFIG-READ is a DESIGN CHOICE, log entry 3. -/
def GateUnit.reset : GateUnit :=
  { state := .unpositioned, demand := some .opened, demanding := none, pendingEntry := none, travel := none,
    fullTravel := false, dwell := none, stallWait := none, stalls := 0, slow := false }

def Gates.reset : Gates := { units := .fill GateUnit.reset, keyLocal := false, localDemand := none }

/-- The station right after a power-on reset, in CONFIG-READ, strapped to address 0 and 9600 bit/s with every pin low
(the straps and the pins are DESIGN CHOICES, log entries 3 and 4: POWER_ON_RESET samples the straps). -/
def State.reset : State :=
  { pending := [], pins := .low, startup := .reset, clock := .reset, channels := .fill Channel.reset, slide := .reset,
    retained := .lost, partialPending := true, hazard := .reset, line := .reset 0, peers := .reset,
    register := .reset, signs := .fill SignState.reset, link := .reset, replyPair := .reset,
    gates := .reset }

/-! ## Named updates, one per block -/

def State.withPending (s : State) (x : List Instr) : State := { s with pending := x }
def State.withPins (s : State) (x : Pins) : State := { s with pins := x }
def State.withStartup (s : State) (x : Startup) : State := { s with startup := x }
def State.withClock (s : State) (x : Clock) : State := { s with clock := x }
def State.withChannels (s : State) (x : PerChan Channel) : State := { s with channels := x }
def State.withSlide (s : State) (x : Slide) : State := { s with slide := x }
def State.withRetained (s : State) (x : Retained) : State := { s with retained := x }
def State.withPartialPending (s : State) (x : Bool) : State := { s with partialPending := x }
def State.withHazard (s : State) (x : Hazard) : State := { s with hazard := x }
def State.withLine (s : State) (x : Line) : State := { s with line := x }
def State.withPeers (s : State) (x : PeerTable) : State := { s with peers := x }
def State.withRegister (s : State) (x : Register) : State := { s with register := x }
def State.withSigns (s : State) (x : PerSign SignState) : State := { s with signs := x }
def State.withLink (s : State) (x : Link) : State := { s with link := x }
def State.withReplyPair (s : State) (x : ReplyPair) : State := { s with replyPair := x }
def State.withGates (s : State) (x : Gates) : State := { s with gates := x }

end Sys2Proof.Machine
end

