-- ==== Sys2Proof/Machine/Ops.lean ====
section
/-! DEFINITION. Shared operations that no one block owns: the units of time, the rounding and scaling arithmetic,
readers of the state that several blocks use, and the register's geometry (R96, R97, R83). -/

namespace Sys2Proof.Machine

open Sys2Proof

/-! ## Units of time (log entry 1) -/

/-- Ticks of 10 microseconds in one second. -/
def ticksPerSecond : Nat := 100000

/-- Ticks in 0.1 s. -/
def ticksPerTenth : Nat := 10000

/-- One character time, in the millionths of a character time that the line clocks count. -/
def charUnits : Nat := 1000000

/-- How many millionths of Tc pass in one tick: the bit rate of the strap code (R178), since Tc is ten bits. -/
def lineRate (code : BitVec 2) : Nat :=
  if code = 0 then 9600 else if code = 1 then 19200 else if code = 2 then 38400 else 57600

/-- How many millionths of a sign-link character pass in one tick (9600 bit/s, ten bits a character, R140). -/
def signLinkRate : Nat := 9600

/-! ## Arithmetic -/

/-- `a / b` rounded half away from zero (00_scope.md, Engineering values). -/
def roundDiv (a : Int) (b : Nat) : Int :=
  a.sign * (((2 * a.natAbs + b) / (2 * b) : Nat) : Int)

/-- Clamp to -32767 to +32767 (R9). -/
def clampValue (x : Int) : Int :=
  if x < -32767 then -32767 else if 32767 < x then 32767 else x

/-- The sum of the third step of R9, before the clamp. -/
def scaleRaw (raw : Nat) (gain offset : Int) : Int :=
  roundDiv (raw * gain) 1024 + offset

/-- R9: the engineering value of a raw count or width. -/
def scale (raw : Nat) (gain offset : Int) : Int :=
  clampValue (scaleRaw raw gain offset)

/-- R10: whether the clamp of R9 changed the value. -/
def scaleClamped (raw : Nat) (gain offset : Int) : Bool :=
  scale raw gain offset != scaleRaw raw gain offset

/-- Limit a whole number to `lo`-`hi` and read it as a natural number. -/
def limitNat (x : Int) (hi : Nat) : Nat :=
  if x < 0 then 0 else if (hi : Int) < x then hi else x.toNat

/-- Add one to a 24-bit running count, which stops at 16,777,215 (R4). -/
def countUp (n : Nat) : Nat := min (n + 1) 16777215

/-- The values that are present. -/
def presentValues (vs : List Value) : List Int := vs.filterMap id

/-- How many values are ABSENT. -/
def absentCount (vs : List Value) : Nat := (vs.filter Option.isNone).length

/-- The largest value present, ABSENT when none is. -/
def maxValue (vs : List Value) : Value :=
  vs.foldl (fun m v => match m, v with
    | some a, some b => some (max a b)
    | none, x => x
    | x, none => x) none

/-- The smallest value present, ABSENT when none is. -/
def minValue (vs : List Value) : Value :=
  vs.foldl (fun m v => match m, v with
    | some a, some b => some (min a b)
    | none, x => x
    | x, none => x) none

/-- Whole units of `unit` that cover `n`, rounded up. -/
def ceilDiv (n unit : Nat) : Nat := (n + (unit - 1)) / unit

/-! ## Order of channels, signs and gates -/

def Chan.order : List Chan := [.c1, .c2, .c3, .c4]
def Sign.order : List Sign := [.s1, .s2, .s3]
def Gate.order : List Gate := [.e, .w]

/-- The sign-link address of a sign. -/
def signAddress : Sign → Nat
  | .s1 => 1
  | .s2 => 2
  | .s3 => 3

/-- Apply `f` to each gate, E first. -/
def forGates (f : Gate → State → State) (s : State) : State := f .w (f .e s)

/-- Apply `f` to each sign, in address order. -/
def forSigns (f : Sign → State → State) (s : State) : State := f .s3 (f .s2 (f .s1 s))

/-- Apply `f` to each channel, in number order. -/
def forChannels (f : Chan → State → State) (s : State) : State := f .c4 (f .c3 (f .c2 (f .c1 s)))

/-! ## Readers -/

def State.phase (s : State) : Phase := s.startup.phase
def State.config (s : State) : StationConfig := s.startup.config
/-- Station time in whole seconds. -/
def State.now (s : State) : Nat := s.clock.time

/-- JOINING, SETTLING or RUNNING: the phases in which the observation unit, the register and the hazard unit run
(R3, R35, R95). -/
def Phase.operating : Phase → Bool
  | .joining => true
  | .settling => true
  | .running => true
  | _ => false

/-- SETTLING or RUNNING: the phases in which the selector, the arbiter and the gates' motors run (R124, R151, R154). -/
def Phase.serving : Phase → Bool
  | .settling => true
  | .running => true
  | _ => false

/-- The channel that holds a role (R2). -/
def State.channelOf (s : State) (r : Role) : Option Chan :=
  Chan.order.find? (fun c => (s.channels.get c).role = r)

/-- The settings of a channel. -/
def State.channelConfig (s : State) (c : Chan) : ChannelConfig := s.config.channels.get c

/-- The latest value of the channel that holds a role, ABSENT when no channel does (R2, R11). -/
def State.latestOf (s : State) (r : Role) : Value :=
  match s.channelOf r with
  | some c => (s.channels.get c).latest
  | none => none

/-- The hour peak of the channel that holds a role (R11). -/
def State.peakOf (s : State) (r : Role) : Value :=
  match s.channelOf r with
  | some c => (s.channels.get c).hourPeak
  | none => none

/-- The alert of the channel that holds a role, clear when no channel does (R92). -/
def State.alertOf (s : State) (r : Role) : Bool :=
  match s.channelOf r with
  | some c => (s.channels.get c).alert
  | none => false

/-- Whether an address lies in the control address range in force: the configured one, or 29-31 in CONFIG-FAULT (R79). -/
def State.isControl (s : State) (a : Byte) : Bool :=
  if s.phase = .configFault then decide (29 ≤ a.toNat ∧ a.toNat ≤ 31)
  else decide (s.config.controlFirst ≤ a.toNat ∧ a.toNat ≤ s.config.controlLast)

/-- The record at a register index. -/
def State.recordAt (s : State) (i : Nat) : Option ClosureRecord := (s.register.slots[i]?).join

/-- The records held, with their indices, in index order, starting from index `i`. -/
def indexed (i : Nat) : List (Option ClosureRecord) → List (Nat × ClosureRecord)
  | [] => []
  | some r :: rest => (i, r) :: indexed (i + 1) rest
  | none :: rest => indexed (i + 1) rest

/-- The register's records with their indices, in index order. -/
def State.records (s : State) : List (Nat × ClosureRecord) := indexed 0 s.register.slots

/-- The record with an id, and its index. -/
def State.findRecord (s : State) (id : RecId) : Option (Nat × ClosureRecord) :=
  s.records.find? (fun p => p.2.id = id)

/-! ## Geometry (R96, R97): `c` is the station's chainage -/

def ClosureRecord.covers (r : ClosureRecord) (x : Nat) : Bool := decide (r.scopeLo ≤ x ∧ x ≤ r.scopeHi)

def ClosureRecord.aheadEast (r : ClosureRecord) (c look : Nat) : Bool :=
  decide (c ≤ r.scopeHi ∧ r.scopeLo ≤ c + look)

/-- Ahead WEST: from ≤ c and to ≥ c - L, with c - L formed exactly. -/
def ClosureRecord.aheadWest (r : ClosureRecord) (c look : Nat) : Bool :=
  decide (r.scopeLo ≤ c ∧ c ≤ r.scopeHi + look)

/-- max(0, from - c). -/
def ClosureRecord.distanceEast (r : ClosureRecord) (c : Nat) : Nat := r.scopeLo - c

/-- max(0, c - to). -/
def ClosureRecord.distanceWest (r : ClosureRecord) (c : Nat) : Nat := c - r.scopeHi

/-- 0 when the record covers c, from - c wholly east of it, c - to wholly west of it. -/
def ClosureRecord.separation (r : ClosureRecord) (c : Nat) : Nat := (r.scopeLo - c) + (c - r.scopeHi)

/-- Overlap with the protected range of a gate: [c, c + reach] for gate E, [c - reach, c] for gate W (R153). -/
def ClosureRecord.overlapsGate (r : ClosureRecord) (c reach : Nat) : Gate → Bool
  | .e => r.aheadEast c reach
  | .w => r.aheadWest c reach

/-- Whether a record is ahead of an approach sign within its look-ahead, judged by the sign's role. -/
def ClosureRecord.aheadOf (r : ClosureRecord) (c : Nat) (role : SignRole) (look : Nat) : Bool :=
  match role with
  | .eastApproach => r.aheadEast c look
  | .westApproach => r.aheadWest c look
  | _ => false

/-- R97: relevance to the station, for the signs and gates the configuration declares fitted. -/
def State.relevant (s : State) (r : ClosureRecord) : Bool :=
  let c := s.config.chainage
  r.covers c
    || Sign.order.any (fun n => r.aheadOf c (s.config.signRoles.get n) (s.config.lookAheads.get n))
    || Gate.order.any (fun g => s.config.fitted.get g && r.overlapsGate c s.config.reach g)

/-- R83: whether a peer is in the neighbour set. -/
def State.isNeighbour (s : State) (p : Peer) : Bool :=
  match p.chainage with
  | some x =>
    !p.control && decide (x ≤ s.config.chainage + s.config.influence ∧ s.config.chainage ≤ x + s.config.influence)
  | none => false

/-- The facing sign of a gate: the fitted sign with the gate's approach role at the lowest address (R153). -/
def State.facingSign (s : State) (g : Gate) : Option Sign :=
  let role : SignRole := match g with
    | .e => .eastApproach
    | .w => .westApproach
  Sign.order.find? (fun n => (s.signs.get n).role = role)

/-- The displayed-since time of a record on a sign (R137). -/
def State.displayedSince (s : State) (n : Sign) (id : RecId) : Option Nat :=
  ((s.signs.get n).displayed.find? (fun p => p.1 = id)).map Prod.snd

/-- The health of a sign. -/
def State.health (s : State) (n : Sign) : Health := (s.link.signs.get n).health

/-! ## Updates of one item of a block -/

def State.setChannel (s : State) (c : Chan) (x : Channel) : State := s.withChannels (s.channels.set c x)
def State.setSign (s : State) (n : Sign) (x : SignState) : State := s.withSigns (s.signs.set n x)
def State.setSignLink (s : State) (n : Sign) (x : SignLink) : State :=
  s.withLink { s.link with signs := s.link.signs.set n x }
def State.setGate (s : State) (g : Gate) (x : GateUnit) : State :=
  s.withGates { s.gates with units := s.gates.units.set g x }
def State.setSlot (s : State) (i : Nat) (r : Option ClosureRecord) : State :=
  s.withRegister { s.register with slots := s.register.slots.set i r }

end Sys2Proof.Machine
end

