-- ==== Sys2Proof/Machine/Operands.lean ====
section
/-! DEFINITION. The byte layouts (12_bulletin_page_and_configuration_formats.md): how the characters of a frame, a page set,
a reply and the configuration memory spell the operands of the commands, and how the station spells what it sends. -/

namespace Sys2Proof.Machine

open Sys2Proof

/-! ## Byte order and ABSENT -/

def hiByte (w : Word16) : Byte := (w >>> 8).setWidth 8
def loByte (w : Word16) : Byte := w.setWidth 8

/-- A two-byte value, high byte first. -/
def joinBytes (h l : Byte) : Word16 := h ++ l

/-- A value in two's complement, ABSENT as 8000h. -/
def encodeValue : Value → Word16
  | none => 0x8000#16
  | some x => BitVec.ofInt 16 x

/-- A value read from a page or a bulletin as a number: ABSENT is -32768. -/
def valueNumber : Value → Int
  | none => -32768
  | some x => x

def word (n : Nat) : Word16 := BitVec.ofNat 16 n
def byte (n : Nat) : Byte := BitVec.ofNat 8 n

/-- A bit of a flags byte. -/
def flagBit (b : Bool) (place : Nat) : Byte := if b then 1#8 <<< place else 0#8

/-! ## CRC (R188) -/

def crcShift (r : Word16) : Word16 := if r.msb then (r <<< 1) ^^^ 0x1021#16 else r <<< 1

def crcByte (r : Word16) (b : Byte) : Word16 :=
  crcShift (crcShift (crcShift (crcShift (crcShift (crcShift (crcShift (crcShift (r ^^^ (b ++ 0#8)))))))))

/-- The CRC of R188: generator 1021h, register started at FFFFh, no final inversion. -/
def crc (bytes : List Byte) : Word16 := bytes.foldl crcByte 0xFFFF#16

/-! ## Bulletin bodies (R189) -/

def encodeAnnounce (b : AnnounceBody) : List Byte :=
  [hiByte b.chainage, loByte b.chainage, b.gatesFitted, b.role1, b.role2, b.role3, b.flags]

def parseAnnounce : List Byte → Option AnnounceBody
  | [c1, c0, g, r1, r2, r3, f] => some ⟨joinBytes c1 c0, g, r1, r2, r3, f⟩
  | _ => none

def encodeStatus (b : StatusBody) : List Byte :=
  [hiByte b.chainage, loByte b.chainage, hiByte b.interval, loByte b.interval, b.computed, b.effective, b.score, b.floor,
   b.flags, b.alerts, hiByte b.wind, loByte b.wind, hiByte b.gust, loByte b.gust, hiByte b.temperature, loByte b.temperature,
   hiByte b.depth, loByte b.depth, hiByte b.precipitation, loByte b.precipitation, b.gateE, b.gateW, b.slowTravel,
   b.sign1, b.sign2, b.sign3]

def parseStatus : List Byte → Option StatusBody
  | [c1, c0, i1, i0, lc, le, sc, fl, fg, al, w1, w0, g1, g0, t1, t0, d1, d0, p1, p0, ge, gw, st, s1, s2, s3] =>
    some { chainage := joinBytes c1 c0, interval := joinBytes i1 i0, computed := lc, effective := le, score := sc,
           floor := fl, flags := fg, alerts := al, wind := joinBytes w1 w0, gust := joinBytes g1 g0,
           temperature := joinBytes t1 t0, depth := joinBytes d1 d0, precipitation := joinBytes p1 p0, gateE := ge,
           gateW := gw, slowTravel := st, sign1 := s1, sign2 := s2, sign3 := s3 }
  | _ => none

def encodeClosure (b : ClosureBody) : List Byte :=
  [b.origin, b.serial, b.revision, b.kind, hiByte b.scopeLo, loByte b.scopeLo, hiByte b.scopeHi, loByte b.scopeHi, b.state,
   hiByte b.lead, loByte b.lead, hiByte b.minutes, loByte b.minutes, b.template]

def parseClosure : List Byte → Option ClosureBody
  | [o, n, r, k, f1, f0, t1, t0, st, l1, l0, d1, d0, tp] =>
    some ⟨o, n, r, k, joinBytes f1 f0, joinBytes t1 t0, st, joinBytes l1 l0, joinBytes d1 d0, tp⟩
  | _ => none

def encodeFloor (b : FloorBody) : List Byte := [b.target, b.level, hiByte b.minutes, loByte b.minutes]

def parseFloor : List Byte → Option FloorBody
  | [t, l, d1, d0] => some ⟨t, l, joinBytes d1 d0⟩
  | _ => none

def parseTarget : List Byte → Option Byte
  | [t] => some t
  | _ => none

/-! ## Frames (R188, R61) -/

/-- A frame: header, body, CRC. -/
def encodeFrame (kind source sequence : Byte) (body : List Byte) : List Byte :=
  let covered := kind :: source :: sequence :: byte body.length :: body
  covered ++ [hiByte (crc covered), loByte (crc covered)]

/-- The source check of R61: 1 to 31. -/
def goodSource (a : Byte) : Bool := decide (1 ≤ a.toNat ∧ a.toNat ≤ 31)

/-- The kind check of R61: the command that a good frame of a kind code, source, sequence and body is. -/
def bodyCommand (kind : Byte) (h : FrameHeader) (body : List Byte) : Option Instr :=
  if kind = 1#8 then (parseAnnounce body).map (.announceReceived h)
  else if kind = 2#8 then (parseStatus body).map (.statusReceived h)
  else if kind = 3#8 then (parseClosure body).map (.closureReceived h)
  else if kind = 4#8 then (parseClosure body).map (.alertReceived h)
  else if kind = 5#8 then (parseFloor body).map (.floorReceived h)
  else if kind = 6#8 then (parseTarget body).map (.queryReceived h)
  else if kind = 7#8 then (parseTarget body).map (.recapReceived h)
  else none

/-- The checks of R61 on an assembled frame: the command it is, `none` when it fails any of them. -/
def checkFrame (chars : List Byte) : Option Instr :=
  match chars with
  | kind :: source :: sequence :: len :: rest =>
    if chars.length < 6 then none
    else if len.toNat + 6 ≠ chars.length then none
    else if [hiByte (crc (chars.take (4 + len.toNat))), loByte (crc (chars.take (4 + len.toNat)))]
        ≠ rest.drop len.toNat then none
    else if goodSource source = false then none
    else bodyCommand kind ⟨source, sequence⟩ (rest.take len.toNat)
  | _ => none

/-- The header of a received-bulletin command. -/
def frameHeader : Instr → Option FrameHeader
  | .announceReceived h _ => some h
  | .statusReceived h _ => some h
  | .closureReceived h _ => some h
  | .alertReceived h _ => some h
  | .floorReceived h _ => some h
  | .queryReceived h _ => some h
  | .recapReceived h _ => some h
  | _ => none

/-! ## Closure field codes (R189) -/

def closureKindCode : ClosureKind → Nat
  | .slide => 1
  | .avalanche => 2
  | .operator => 3
  | .season => 4

def closureKindOf (b : Byte) : Option ClosureKind :=
  if b = 1#8 then some .slide else if b = 2#8 then some .avalanche
  else if b = 3#8 then some .operator else if b = 4#8 then some .season else none

def closureStateCode : ClosureState → Nat
  | .announced => 1
  | .inForce => 2
  | .lifted => 3

def closureStateOf (b : Byte) : Option ClosureState :=
  if b = 1#8 then some .announced else if b = 2#8 then some .inForce else if b = 3#8 then some .lifted else none

/-- R89, R189: a duration in minutes, rounded up; a present one is never sent as 0, the code of an absent one, not even at
the instant of its expiry (log entry 14). -/
def durationMinutes : Option Nat → Word16
  | some d => word (max 1 (ceilDiv d 60))
  | none => 0#16

/-- The body of a CLOSURE or ALERT formed from a record (R89): the lead in seconds, the duration in minutes rounded up. -/
def closureBody (r : ClosureRecord) : ClosureBody :=
  { origin := r.id.origin, serial := r.id.serial, revision := r.revision, kind := byte (closureKindCode r.kind),
    scopeLo := word r.scopeLo, scopeHi := word r.scopeHi, state := byte (closureStateCode r.state), lead := word r.lead,
    minutes := durationMinutes r.duration, template := r.template }

/-! ## Sign-link messages (R190) -/

def pageBytes (p : Page) : List Byte :=
  let w1 := BitVec.ofInt 16 p.p1
  let w2 := BitVec.ofInt 16 p.p2
  let w3 := BitVec.ofInt 16 p.p3
  let w4 := BitVec.ofInt 16 p.p4
  [p.template, hiByte w1, loByte w1, hiByte w2, loByte w2, hiByte w3, loByte w3, hiByte w4, loByte w4]

/-- The characters of a page set's message before its check value. -/
def pageSetHead (n : Sign) (ps : PageSet) : List Byte :=
  match ps.pageB with
  | none => [0x02#8, byte (signAddress n), 1#8] ++ pageBytes ps.pageA
  | some b => [0x02#8, byte (signAddress n), 2#8] ++ pageBytes ps.pageA ++ pageBytes b

/-- The check value: the sum of the characters before it, modulo 65536. -/
def checkValue (n : Sign) (ps : PageSet) : Word16 :=
  (pageSetHead n ps).foldl (fun a b => a + b.setWidth 16) 0#16

/-- The whole message of a page set. -/
def pageSetMessage (n : Sign) (ps : PageSet) : List Byte :=
  pageSetHead n ps ++ [hiByte (checkValue n ps), loByte (checkValue n ps)]

/-- The length of a page set's message: 14 characters with one page, 23 with two. -/
def messageLength (ps : PageSet) : Nat := if ps.pageB.isSome then 23 else 14

/-- Four bits of a reply, as the characters 40h to 4Fh. -/
def nibbleChar (x : BitVec 4) : Byte := 0x40#8 ||| x.setWidth 8

/-- The four bits a reply character holds, `none` outside 40h-4Fh. -/
def charNibble (c : Byte) : Option (BitVec 4) :=
  if c &&& 0xF0#8 = 0x40#8 then some (c.setWidth 4) else none

/-- The characters of an ACK. -/
def encodeAck (address : BitVec 4) (check : Word16) : List Byte :=
  [0x06#8, nibbleChar address, nibbleChar ((check >>> 12).setWidth 4), nibbleChar ((check >>> 8).setWidth 4),
   nibbleChar ((check >>> 4).setWidth 4), nibbleChar (check.setWidth 4)]

/-- The characters of a NAK. -/
def encodeNak (address reason page : BitVec 4) : List Byte :=
  [0x15#8, nibbleChar address, nibbleChar reason, nibbleChar page]

/-- The reply checks of R141 and R190 that need only the reply's characters: the command a reply is, `none` when it is
discarded for its type, its length, its characters or its reason. -/
def checkReply : List Byte → Option Instr
  | [t, a, x3, x2, x1, x0] =>
    if t = 0x06#8 then
      match charNibble a, charNibble x3, charNibble x2, charNibble x1, charNibble x0 with
      | some a, some y3, some y2, some y1, some y0 => some (.ackReceived a (y3 ++ y2 ++ y1 ++ y0))
      | _, _, _, _, _ => none
    else none
  | [t, a, r, p] =>
    if t = 0x15#8 then
      match charNibble a, charNibble r, charNibble p with
      | some a, some r, some p =>
        if r = 1#4 then some (.nakUnknownTemplate a p)
        else if r = 2#4 then some (.nakBadFormat a p) else none
      | _, _, _ => none
    else none
  | _ => none

/-! ## The configuration memory (R191, R180) -/

/-- A byte of an image; a byte that never arrived is taken as zero (R179). -/
def imageByte (img : List Byte) (off : Nat) : Byte := (img[off]?).getD 0#8

def imageWord (img : List Byte) (off : Nat) : Word16 := joinBytes (imageByte img off) (imageByte img (off + 1))

def setImageByte (img : List Byte) (off : Nat) (b : Byte) : List Byte := img.set off b

def setImageWord (img : List Byte) (off : Nat) (w : Word16) : List Byte :=
  (img.set off (hiByte w)).set (off + 1) (loByte w)

/-- The image of the bytes that arrived: 128 of them, the missing ones zero (R179). -/
def imageOf (arrived : List Byte) : List Byte :=
  (arrived ++ List.replicate 128 0#8).take 128

/-- The checksum fault test of R179: bytes 7Eh-7Fh against the CRC of bytes 00h-7Dh. -/
def imageChecksum (img : List Byte) : Word16 := crc (img.take 126)

/-- One value of the memory map, its range and its default (R180, R191); `wide` for two bytes. -/
structure ValueCheck where
  offset : Nat
  wide : Bool
  ok : Nat → Bool
  default : Nat

def between (lo hi : Nat) (x : Nat) : Bool := decide (lo ≤ x ∧ x ≤ hi)

/-- The values of one channel block at `base` (R191). -/
def channelChecks (base : Nat) : List ValueCheck :=
  [⟨base, false, between 0 3, 0⟩,
   ⟨base + 1, false, between 0 1, 0⟩,
   ⟨base + 2, false, between 0 4, 0⟩,
   ⟨base + 7, true, fun x => x != 0x8000, 32767⟩,
   ⟨base + 9, false, between 0 1, 0⟩,
   ⟨base + 10, false, between 1 15, 3⟩,
   ⟨base + 11, true, between 0 32767, 0⟩,
   ⟨base + 13, false, fun x => x == 1 || x == 3 || x == 10, 1⟩]

/-- Every value of R180 that is judged alone and has a range; the thresholds and the control range are judged as sets. -/
def valueChecks : List ValueCheck :=
  [⟨0x02, true, between 100 10000, 1500⟩,
   ⟨0x04, true, between 50 5000, 400⟩,
   ⟨0x06, true, between 500 20000, 3000⟩]
  ++ channelChecks 0x0A ++ channelChecks 0x18 ++ channelChecks 0x26 ++ channelChecks 0x34 ++
  [⟨0x47, false, between 0 40, 15⟩,
   ⟨0x48, true, between 0 32767, 70⟩,
   ⟨0x4A, false, fun x => x == 4 || x == 5 || x == 0, 4⟩,
   ⟨0x4B, true, between 300 7200, 1800⟩,
   ⟨0x4E, true, between 100 10000, 2000⟩,
   ⟨0x50, true, between 30 600, 120⟩,
   ⟨0x52, false, between 10 60, 20⟩,
   ⟨0x53, true, between 100 1200, 450⟩,
   ⟨0x55, false, between 0 3, 0⟩,
   ⟨0x56, false, between 0 3, 0⟩,
   ⟨0x57, false, between 0 3, 0⟩,
   ⟨0x58, true, between 100 20000, 3000⟩,
   ⟨0x5A, true, between 100 20000, 3000⟩,
   ⟨0x5C, true, between 100 20000, 3000⟩]

def ValueCheck.read (k : ValueCheck) (img : List Byte) : Nat :=
  if k.wide then (imageWord img k.offset).toNat else (imageByte img k.offset).toNat

/-- Judge one value: the image with it replaced where it is out of range, and whether it was. -/
def ValueCheck.apply (k : ValueCheck) (p : List Byte × Bool) : List Byte × Bool :=
  if k.ok (k.read p.1) then p
  else (if k.wide then setImageWord p.1 k.offset (word k.default) else setImageByte p.1 k.offset (byte k.default), true)

/-- The thresholds, judged as one value (R180): each 1-255 and strictly increasing. -/
def thresholdsOk (img : List Byte) : Bool :=
  let t := fun k => (imageByte img (0x42 + k)).toNat
  decide (1 ≤ t 0 ∧ t 0 < t 1 ∧ t 1 < t 2 ∧ t 2 < t 3 ∧ t 3 < t 4)

def substituteThresholds (p : List Byte × Bool) : List Byte × Bool :=
  if thresholdsOk p.1 then p
  else (setImageByte (setImageByte (setImageByte (setImageByte (setImageByte p.1
    0x42 (byte 40)) 0x43 (byte 80)) 0x44 (byte 120)) 0x45 (byte 160)) 0x46 (byte 200), true)

/-- The control address range, judged as one value (R180): ends 1-31, first ≤ last, own address outside. -/
def controlRangeOk (own : Byte) (img : List Byte) : Bool :=
  let f := (imageByte img 0x08).toNat
  let l := (imageByte img 0x09).toNat
  decide (1 ≤ f ∧ f ≤ 31 ∧ 1 ≤ l ∧ l ≤ 31 ∧ f ≤ l ∧ ¬ (f ≤ own.toNat ∧ own.toNat ≤ l))

/-- The configuration cannot be used: the read range must be replaced and 29-31 includes the own address (R180). -/
def controlRangeUnusable (own : Byte) (img : List Byte) : Bool :=
  !controlRangeOk own img && decide (29 ≤ own.toNat ∧ own.toNat ≤ 31)

def substituteControlRange (own : Byte) (p : List Byte × Bool) : List Byte × Bool :=
  if controlRangeOk own p.1 then p
  else (setImageByte (setImageByte p.1 0x08 (byte 29)) 0x09 (byte 31), true)

/-- R180 on every value but the control range: the image in use and whether a default was taken. -/
def substituteValues (img : List Byte) : List Byte × Bool :=
  substituteThresholds (valueChecks.foldl (fun p k => k.apply p) (img, false))

def channelModeOf (b : Byte) : ChannelMode :=
  if b = 1#8 then .rate else if b = 2#8 then .total else if b = 3#8 then .width else .off

def roleOf (b : Byte) : Role :=
  if b = 1#8 then .wind else if b = 2#8 then .temp else if b = 3#8 then .precip else if b = 4#8 then .depth else .none

def signRoleOf (b : Byte) : SignRole :=
  if b = 1#8 then .eastApproach else if b = 2#8 then .westApproach else if b = 3#8 then .panel else .notFitted

/-- The settings of the channel block at `base`. -/
def channelConfigOf (img : List Byte) (base : Nat) : ChannelConfig :=
  { mode := channelModeOf (imageByte img base),
    edge := if imageByte img (base + 1) = 1#8 then .double else .single,
    role := roleOf (imageByte img (base + 2)),
    gain := (imageWord img (base + 3)).toInt,
    offset := (imageWord img (base + 5)).toInt,
    limit := (imageWord img (base + 7)).toInt,
    direction := if imageByte img (base + 9) = 1#8 then .below else .above,
    hold := (imageByte img (base + 10)).toNat,
    release := (imageWord img (base + 11)).toNat,
    window := (imageByte img (base + 13)).toNat }

/-- The values in use, read from a substituted image by the memory map of R191. -/
def configOf (img : List Byte) : StationConfig :=
  { chainage := (imageWord img 0x00).toNat,
    segmentHalf := (imageWord img 0x02).toNat,
    slideHalf := (imageWord img 0x04).toNat,
    influence := (imageWord img 0x06).toNat,
    controlFirst := (imageByte img 0x08).toNat,
    controlLast := (imageByte img 0x09).toNat,
    channels := ⟨channelConfigOf img 0x0A, channelConfigOf img 0x18, channelConfigOf img 0x26, channelConfigOf img 0x34⟩,
    thresholds := ⟨(imageByte img 0x42).toNat, (imageByte img 0x43).toNat, (imageByte img 0x44).toNat,
      (imageByte img 0x45).toNat, (imageByte img 0x46).toNat⟩,
    hysteresis := (imageByte img 0x47).toNat,
    transport := (imageWord img 0x48).toNat,
    autoclose := if imageByte img 0x4A = 0#8 then none else some (imageByte img 0x4A).toNat,
    announceLead := (imageWord img 0x4B).toNat,
    fitted := ⟨(imageByte img 0x4D).getLsbD 0, (imageByte img 0x4D).getLsbD 1⟩,
    reach := (imageWord img 0x4E).toNat,
    gateLead := (imageWord img 0x50).toNat,
    slideLead := (imageByte img 0x52).toNat,
    travelLimit := (imageWord img 0x53).toNat,
    signRoles := ⟨signRoleOf (imageByte img 0x55), signRoleOf (imageByte img 0x56), signRoleOf (imageByte img 0x57)⟩,
    lookAheads := ⟨(imageWord img 0x58).toNat, (imageWord img 0x5A).toNat, (imageWord img 0x5C).toNat⟩,
    templates := ⟨imageByte img 0x5E, imageByte img 0x5F, imageByte img 0x60, imageByte img 0x61, imageByte img 0x62,
      imageByte img 0x63, imageByte img 0x64, imageByte img 0x65⟩ }

end Sys2Proof.Machine
end

