-- ==== Sys2Proof/Machine/Flags.lean ====
section
/-! DEFINITION. Judgements read from the state without changing it: the comparator (R16, R17), the gate outputs (R156), the
lead test (R158), the QUIET conditions (R173), the neighbour floor and NEIGHBOUR-SILENT (R46, R47), and the flags and
bodies the station's own bulletins carry (R89, R92, R94). -/

namespace Sys2Proof.Machine

open Sys2Proof

/-! ## Comparator -/

/-- R16: whether a present sample is beyond the limit. -/
def beyond (k : ChannelConfig) (x : Int) : Bool :=
  match k.direction with
  | .above => decide (k.limit < x)
  | .below => decide (x < k.limit)

/-- R17: whether a present sample counts toward clearing, the release point formed exactly. -/
def counting (k : ChannelConfig) (x : Int) : Bool :=
  match k.direction with
  | .above => decide (x ≤ k.limit - k.release)
  | .below => decide (k.limit + k.release ≤ x)

/-- R16 and R17: the alert and the run count after a sample. -/
def compare (k : ChannelConfig) (alert : Bool) (run : Nat) (sample : Value) : Bool × Nat :=
  match sample with
  | none => (alert, run)
  | some x =>
    if (if alert then counting k x else beyond k x) then
      if k.hold ≤ run + 1 then (!alert, 0) else (alert, run + 1)
    else (alert, 0)

/-- R18, R131: the number of the alert a role gives. -/
def alertCode : Role → Nat
  | .wind => 1
  | .temp => 2
  | .depth => 3
  | .precip => 4
  | .none => 0

/-! ## Gates -/

/-- R156: the run-close output. -/
def GateState.runClose (g : GateState) : Bool := g == .closing

/-- R156: the run-open output. -/
def GateState.runOpen (g : GateState) : Bool := g == .opening

/-- R156: the lamp flashes. -/
def GateState.lampFlashing (g : GateState) : Bool := g == .closePending || g == .closing || g == .reversing

/-- R156: the lamp output of a gate: a flashing lamp is lit for half of each second, the first half (DESIGN CHOICE, log
entry 27). -/
def State.lampLit (s : State) (g : Gate) : Bool :=
  (s.gates.units.get g).state.lampFlashing && decide (2 * s.clock.tick < ticksPerSecond)

/-- The state a gate's limits show (table of R172). -/
def limitsState (openActive closedActive : Bool) : GateState :=
  match openActive, closedActive with
  | true, false => .opened
  | false, true => .closed
  | false, false => .unpositioned
  | true, true => .lockedOut

/-- The state the limits of a gate show. -/
def State.limitsShow (s : State) (g : Gate) : GateState :=
  limitsState (s.pins.openLimit.get g) (s.pins.closedLimit.get g)

/-- R158: the lead that applies, by the kind of the demanding record. -/
def State.leadOf (s : State) (u : GateUnit) : Nat :=
  match u.demanding with
  | none => s.config.gateLead
  | some id =>
    match s.findRecord id with
    | some (_, r) => if r.kind = .slide then s.config.slideLead else s.config.gateLead
    | none => s.config.gateLead

/-- R158, first condition: the demanding record has been displayed on the sign for at least the lead. -/
def State.displayedForLead (s : State) (u : GateUnit) (n : Sign) : Bool :=
  match u.demanding with
  | none => false
  | some id =>
    match s.displayedSince n id with
    | some t => decide (t + s.leadOf u ≤ s.now)
    | none => false

/-- R158, second condition: twice the lead has passed since the pending entry. -/
def State.waitedDoubleLead (s : State) (u : GateUnit) : Bool :=
  match u.pendingEntry with
  | some t => decide (t + 2 * s.leadOf u ≤ s.now)
  | none => false

/-- R158: the lead test of a gate, judged afresh on the facing sign's health and map. -/
def State.leadTest (s : State) (g : Gate) : Bool :=
  let u := s.gates.units.get g
  match s.facingSign g with
  | some n => if s.health n = .ok then s.displayedForLead u n else s.waitedDoubleLead u
  | none => s.waitedDoubleLead u

/-- The time since which a record is displayed on the sign facing a gate. -/
def State.displayedFacing (s : State) (g : Gate) (id : RecId) : Option Nat :=
  match s.facingSign g with
  | some n => s.displayedSince n id
  | none => none

/-- R155: the records that demand a gate closed, in index order. -/
def State.demandingRecords (s : State) (g : Gate) : List ClosureRecord :=
  (s.records.map Prod.snd).filter
    (fun r => decide (r.state = .inForce) && r.overlapsGate s.config.chainage s.config.reach g)

/-- R155: of two records, the one displayed earlier, the first when neither or both alike. -/
def State.earlierDisplayed (s : State) (g : Gate) (a b : ClosureRecord) : ClosureRecord :=
  match s.displayedFacing g a.id, s.displayedFacing g b.id with
  | some x, some y => if y < x then b else a
  | none, some _ => b
  | _, none => a

/-- R155: the demanding record among the records that demand the gate. -/
def State.demandingRecord (s : State) (g : Gate) : Option ClosureRecord :=
  match s.demandingRecords g with
  | [] => none
  | r :: rest => some (rest.foldl (s.earlierDisplayed g) r)

/-! ## Neighbours -/

/-- R46: whether a peer qualifies for the neighbour floor. -/
def State.qualifies (s : State) (p : Peer) : Bool :=
  s.isNeighbour p && (p.presence != .silent) && p.level.isSome

/-- R46: the largest reported level of the qualifying peers (above 5 taken as 5), less one; 0 when there is none. -/
def State.neighbourFloorNow (s : State) : Nat :=
  ((s.peers.entries.filter s.qualifies).foldl (fun m p => max m (min (p.level.getD 0) 5)) 0) - 1

/-- R47: some peer of the neighbour set is SILENT. -/
def State.neighbourSilentNow (s : State) : Bool :=
  s.peers.entries.any (fun p => s.isNeighbour p && (p.presence == .silent))

/-! ## QUIET conditions (R173) -/

/-- No channel alert is set. -/
def State.noAlert (s : State) : Bool := Chan.order.all (fun c => !(s.channels.get c).alert)

/-- No record that is ANNOUNCED or IN-FORCE is relevant. -/
def State.noRelevantClosure (s : State) : Bool :=
  s.records.all (fun p => decide (p.2.state = .lifted) || !s.relevant p.2)

/-- No own record is ANNOUNCED or IN-FORCE. -/
def State.noOwnClosure (s : State) : Bool :=
  s.records.all (fun p => decide (p.2.state = .lifted) || !p.2.own)

/-- Every fitted gate is OPEN. -/
def State.gatesOpen (s : State) : Bool :=
  Gate.order.all (fun g => !s.config.fitted.get g || ((s.gates.units.get g).state == .opened))

/-- No fitted sign has health FAULT. -/
def State.noSignFault (s : State) : Bool := Sign.order.all (fun n => s.health n != .fault)

/-- No peer in the neighbour set is LATE or SILENT. -/
def State.neighboursHeard (s : State) : Bool :=
  s.peers.entries.all (fun p => !s.isNeighbour p || (p.presence == .heard))

/-- R173: every one of the eight conditions holds. -/
def State.favourable (s : State) : Bool :=
  decide (s.hazard.effective = 0) && s.noAlert && s.noRelevantClosure && s.noOwnClosure && s.gatesOpen && s.noSignFault
    && s.neighboursHeard && !s.hazard.degraded

/-! ## The bodies of the station's bulletins -/

/-- R189: the code of a gate in a STATUS, 0 when it is not fitted. -/
def gateCode (fitted : Bool) (g : GateState) : Nat :=
  if fitted then
    match g with
    | .opened => 1
    | .closePending => 2
    | .closing => 3
    | .closed => 4
    | .opening => 5
    | .reversing => 6
    | .stalled => 7
    | .lockedOut => 8
    | .unpositioned => 9
  else 0

/-- R189: the code of a sign's health in a STATUS. -/
def healthCode : Health → Nat
  | .notFitted => 0
  | .untried => 1
  | .ok => 2
  | .fault => 3

/-- R31: a read of the ring at a position 1 to 72: the record held there at a position up to the record count, and above it
a missing record, which is `none`: it has no serial. -/
def Retained.read (m : Retained) (p : Nat) : Option HourRecord :=
  if 1 ≤ p ∧ p ≤ m.count then m.records[p - 1]? else none

/-- R31: the serial a read answers; a missing record has none. -/
def readSerial (r : Option HourRecord) : Option Word16 := r.map HourRecord.serial

/-- R31: a value field of a read, ABSENT for a missing record. -/
def readValue (field : HourRecord → Value) (r : Option HourRecord) : Value := r.bind field

/-- R31: the partial field of a read, clear for a missing record. -/
def readPartial : Option HourRecord → Bool
  | some r => r.isPartial
  | none => false

/-- R31: the present-minutes counts of a read, all 0 for a missing record. -/
def readPresent : Option HourRecord → PerChan Nat
  | some r => r.present
  | none => .fill 0

/-- R92: the next-status interval a STATUS announces. -/
def State.announcedInterval (s : State) : Nat := if s.startup.quiet then 600 else 60

/-- R92, R189: the flags byte of a STATUS. -/
def State.statusFlags (s : State) : Byte :=
  flagBit s.hazard.degraded 0 ||| flagBit s.register.full 1 ||| flagBit s.line.lineTrouble 2
    ||| flagBit s.hazard.neighbourSilent 3 ||| flagBit s.startup.quiet 4 ||| flagBit s.line.addressConflict 5
    ||| flagBit (readPartial (s.retained.read 1)) 6

/-- R92, R189: the alerts and CLAMPED byte of a STATUS. -/
def State.statusAlerts (s : State) : Byte :=
  flagBit (s.alertOf .wind) 0 ||| flagBit (s.alertOf .temp) 1 ||| flagBit (s.alertOf .depth) 2
    ||| flagBit (s.alertOf .precip) 3 ||| flagBit s.channels.one.clamped 4 ||| flagBit s.channels.two.clamped 5
    ||| flagBit s.channels.three.clamped 6 ||| flagBit s.channels.four.clamped 7

/-- R92: the STATUS body as it stands. -/
def State.statusBody (s : State) : StatusBody :=
  { chainage := word s.config.chainage,
    interval := word s.announcedInterval,
    computed := byte s.hazard.computed,
    effective := byte s.hazard.effective,
    score := byte s.hazard.score,
    floor := byte s.hazard.floorLevel,
    flags := s.statusFlags,
    alerts := s.statusAlerts,
    wind := encodeValue (s.latestOf .wind),
    gust := encodeValue (s.peakOf .wind),
    temperature := encodeValue (s.latestOf .temp),
    depth := encodeValue (s.latestOf .depth),
    precipitation := encodeValue (readValue HourRecord.precipitation (s.retained.read 1)),
    gateE := byte (gateCode s.config.fitted.east s.gates.units.east.state),
    gateW := byte (gateCode s.config.fitted.west s.gates.units.west.state),
    slowTravel := flagBit s.gates.units.east.slow 0 ||| flagBit s.gates.units.west.slow 1,
    sign1 := byte (healthCode s.link.signs.one.health),
    sign2 := byte (healthCode s.link.signs.two.health),
    sign3 := byte (healthCode s.link.signs.three.health) }

/-- R94: the ANNOUNCE body as it stands. The chainage, gates and sign roles are carried as the configuration image holds
them, or as zero where it could not be read. -/
def State.announceBody (s : State) : AnnounceBody :=
  let img := s.startup.image.getD []
  { chainage := imageWord img 0x00,
    gatesFitted := imageByte img 0x4D &&& 0x03#8,
    role1 := imageByte img 0x55,
    role2 := imageByte img 0x56,
    role3 := imageByte img 0x57,
    flags := flagBit (decide (s.phase = .configFault)) 0 ||| flagBit s.startup.substituted 1
      ||| flagBit s.line.addressConflict 2 }

/-- R188: the kind code of a queue entry. -/
def kindCode : Bulletin → Byte
  | .announce => 1#8
  | .status => 2#8
  | .closure _ => 3#8
  | .alert _ => 4#8
  | .recap _ => 7#8

/-- R71: the body of a queue entry as the owning blocks stand, `none` when its record is not in the register (R68 keeps
that from happening). -/
def State.bulletinBody (s : State) : Bulletin → Option (List Byte)
  | .announce => some (encodeAnnounce s.announceBody)
  | .status => some (encodeStatus s.statusBody)
  | .closure id => (s.findRecord id).map (fun p => encodeClosure (closureBody p.2))
  | .alert id => (s.findRecord id).map (fun p => encodeClosure (closureBody p.2))
  | .recap t => some [t]

end Sys2Proof.Machine
end

