-- ==== Sys2Proof/Machine/Line.lean ====
section
/-! DEFINITION. The line unit's operations (04_the_pass_line.md): the transmit queue (R65-R68), the transmit wait
(R69, R70, R73), the end of a frame (R58), and ADDRESS-CONFLICT (R62). Every block presents its bulletins through
`present`. -/

namespace Sys2Proof.Machine

open Sys2Proof

/-! ## The queue -/

/-- R65: the line class of an entry. -/
def Bulletin.cls : Bulletin → Nat
  | .alert _ => 0
  | .closure _ => 1
  | .recap _ => 2
  | .status => 3
  | .announce => 3

/-- R65: an entry takes its place after every entry of its own or a lower class. -/
def insertEntry (e : Bulletin) : List Bulletin → List Bulletin
  | [] => [e]
  | x :: rest => if x.cls ≤ e.cls then x :: insertEntry e rest else e :: x :: rest

/-- R65 to R67: the queue after an entry is presented. An entry of the same kind and identity is replaced in place, which
leaves the queue as it was, since the body is formed later; a full queue evicts the newest entry of its worst class when
that class is worse than the new entry's, and otherwise discards the new entry. -/
def enqueue (e : Bulletin) (q : List Bulletin) : List Bulletin :=
  if e ∈ q then q
  else if q.length < 12 then insertEntry e q
  else match q.getLast? with
    | some w => if e.cls < w.cls then insertEntry e q.dropLast else q
    | none => insertEntry e q

/-! ## The wait -/

/-- R69: whether the transmitter may contend. -/
def State.mayTransmit (s : State) : Bool :=
  match s.phase with
  | .settling => true
  | .running => true
  | .configFault => s.startup.address != 0#8
  | _ => false

/-- R69: the class wait in Tc. -/
def classWait (cls : Nat) : Nat := 2 * cls

/-- R69: the k-th draw for a class: 0-3 Tc for class 0, 0-7 Tc for the others. -/
def drawFor (cls k : Nat) : Nat :=
  if cls = 0 then (Config.lineDraw k).toNat % 4 else (Config.lineDraw k).toNat

/-- R69, R73: the required idle in Tc. -/
def requiredIdle (cls extension draw : Nat) : Nat := 4 + classWait cls + draw + extension

/-- A wait of a class with a fresh draw, its idle counted from `elapsed` millionths of Tc ago. -/
def Line.beginWait (l : Line) (cls extension : Nat) (elapsed : Int) : Line :=
  { l with wait := some (.counting cls extension (drawFor cls l.draws) elapsed), draws := l.draws + 1 }

/-- R69: the first-attempt wait after the queue may have changed: begun when none is in progress, recomputed with a new
draw and the same reference when the head's class has changed, ended when the queue is empty. -/
def Line.followHead (l : Line) : Line :=
  match l.queue with
  | [] => { l with wait := none }
  | e :: _ =>
    match l.wait with
    | none => l.beginWait e.cls 0 0
    | some (.counting cls _ _ elapsed) => if cls = e.cls then l else l.beginWait e.cls 0 elapsed
    | some .interrupted => l

/-- R69: the queue may have changed, or transmission may have become permitted. A bulletin in flight is not touched by
either (R73). -/
def followQueue (s : State) : State :=
  if s.mayTransmit && s.line.inFlight.isNone then s.withLine s.line.followHead else s

/-- Present a bulletin to the line unit (R65): accepted from the end of CONFIG-READ on, but a STATUS is discarded in
CONFIG-FAULT (R91). -/
def present (e : Bulletin) (s : State) : State :=
  if s.phase = .configRead then s
  else if s.phase = .configFault && decide (e = .status) then s
  else followQueue (s.withLine { s.line with queue := enqueue e s.line.queue })

/-- R68: the entries of a record that leaves the register are removed. -/
def dropEntries (id : RecId) (s : State) : State :=
  followQueue (s.withLine { s.line with
    queue := s.line.queue.filter (fun e => decide (e ≠ .closure id ∧ e ≠ .alert id)) })

/-- R70: the wait begun again at the end of a frame that interrupted it, counting from that frame's last stop bit. -/
def Line.restartWait (l : Line) : Line :=
  match l.wait with
  | some .interrupted =>
    match l.inFlight with
    | some f => l.beginWait f.bulletin.cls (8 * l.attempts) l.idle
    | none =>
      match l.queue with
      | e :: _ => l.beginWait e.cls 0 l.idle
      | [] => { l with wait := none }
  | _ => l

/-- R58: the frame on the line ends: the receiver returns to HUNTING and an interrupted wait begins again. -/
def endFrame (s : State) : State :=
  if s.line.receiver = .inactive then s
  else s.withLine { s.line with receiver := .hunting, echo := false }.restartWait

/-- R62, R93: a good frame with this station's own address as its source. -/
def addressConflict (s : State) : State :=
  if s.line.addressConflict then s
  else
    let s1 := s.withLine { s.line with addressConflict := true }
    if s.phase = .configFault then
      if s1.startup.address = 0#8 then s1 else present .announce s1
    else present .status s1

end Sys2Proof.Machine
end

