-- ==== Sys2Proof/Machine/Signs.lean ====
section
/-! DEFINITION. The notice selector (07_notice_selection.md) and the arbiter of the sign link (R142, R150-R152): candidates,
page sets, their handing on, the displayed-since maps, and the choice of the next transfer. -/

namespace Sys2Proof.Machine

open Sys2Proof

/-! ## Candidates (R126-R128) -/

/-- R126: the class of a record that is a candidate; a LIFTED record never is. -/
def recordClass (r : ClosureRecord) : Option Nat :=
  match r.state with
  | .lifted => none
  | .announced => some 3
  | .inForce => if r.kind = .slide then some 1 else some 2

/-- R126: the distance at which a record is a candidate for a sign, if it is one. -/
def recordDistance (c : Nat) (role : SignRole) (look : Nat) (r : ClosureRecord) : Option Nat :=
  match role with
  | .notFitted => none
  | .eastApproach => if r.aheadEast c look then some (r.distanceEast c) else none
  | .westApproach => if r.aheadWest c look then some (r.distanceWest c) else none
  | .panel => if r.covers c then some 0 else none

def recordCandidates (c : Nat) (role : SignRole) (look : Nat) (rs : List (Nat × ClosureRecord)) : List Candidate :=
  rs.filterMap (fun p =>
    match recordClass p.2, recordDistance c role look p.2 with
    | some k, some d => some ⟨k, d, .record p.1 p.2.id⟩
    | _, _ => none)

/-- R127: the candidates of the station's own condition. -/
def State.ownCandidates (s : State) (role : SignRole) : List Candidate :=
  (if 4 ≤ s.hazard.effective then [⟨4, 0, .hazard⟩] else [])
  ++ (Chan.order.filter (fun c => (s.channels.get c).alert && decide ((s.channels.get c).role ≠ .none))).map
      (fun c => ⟨5, 0, .alert c⟩)
  ++ (if s.hazard.effective = 3 then [⟨6, 0, .hazard⟩] else [])
  ++ (if s.hazard.degraded || s.hazard.neighbourSilent then [⟨7, 0, .data⟩] else [])
  ++ (if role = .panel then [⟨8, 0, .weather⟩] else [])

/-- R128: class first, distance second. -/
def Candidate.before (a b : Candidate) : Bool :=
  decide (a.cls < b.cls ∨ (a.cls = b.cls ∧ a.distance < b.distance))

/-- Insert a candidate behind those that come before it or rank alike. -/
def insertCandidate (a : Candidate) : List Candidate → List Candidate
  | [] => [a]
  | b :: rest => if a.before b then a :: b :: rest else b :: insertCandidate a rest

/-- R128: the ordered list. Records enter in index order and alerts in channel order, so that equal class and distance
keep that order. -/
def orderCandidates (cs : List Candidate) : List Candidate := cs.foldl (fun acc c => insertCandidate c acc) []

def State.candidates (s : State) (n : Sign) : List Candidate :=
  let g := s.signs.get n
  orderCandidates (recordCandidates s.config.chainage g.role g.lookAhead s.records ++ s.ownCandidates g.role)

/-! ## Pages (R129-R132) -/

def blankPage : Page := { template := 0#8, p1 := 0, p2 := 0, p3 := 0, p4 := 0, carries := none }

/-- R129: the blank page set of an empty list. -/
def PageSet.blank : PageSet := { pageA := blankPage, pageB := none, cls := 9 }

/-- R132: the configured default template of a class. -/
def Templates.forClass (t : Templates) : Nat → Byte
  | 1 => t.d1
  | 2 => t.d2
  | 3 => t.d3
  | 4 => t.d4
  | 5 => t.d5
  | 6 => t.d6
  | 7 => t.d7
  | 8 => t.d8
  | _ => 0#8

/-- R132: the template of a page, 0 when the page becomes blank. `own` is the record's notice template, 0 for a page that
is not a closure page. -/
def chooseTemplate (own default : Byte) (refused : List Byte) : Byte :=
  let chosen := if own = 0#8 then default else own
  if chosen ≠ 0#8 ∧ chosen ∉ refused then chosen
  else if default ∈ refused then 0#8
  else default

/-- R130: the parameters of a closure page. -/
def closurePage (template : Byte) (distance : Nat) (r : ClosureRecord) : Page :=
  { template := template,
    p1 := (ceilDiv distance 100 : Nat),
    p2 := if r.state = .announced then (ceilDiv r.lead 60 : Nat) else 0,
    p3 := (closureKindCode r.kind : Nat),
    p4 := if r.stale then 1 else 0,
    carries := some r.id }

/-- R129 to R132: the page built from a candidate. -/
def State.pageOf (s : State) (refused : List Byte) (c : Candidate) : Page :=
  let default := s.config.templates.forClass c.cls
  match c.source with
  | .record i _ =>
    match s.recordAt i with
    | some r =>
      let t := chooseTemplate r.template default refused
      if t = 0#8 then blankPage else closurePage t c.distance r
    | none => blankPage
  | .hazard =>
    let t := chooseTemplate 0#8 default refused
    if t = 0#8 then blankPage
    else { template := t, p1 := (s.hazard.effective : Nat), p2 := 0, p3 := 0, p4 := 0, carries := none }
  | .alert ch =>
    let t := chooseTemplate 0#8 default refused
    if t = 0#8 then blankPage
    else { template := t, p1 := valueNumber (s.channels.get ch).latest, p2 := (alertCode (s.channels.get ch).role : Nat),
           p3 := (s.channelConfig ch).limit, p4 := 0, carries := none }
  | .data =>
    let t := chooseTemplate 0#8 default refused
    if t = 0#8 then blankPage
    else { template := t, p1 := (s.hazard.effective : Nat), p2 := if s.hazard.degraded then 1 else 0,
           p3 := if s.hazard.neighbourSilent then 1 else 0, p4 := 0, carries := none }
  | .weather =>
    let t := chooseTemplate 0#8 default refused
    if t = 0#8 then blankPage
    else { template := t, p1 := valueNumber (s.latestOf .wind), p2 := valueNumber (s.peakOf .wind),
           p3 := valueNumber (s.latestOf .temp), p4 := valueNumber (s.latestOf .depth), carries := none }

/-- R129, R132: the page set of an ordered candidate list. -/
def State.pageSetOf (s : State) (refused : List Byte) : List Candidate → PageSet
  | [] => .blank
  | a :: rest =>
    let pa := s.pageOf refused a
    let pb := match rest with
      | b :: _ => if b.cls ≤ 5 then some (s.pageOf refused b) else none
      | [] => none
    { pageA := pa, pageB := if pa = blankPage ∧ pb = some blankPage then none else pb, cls := a.cls }

/-- R129: the page set built for a sign; the blank one while the station is QUIET. -/
def State.buildPageSet (s : State) (n : Sign) : PageSet :=
  if s.startup.quiet then .blank else s.pageSetOf (s.signs.get n).refused (s.candidates n)

/-- R134: two page sets are equal page for page; the class takes no part. -/
def PageSet.same (a b : PageSet) : Bool := decide (a.pageA = b.pageA ∧ a.pageB = b.pageB)

def differsFrom (built : PageSet) : Option PageSet → Bool
  | none => true
  | some o => !built.same o

/-! ## The arbiter (R142, R151, R152) -/

/-- The turn order that begins with the sign after last served. -/
def turnOrder : Sign → List Sign
  | .s1 => [.s2, .s3, .s1]
  | .s2 => [.s3, .s1, .s2]
  | .s3 => [.s1, .s2, .s3]

/-- R151: the class at which a sign is eligible, with whether it would be served by a probe and what it would be sent. -/
def State.eligible (s : State) (n : Sign) : Option (Bool × PageSet) :=
  let k := s.link.signs.get n
  match k.health with
  | .untried => k.waiting.map (fun ps => (false, ps))
  | .ok => k.waiting.map (fun ps => (false, ps))
  | .fault => if k.probe = .due then (s.signs.get n).offered.map (fun ps => (true, ps)) else none
  | .notFitted => none

/-- R151, R152: the best eligible sign, the first in turn order among equals. -/
def bestSign (s : State) : List Sign → Option (Sign × Bool × PageSet)
  | [] => none
  | n :: rest =>
    match s.eligible n, bestSign s rest with
    | none, b => b
    | some (p, ps), none => some (n, p, ps)
    | some (p, ps), some (m, q, qs) => if qs.cls < ps.cls then some (m, q, qs) else some (n, p, ps)

/-- R142: a transfer begins: the link enters SENDING, or PAUSED before any character while the flow state is HELD. The probe
timer of a sign that is probed stands stopped until the probe ends (DESIGN CHOICE, log entry 43). -/
def beginTransfer (s : State) (n : Sign) (probe : Bool) (ps : PageSet) : State :=
  let k := s.link.signs.get n
  s.withLink { s.link with
    state := if s.link.held then .pausedSending else .sending,
    transfer := some { sign := n, pages := ps, probe := probe, progress := 0, pause := 0, reply := 0 },
    lastServed := n,
    signs := s.link.signs.set n
      { k with waiting := none, probe := if probe then .stopped else k.probe } }

/-- R151: the arbiter's choice, made while the link is IDLE in SETTLING or RUNNING. -/
def arbitrate (s : State) : State :=
  if s.phase.serving && decide (s.link.state = .idle) then
    match bestSign s (turnOrder s.link.lastServed) with
    | some (n, p, ps) => beginTransfer s n p ps
    | none => s
  else s

/-! ## Handing page sets on (R134, R135, R150) -/

/-- R135: the refresh timer of a sign that is restarted: at 0, or stopped in QUIET and in FAULT. -/
def State.refreshStart (s : State) (n : Sign) : Option Nat :=
  if s.startup.quiet || decide (s.health n = .fault) then none else some 0

/-- R134, R150: a page set is handed: it becomes the sign's offered page set and its pending content. -/
def handPageSet (n : Sign) (ps : PageSet) (s : State) : State :=
  let s1 := s.setSign n { s.signs.get n with offered := some ps, refresh := s.refreshStart n }
  let s2 := s1.setSignLink n { s1.link.signs.get n with waiting := some ps }
  arbitrate s2

/-- R134: whether the phase lets a page set of a class be handed. -/
def State.mayHand (s : State) (ps : PageSet) : Bool :=
  match s.phase with
  | .running => true
  | .settling => decide (ps.cls = 1 ∨ ps.cls = 2)
  | _ => false

/-- R125: the candidate list and the built page set are made anew. -/
def rebuildSign (n : Sign) (s : State) : State :=
  s.setSign n { s.signs.get n with candidates := s.candidates n, built := some (s.buildPageSet n) }

/-- R125, R134: one sign is evaluated, and its page set handed if it differs from the offered one and the phase allows. -/
def evaluateSign (n : Sign) (s : State) : State :=
  if s.phase.serving && decide ((s.signs.get n).role ≠ .notFitted) then
    let ps := s.buildPageSet n
    let s1 := rebuildSign n s
    if differsFrom ps (s.signs.get n).offered && s.mayHand ps then handPageSet n ps s1 else s1
  else s

/-- R135, R136: one sign is evaluated and its page set handed even if it equals the offered one; a refresh that the phase
withholds restarts the timer. -/
def refreshSign (n : Sign) (s : State) : State :=
  if s.phase.serving && decide ((s.signs.get n).role ≠ .notFitted) then
    let ps := s.buildPageSet n
    let s1 := rebuildSign n s
    if s.mayHand ps then handPageSet n ps s1
    else s1.setSign n { s1.signs.get n with refresh := s1.refreshStart n }
  else s

/-- R125: every fitted sign is evaluated. -/
def evaluateSigns (s : State) : State := forSigns evaluateSign s

/-! ## Displayed-since (R137, R138) -/

/-- The record ids a page set carries, each once. -/
def PageSet.carried (ps : PageSet) : List RecId :=
  match ps.pageA.carries, ps.pageB.bind Page.carries with
  | none, none => []
  | some i, none => [i]
  | none, some j => [j]
  | some i, some j => if i = j then [i] else [i, j]

/-- R137: the map after an acknowledged page set: kept entries keep their time, carried records not yet entered are
entered at `now` when the register holds them, the others go. -/
def alignDisplayed (map : List (RecId × Nat)) (carried held : List RecId) (now : Nat) : List (RecId × Nat) :=
  map.filter (fun e => decide (e.1 ∈ carried))
    ++ ((carried.filter (fun i => decide (i ∉ map.map Prod.fst ∧ i ∈ held))).map (fun i => (i, now)))

/-- R137: the selector takes an acknowledged page set. -/
def acknowledge (n : Sign) (ps : PageSet) (s : State) : State :=
  let g := s.signs.get n
  s.setSign n { g with
    acknowledged := some ps,
    displayed := alignDisplayed g.displayed ps.carried (s.records.map (fun p => p.2.id)) s.now }

/-- R138: a record has left the register: its entry leaves the map of every sign. -/
def dropDisplayed (id : RecId) (s : State) : State :=
  forSigns (fun n s => s.setSign n { s.signs.get n with
    displayed := (s.signs.get n).displayed.filter (fun e => decide (e.1 ≠ id)) }) s

/-- R138: a sign's health has become FAULT: its map is emptied, its acknowledged page set none, its refresh timer
stopped. -/
def forgetDisplayed (n : Sign) (s : State) : State :=
  s.setSign n { s.signs.get n with displayed := [], acknowledged := none, refresh := none }

/-- R133: the template a NAK names: that of page A or B of the transferred page set. -/
def refusedTemplate (ps : PageSet) (page : BitVec 4) : Byte :=
  if page = 1#4 then ps.pageA.template
  else if page = 2#4 then (match ps.pageB with
    | some b => b.template
    | none => 0#8)
  else 0#8

/-- R133: a template joins the refused set, which keeps the 8 latest in arrival order. -/
def refuseTemplate (t : Byte) (refused : List Byte) : List Byte :=
  if t = 0#8 ∨ t ∈ refused then refused
  else if refused.length < 8 then refused ++ [t]
  else refused.drop 1 ++ [t]

end Sys2Proof.Machine
end

