-- ==== Sys2Proof/Machine/Quiet.lean ====
section
/-! DEFINITION. The QUIET judgement (R173-R176) and the commands QUIET_ENTRY and REFRESH_TIMER_EXPIRY. -/

namespace Sys2Proof.Machine

open Sys2Proof

/-- R136: the refresh timers restart at 0 for signs that are fitted and not in FAULT. -/
def restartRefresh (s : State) : State :=
  forSigns (fun n s =>
    if (s.signs.get n).role = .notFitted then s
    else s.setSign n { s.signs.get n with refresh := s.refreshStart n }) s

/-- R176: QUIET ends: a STATUS is queued, the refresh timers restart and every sign is evaluated. -/
def leaveQuiet (s : State) : State :=
  evaluateSigns (restartRefresh (present .status
    (s.withStartup { s.startup with quiet := false, entryTimer := none })))

/-- R173, R174, R176: a judgement of the QUIET conditions, in RUNNING. -/
def judgeQuiet (s : State) : State :=
  if s.phase = .running then
    if s.startup.quiet then
      if s.favourable then s else leaveQuiet s
    else if s.favourable then
      match s.startup.entryTimer with
      | some _ => s
      | none => s.withStartup { s.startup with entryTimer := some 0 }
    else s.withStartup { s.startup with entryTimer := none }
  else s

/-- R136, R175: QUIET begins: a STATUS is queued and every sign is handed the blank page set, its refresh timer
stopped. -/
def enterQuiet (s : State) : State :=
  forSigns refreshSign (present .status
    (s.withStartup { s.startup with quiet := true, entryTimer := none }))

/-- QUIET_ENTRY (R175): the entry timer has reached 300 s; the judgement of that whole second (R173) comes first. -/
def execQuietEntry (s : State) : Host.Outcome State Fault Refusal :=
  .next (if s.phase = .running ∧ s.startup.quiet = false ∧ s.startup.entryTimer = some 300 then
    if s.favourable then enterQuiet s else judgeQuiet s
  else s)

/-- REFRESH_TIMER_EXPIRY (R135): the sign's refresh timer has reached 300 s. -/
def execRefreshTimerExpiry (sign : Sign) (s : State) : Host.Outcome State Fault Refusal :=
  .next (if (s.signs.get sign).refresh = some 300 then refreshSign sign s else s)

end Sys2Proof.Machine
end

