-- ==== Sys2Proof/Machine/Gates.lean ====
section
/-! DEFINITION. The gate controller (09_snow_gates.md): demand, the states of a gate and their transitions, travels, stalls,
histories, the LOCAL key and buttons, and the gate commands. -/

namespace Sys2Proof.Machine

open Sys2Proof

/-! ## Reports (R168) -/

/-- Store a gate; a change of its state is reported to the line unit and judged for QUIET, a change of SLOW-TRAVEL is
reported to the line unit (R168). -/
def putGate (g : Gate) (u : GateUnit) (s : State) : State :=
  let old := s.gates.units.get g
  let s1 := s.setGate g u
  let s2 := if u.state ≠ old.state ∨ u.slow ≠ old.slow then present .status s1 else s1
  if u.state ≠ old.state then judgeQuiet s2 else s2

/-- A gate brought to a state with every timer stopped. -/
def GateUnit.rest (u : GateUnit) (st : GateState) : GateUnit :=
  { u with state := st, travel := none, dwell := none, stallWait := none, fullTravel := false }

/-- R164: LOCKED-OUT, with every output off and every timer stopped. -/
def lockOut (g : Gate) (s : State) : State := putGate g ((s.gates.units.get g).rest .lockedOut) s

/-! ## Travel (R160-R162) -/

/-- The target limit of a direction of travel, and the opposite one. -/
def State.targetActive (s : State) (g : Gate) : Demand → Bool
  | .closed => s.pins.closedLimit.get g
  | .opened => s.pins.openLimit.get g

def State.oppositeActive (s : State) (g : Gate) : Demand → Bool
  | .closed => s.pins.openLimit.get g
  | .opened => s.pins.closedLimit.get g

def Demand.moving : Demand → GateState
  | .closed => .closing
  | .opened => .opening

def Demand.atRest : Demand → GateState
  | .closed => .closed
  | .opened => .opened

/-- R160: a travel begins; toward a limit that is already active the gate takes that rest state without driving. `fresh` says
that it is no re-drive, no reversed travel and no retry after a stall: none of those is a full travel, and another is one when
it begins while the opposite limit is active (R165, R166). -/
def beginTravel (fresh : Bool) (g : Gate) (d : Demand) (s : State) : State :=
  let u := s.gates.units.get g
  if s.targetActive g d then putGate g { u.rest d.atRest with stalls := 0 } s
  else putGate g { u.rest d.moving with travel := some 0, fullTravel := fresh && s.oppositeActive g d } s

/-- R161: travel toward OPEN is permitted in RUNNING alone. -/
def State.mayTravel (s : State) : Demand → Bool
  | .closed => true
  | .opened => decide (s.phase = .running)

/-- R166: the history of a direction. -/
def State.history (s : State) (g : Gate) : Demand → List Nat
  | .closed => s.retained.closing.get g
  | .opened => s.retained.opening.get g

/-- R167: SLOW-TRAVEL judged against the history before the new duration enters. -/
def slowTravel (history : List Nat) (duration : Nat) : Bool :=
  decide (4 ≤ history.length ∧ 2 * history.sum < duration * history.length)

/-- R166: a duration enters at the head of a history of up to 8; the integrity check is updated in the same step
(R181). -/
def recordTravel (g : Gate) (d : Demand) (duration : Nat) (s : State) : State :=
  let h := (duration :: s.history g d).take 8
  s.withRetained (match d with
    | .closed => { s.retained with closing := s.retained.closing.set g h }
    | .opened => { s.retained with opening := s.retained.opening.set g h })

/-- The travel timer in 0.1 s (R160). -/
def GateUnit.travelTenths (u : GateUnit) : Nat := (u.travel.getD 0) / ticksPerTenth

/-- R160, R166, R167: the target limit is taken active and the travel completes. -/
def completeTravel (g : Gate) (d : Demand) (s : State) : State :=
  let u := s.gates.units.get g
  let t := u.travelTenths
  if u.fullTravel then
    putGate g { u.rest d.atRest with stalls := 0, slow := slowTravel (s.history g d) t } (recordTravel g d t s)
  else putGate g { u.rest d.atRest with stalls := 0 } s

/-- R162: the motor stops and the 2 s dwell begins. -/
def reverse (g : Gate) (s : State) : State :=
  putGate g { (s.gates.units.get g).rest .reversing with dwell := some 0 } s

/-- The end of a dwell or of a stall wait (R162, R163): travel toward the demand as it stands, or the state the limits show
when travel toward OPEN is not permitted; an active target limit gives its rest state. R162 calls the state the limits show
UNPOSITIONED; with the closed limit active the model takes CLOSED, and keeps the stall count (DESIGN CHOICE, log entry 47). -/
def resumeTravel (g : Gate) (s : State) : State :=
  let u := s.gates.units.get g
  match u.demand with
  | some d =>
    if s.targetActive g d || s.mayTravel d then beginTravel false g d s
    else putGate g (u.rest (s.limitsShow g)) s
  | none => putGate g (u.rest (s.limitsShow g)) s

/-! ## Demand and evaluation (R155, R157, R158, R170) -/

/-- The demand as the key state has it: the register's in REMOTE, the local one in LOCAL (R155, R170). -/
def State.demandNow (s : State) (g : Gate) : Option Demand :=
  if s.gates.keyLocal then s.gates.localDemand
  else if (s.demandingRecords g).isEmpty then some .opened else some .closed

/-- R157: CLOSE-PENDING is entered, and the lead test made at once. -/
def enterClosePending (g : Gate) (s : State) : State :=
  let s1 := putGate g { (s.gates.units.get g).rest .closePending with pendingEntry := some s.now } s
  if s1.leadTest g then beginTravel true g .closed s1 else s1

/-- What a gate does about its demand, by its state (R157, R158, R161, R162, R165, R170). A gate that CLOSE-PENDING returns to the
state its limits show keeps its stall count, OPEN too (DEDUCED, log entry 13). -/
def actOnDemand (g : Gate) (s : State) : State :=
  let u := s.gates.units.get g
  match u.demand with
  | none => s
  | some .closed =>
    match u.state with
    | .opened => if s.gates.keyLocal then beginTravel true g .closed s else enterClosePending g s
    | .unpositioned => if s.gates.keyLocal then beginTravel true g .closed s else enterClosePending g s
    | .closePending => if s.leadTest g then beginTravel true g .closed s else s
    | .opening => reverse g s
    | _ => s
  | some .opened =>
    match u.state with
    | .closed => if s.mayTravel .opened then beginTravel true g .opened s else s
    | .unpositioned => if s.mayTravel .opened then beginTravel true g .opened s else s
    | .closePending =>
      putGate g (u.rest (if s.pins.openLimit.get g then .opened else .unpositioned)) s
    | .closing => reverse g s
    | _ => s

/-- R155: the demand and the demanding record of a gate as they now stand. -/
def refreshDemand (g : Gate) (s : State) : State :=
  s.setGate g { s.gates.units.get g with
    demand := s.demandNow g,
    demanding := if s.gates.keyLocal then none else (s.demandingRecord g).map ClosureRecord.id }

/-- R155: a fitted gate is re-evaluated, in SETTLING and RUNNING. -/
def evaluateGate (g : Gate) (s : State) : State :=
  if s.phase.serving && s.config.fitted.get g then actOnDemand g (refreshDemand g s) else s

/-- R155: every fitted gate is re-evaluated. -/
def evaluateGates (s : State) : State := forGates evaluateGate s

/-- Whether a sign is the facing sign of a gate (R155: only a facing sign's reports are occasions). -/
def State.isFacing (s : State) (n : Sign) : Bool :=
  Gate.order.any (fun g => decide (s.facingSign g = some n))

/-- R155: a report of a sign, heard by the gates it faces. -/
def signReport (n : Sign) (s : State) : State := if s.isFacing n then evaluateGates s else s

/-! ## Limits (R157, R164, R165, R172) -/

/-- A limit input takes a level. -/
def takeLimit (g : Gate) (l : Limit) (active : Bool) (s : State) : State :=
  s.withPins (match l with
    | .openLimit => { s.pins with openLimit := s.pins.openLimit.set g active }
    | .closedLimit => { s.pins with closedLimit := s.pins.closedLimit.set g active })

/-- A fitted gate in SETTLING or RUNNING meets a change of one limit, both levels already taken. -/
def limitEvent (g : Gate) (l : Limit) (active : Bool) (s : State) : State :=
  let u := s.gates.units.get g
  let o := s.pins.openLimit.get g
  let c := s.pins.closedLimit.get g
  if u.state = .lockedOut then s
  else if o && c then lockOut g s
  else
    match u.state with
    | .closing => if c then completeTravel g .closed s else s
    | .opening => if o then completeTravel g .opened s else s
    | .opened =>
      if o then s
      else if decide (u.demand = some .opened) && s.mayTravel .opened then beginTravel false g .opened s
      else putGate g (u.rest .unpositioned) s
    | .closed =>
      if c then s
      else if u.demand = some .closed then beginTravel false g .closed s
      else putGate g (u.rest .unpositioned) s
    | .unpositioned =>
      if active then
        evaluateGate g (putGate g { u.rest (match l with
          | .openLimit => .opened
          | .closedLimit => .closed) with stalls := 0 } s)
      else s
    | .stalled =>
      if active then
        evaluateGate g (putGate g { u.rest (match l with
          | .openLimit => .opened
          | .closedLimit => .closed) with stalls := 0 } s)
      else s
    | .closePending => if c then putGate g { u.rest .closed with stalls := 0 } s else s
    | .reversing => s
    | .lockedOut => s

/-- R172: in JOINING a gate follows its limits without driving; LOCKED-OUT stays (R164). -/
def followLimits (g : Gate) (s : State) : State :=
  let u := s.gates.units.get g
  if u.state = .lockedOut then s else putGate g (u.rest (s.limitsShow g)) s

/-- The level a limit input stands at. -/
def State.limitLevel (s : State) (g : Gate) : Limit → Bool
  | .openLimit => s.pins.openLimit.get g
  | .closedLimit => s.pins.closedLimit.get g

/-- LIMIT_INPUT_CHANGE (R165): the pin takes its level in every phase; a fitted gate follows it from JOINING on. A level
the input already stands at is no change (R154). -/
def execLimitInputChange (gate : Gate) (limit : Limit) (active : Bool) (s : State) : Host.Outcome State Fault Refusal :=
  let s1 := takeLimit gate limit active s
  .next (
    if s.limitLevel gate limit = active then s
    else if s.config.fitted.get gate then
      if s.phase = .joining then followLimits gate s1
      else if s.phase.serving then limitEvent gate limit active s1
      else s1
    else s1)

/-- GATE_LEAD_ELAPSED (R158): the lead test at a whole second in CLOSE-PENDING. -/
def execGateLeadElapsed (gate : Gate) (s : State) : Host.Outcome State Fault Refusal :=
  .next (if s.phase.serving && s.config.fitted.get gate && !s.gates.keyLocal
      && decide ((s.gates.units.get gate).state = .closePending) && s.leadTest gate
    then beginTravel true gate .closed s else s)

/-- DWELL_END (R162): the dwell of 2.0 s has run. -/
def execDwellEnd (gate : Gate) (s : State) : Host.Outcome State Fault Refusal :=
  let u := s.gates.units.get gate
  .next (if u.state = .reversing ∧ 2 * ticksPerSecond ≤ u.dwell.getD 0 then resumeTravel gate s else s)

/-- TRAVEL_STALL (R163): the travel timer has reached the travel limit without the target limit. -/
def execTravelStall (gate : Gate) (s : State) : Host.Outcome State Fault Refusal :=
  let u := s.gates.units.get gate
  .next (if (u.state = .closing ∨ u.state = .opening) ∧ s.config.travelLimit ≤ u.travelTenths then
    if u.stalls = 0 then putGate gate { u.rest .stalled with stalls := 1, stallWait := some 0 } s
    else putGate gate { u.rest .lockedOut with stalls := 2 } s
  else s)

/-- STALL_RETRY (R163): the stall wait of 10 s has run, counted in ticks from its start and not at whole seconds of station time
(DESIGN CHOICE, log entry 53). -/
def execStallRetry (gate : Gate) (s : State) : Host.Outcome State Fault Refusal :=
  let u := s.gates.units.get gate
  .next (if u.state = .stalled ∧ 10 * ticksPerSecond ≤ u.stallWait.getD 0 then resumeTravel gate s else s)

/-! ## The LOCAL key (R169-R171) -/

/-- R169, R171: a gate in travel, reversing or stalled stops and takes the state its limits show, stall count 0. -/
def stopGate (g : Gate) (s : State) : State :=
  let u := s.gates.units.get g
  match u.state with
  | .closing => putGate g { u.rest (s.limitsShow g) with stalls := 0 } s
  | .opening => putGate g { u.rest (s.limitsShow g) with stalls := 0 } s
  | .reversing => putGate g { u.rest (s.limitsShow g) with stalls := 0 } s
  | .stalled => putGate g { u.rest (s.limitsShow g) with stalls := 0 } s
  | _ => s

/-- R169: one fitted gate at the turn to LOCAL. One in CLOSE-PENDING keeps its stall count (DEDUCED, log entry 13). -/
def gateToLocal (g : Gate) (s : State) : State :=
  if s.config.fitted.get g then
    let u := s.gates.units.get g
    if u.state = .closePending then
      putGate g (u.rest (if s.pins.openLimit.get g then .opened else .unpositioned)) s
    else stopGate g s
  else s

/-- R171: one fitted gate at the turn to REMOTE, before its evaluation. A LOCKED-OUT one leaves it with stall count 0 (DEDUCED,
log entry 13). -/
def gateToRemote (g : Gate) (s : State) : State :=
  if s.config.fitted.get g then
    let u := s.gates.units.get g
    if u.state = .lockedOut then putGate g { u.rest (s.limitsShow g) with stalls := 0 } s
    else stopGate g s
  else s

/-- While the key is LOCAL and the local demand NONE, no gate has a demand (R155, R169; log entry 11), in JOINING too (DESIGN
CHOICE, log entry 50). -/
def clearDemand (g : Gate) (s : State) : State :=
  s.setGate g { s.gates.units.get g with demand := none, demanding := none }

/-- Back in REMOTE a gate's demand is OPEN until it is evaluated (R172, R171). -/
def remoteDemand (g : Gate) (s : State) : State :=
  s.setGate g { s.gates.units.get g with demand := some .opened, demanding := none }

/-- KEY_TO_LOCAL (R169): the local demand is NONE, also where buttons are held at the turn (DESIGN CHOICE, log entry 46). Before
JOINING and in CONFIG-FAULT only the pin changes. -/
def execKeyToLocal (s : State) : Host.Outcome State Fault Refusal :=
  let s1 := s.withPins { s.pins with keyLocal := true }
  .next (if s.phase.operating && !s.gates.keyLocal then
    forGates gateToLocal (forGates clearDemand
      (s1.withGates { s1.gates with keyLocal := true, localDemand := none }))
  else s1)

/-- KEY_TO_REMOTE (R171). Before JOINING and in CONFIG-FAULT only the pin changes. -/
def execKeyToRemote (s : State) : Host.Outcome State Fault Refusal :=
  let s1 := s.withPins { s.pins with keyLocal := false }
  .next (if s.phase.operating && s.gates.keyLocal then
    evaluateGates (forGates gateToRemote (forGates remoteDemand
      (s1.withGates { s1.gates with keyLocal := false, localDemand := none })))
  else s1)

/-- R170: the local demand is set, and the fitted gates act on it in SETTLING and RUNNING. In JOINING it is recorded alone, and
the gates have no demand until the start of SETTLING (DESIGN CHOICE, log entry 50). -/
def setLocalDemand (d : Demand) (s : State) : State :=
  evaluateGates (s.withGates { s.gates with localDemand := some d })

/-- CLOSE_BUTTON_PRESS (R170). -/
def execCloseButtonPress (s : State) : Host.Outcome State Fault Refusal :=
  .next (if s.phase.operating && s.gates.keyLocal then setLocalDemand .closed s else s)

/-- OPEN_BUTTON_PRESS (R170): disregarded while the CLOSE button is held, also where CLOSE has been held since before the turn
to LOCAL and the local demand is NONE (DESIGN CHOICE, log entry 46). -/
def execOpenButtonPress (closeHeld : Bool) (s : State) : Host.Outcome State Fault Refusal :=
  .next (if s.phase.operating && s.gates.keyLocal && !closeHeld then setLocalDemand .opened s else s)

/-- R172: a gate's state at the end of CONFIG-READ, from its limits. -/
def gateAtStart (s : State) (g : Gate) : GateUnit := GateUnit.reset.rest (s.limitsShow g)

end Sys2Proof.Machine
end

