-- ==== Sys2Proof/Machine/SignLink.lean ====
section
/-! DEFINITION. The sign link controller (08_the_sign_link.md): the reply pair (R140, R141), the endings of a transfer (R143,
R145), flow control (R144), sign health (R146-R148) and probing (R149). The beginning of a transfer and the arbiter stand in
Signs.lean. -/

namespace Sys2Proof.Machine

open Sys2Proof

/-! ## The reply pair (R141, log entry 9) -/

/-- R141, R190: the flow control a character is: 11h is XON and 13h XOFF, unless it has a framing error. -/
def ReplyChar.flow (c : ReplyChar) : Option Instr :=
  if c.framingError then none
  else if c.char = 0x11#8 then some .xonReceived
  else if c.char = 0x13#8 then some .xoffReceived
  else none

/-- The next character that arrives comes onto the pair, `elapsed` after its start bit; with none arriving the pair is idle. -/
def ReplyPair.nextChar (p : ReplyPair) (elapsed : Nat) : ReplyPair :=
  match p.arriving with
  | c :: rest => { p with arriving := rest, onPair := some c, elapsed := elapsed }
  | [] => { p with onPair := none, elapsed := elapsed }

/-- R141: a character has been received: flow control is taken at once and is part of no reply; any other is appended to the
reply being assembled. -/
def ReplyPair.take (p : ReplyPair) (c : ReplyChar) : ReplyPair × Option Instr :=
  match c.flow with
  | some i => (p, some i)
  | none => ({ p with reply := p.reply ++ [c.char], framingError := p.framingError || c.framingError }, none)

/-- R141: the reply ends and is checked: one with a framing error in any character is discarded, and so is one that
`checkReply` refuses. -/
def ReplyPair.endReply (p : ReplyPair) : ReplyPair × Option Instr :=
  ({ p with reply := [], framingError := false }, if p.framingError then none else checkReply p.reply)

/-- R141: one tick of the reply pair, and the command that it brings: a character that has run its ten bits is received, the
next one comes onto the pair, or the pair is idle; two character times of idle end a reply. -/
def ReplyPair.tick (p : ReplyPair) : ReplyPair × Option Instr :=
  let e := p.elapsed + signLinkRate
  match p.onPair with
  | some c =>
    if charUnits ≤ e then (p.nextChar (e - charUnits)).take c else ({ p with elapsed := e }, none)
  | none =>
    if p.arriving ≠ [] then (p.nextChar signLinkRate, none)
    else if 2 * charUnits ≤ e then
      let q := { p with elapsed := 2 * charUnits }
      if p.reply = [] then (q, none) else q.endReply
    else ({ p with elapsed := e }, none)

/-- The reply pair in a station in which the controller runs; elsewhere it discards every character (R140). A command the
tick brings joins the waiting ones. -/
def hearReplyPair (s : State) : State :=
  if s.phase.operating then
    (s.withReplyPair s.replyPair.tick.1).withPending (s.pending ++ s.replyPair.tick.2.toList)
  else s.withReplyPair .reset

/-! ## Outcomes -/

/-- The reply time of R142, in ticks. -/
def replyTicks : Nat := 2 * ticksPerSecond

/-- R143: the transfer ends: the link is IDLE and no transfer in progress. -/
def endTransfer (s : State) : State := s.withLink { s.link with state := .idle, transfer := none }

/-- R146: a sign's health has become FAULT; the report reaches the selector, the gates, the line and QUIET. -/
def reportFault (n : Sign) (s : State) : State :=
  judgeQuiet (present .status (signReport n (forgetDisplayed n s)))

/-- R146: a failure of a transfer, which has ended. -/
def countFailure (t : Transfer) (s : State) : State :=
  let k := s.link.signs.get t.sign
  let run := min (k.failures + 1) 3
  match k.health with
  | .notFitted => s
  | .fault => s.setSignLink t.sign { k with failures := 3, probe := .counting 0 }
  | _ =>
    if run = 3 then
      reportFault t.sign (s.setSignLink t.sign { k with health := .fault, failures := 3, probe := .counting 0 })
    else
      s.setSignLink t.sign
        { k with failures := run, waiting := if k.waiting.isSome then k.waiting else some t.pages }

/-- R147: a sign's health has become OK; the report reaches the gates, the line, QUIET and, when it was FAULT, the
refresh timer. -/
def reportOk (n : Sign) (wasFault : Bool) (s : State) : State :=
  let s1 := judgeQuiet (present .status (signReport n s))
  if wasFault then s1.setSign n { s1.signs.get n with refresh := s1.refreshStart n } else s1

/-- R147, R137: the ACK reaches the selector, and a change of the displayed-since map the gates. -/
def reportAck (t : Transfer) (s : State) : State :=
  let s1 := acknowledge t.sign t.pages s
  if (s1.signs.get t.sign).displayed = (s.signs.get t.sign).displayed then s1 else signReport t.sign s1

/-- R147: a success of a transfer, which has ended. -/
def countSuccessful (t : Transfer) (s : State) : State :=
  let k := s.link.signs.get t.sign
  let s1 := s.setSignLink t.sign { k with health := .ok, failures := 0, probe := .stopped }
  reportAck t (if k.health = .ok then s1 else reportOk t.sign (decide (k.health = .fault)) s1)

/-- R148: a refused template: the sign is evaluated again, and a probe of a sign in FAULT is due at once. The evaluation comes
first: a page set it hands on the idle link is an occasion of the arbiter's choice (R151), in which the probe does not compete
yet (DESIGN CHOICE, log entry 44). -/
def countRefusal (t : Transfer) (page : BitVec 4) (s : State) : State :=
  let g := s.signs.get t.sign
  let s1 := evaluateSign t.sign
    (s.setSign t.sign { g with refused := refuseTemplate (refusedTemplate t.pages page) g.refused })
  let k := s1.link.signs.get t.sign
  if t.probe ∧ k.health = .fault then s1.setSignLink t.sign { k with probe := .due } else s1

/-- R141: the transfer a reply from a sign address can end: one whose page set has been fully sent. -/
def State.awaited (s : State) (address : BitVec 4) : Option Transfer :=
  match s.link.transfer with
  | some t =>
    if (s.link.state = .awaiting ∨ s.link.state = .pausedAwaiting) ∧ address.toNat = signAddress t.sign then some t
    else none
  | none => none

/-- R146, R151: a transfer fails: it ends, the failure counts, and the arbiter makes its next choice. -/
def failTransfer (t : Transfer) (s : State) : State := arbitrate (countFailure t (endTransfer s))

/-- PAGE_SET_SENT (R142, R144): the last character's stop bit has been sent: the reply timer starts at 2 s, standing still in
PAUSED when the flow state has become HELD while that character was sent. -/
def execPageSetSent (s : State) : Host.Outcome State Fault Refusal :=
  .next (match s.link.transfer with
    | some t =>
      if s.link.state = .sending ∧ messageLength t.pages * charUnits ≤ t.progress then
        s.withLink { s.link with
          state := if s.link.held then .pausedAwaiting else .awaiting, transfer := some { t with reply := replyTicks } }
      else s
    | none => s)

/-- ACK_RECEIVED (R147): a success when the echoed check value is the one sent, a failure otherwise (R143), also where the ACK
is that of an earlier transfer to the same sign which timed out (DESIGN CHOICE, log entry 45). -/
def execAckReceived (address : BitVec 4) (check : Word16) (s : State) : Host.Outcome State Fault Refusal :=
  .next (match s.awaited address with
    | some t =>
      if check = checkValue t.sign t.pages then arbitrate (countSuccessful t (endTransfer s)) else failTransfer t s
    | none => s)

/-- NAK_UNKNOWN_TEMPLATE (R148). -/
def execNakUnknownTemplate (address : BitVec 4) (page : BitVec 4) (s : State) : Host.Outcome State Fault Refusal :=
  .next (match s.awaited address with
    | some t => arbitrate (countRefusal t page (endTransfer s))
    | none => s)

/-- NAK_BAD_FORMAT (R146): a failure, whatever page it names. -/
def execNakBadFormat (address : BitVec 4) (_page : BitVec 4) (s : State) : Host.Outcome State Fault Refusal :=
  .next (match s.awaited address with
    | some t => failTransfer t s
    | none => s)

/-- REPLY_TIMEOUT (R143): the reply timer has reached 0. An XOFF taken before it at that very instant holds the link in PAUSED
with the timer at 0, and the time-out is taken after the XON (DESIGN CHOICE, log entry 48). -/
def execReplyTimeout (s : State) : Host.Outcome State Fault Refusal :=
  .next (match s.link.transfer with
    | some t => if s.link.state = .awaiting ∧ t.reply = 0 then failTransfer t s else s
    | none => s)

/-- R144: how an XOFF moves the link. In SENDING the link stays as it is until the character being sent completes: the tick of
its stop bit (`Link.advance`) or PAGE_SET_SENT then enters PAUSED. -/
def LinkState.hold : LinkState → LinkState
  | .awaiting => .pausedAwaiting
  | x => x

/-- XOFF_RECEIVED (R144). In CONFIG-READ and CONFIG-FAULT it is discarded (R140). -/
def execXoffReceived (s : State) : Host.Outcome State Fault Refusal :=
  .next (if s.phase.operating then s.withLink { s.link with held := true, state := s.link.state.hold } else s)

/-- R144: how an XON moves the link. -/
def LinkState.resume : LinkState → LinkState
  | .pausedSending => .sending
  | .pausedAwaiting => .awaiting
  | x => x

/-- XON_RECEIVED (R144). In CONFIG-READ and CONFIG-FAULT it is discarded (R140). -/
def execXonReceived (s : State) : Host.Outcome State Fault Refusal :=
  .next (if s.phase.operating then s.withLink { s.link with held := false, state := s.link.state.resume } else s)

/-- PAUSED, from either state. -/
def LinkState.isPaused (k : LinkState) : Bool := k == .pausedSending || k == .pausedAwaiting

/-- PAUSE_LIMIT (R143): the pause total has exceeded 10 s. -/
def execPauseLimit (s : State) : Host.Outcome State Fault Refusal :=
  .next (match s.link.transfer with
    | some t => if s.link.state.isPaused = true ∧ 10 * ticksPerSecond < t.pause then failTransfer t s else s
    | none => s)

/-- PROBE_DUE (R149): the sign's probe timer has reached 60 s since the entry to FAULT or the last failed probe. -/
def execProbeDue (sign : Sign) (s : State) : Host.Outcome State Fault Refusal :=
  let k := s.link.signs.get sign
  .next (match k.probe with
    | .counting n =>
      if s.phase.serving && decide (k.health = .fault ∧ 60 * ticksPerSecond ≤ n) then
        arbitrate (s.setSignLink sign { k with probe := .due })
      else s
    | _ => s)

end Sys2Proof.Machine
end

