-- ==== Sys2Proof/Machine/Register.lean ====
section
/-! DEFINITION. The closure register's operations (06_the_closure_register.md): placing, eviction and removal of records,
own records, SLIDE events, the refresh walker, and the register's reports (R119). What the hazard unit is told follows in
Hazard.lean, and the closure commands in Closures.lean. -/

namespace Sys2Proof.Machine

open Sys2Proof

/-! ## Reports (R119) -/

/-- A change to the records is reported: the signs are evaluated, the gates re-evaluated, QUIET judged. -/
def reportRecords (s : State) : State := judgeQuiet (evaluateGates (evaluateSigns s))

/-- REGISTER-FULL takes a value; a change is reported to the line unit (R116). -/
def setFull (b : Bool) (s : State) : State :=
  if s.register.full = b then s else present .status (s.withRegister { s.register with full := b })

/-! ## Room for a record (R95, R115) -/

/-- The lowest free index, counting from `i`. -/
def freeIndex (i : Nat) : List (Option ClosureRecord) → Option Nat
  | [] => none
  | none :: _ => some i
  | some _ :: rest => freeIndex (i + 1) rest

/-- The first of the candidates with the least key. -/
def leastBy (key : ClosureRecord → Nat) : List (Nat × ClosureRecord) → Option (Nat × ClosureRecord)
  | [] => none
  | p :: rest =>
    match leastBy key rest with
    | none => some p
    | some q => if key q.2 < key p.2 then some q else some p

/-- The first of the candidates with the greatest key. -/
def greatestBy (key : ClosureRecord → Nat) : List (Nat × ClosureRecord) → Option (Nat × ClosureRecord)
  | [] => none
  | p :: rest =>
    match greatestBy key rest with
    | none => some p
    | some q => if key p.2 < key q.2 then some q else some p

/-- R115: the index of the record a new record evicts. -/
def State.evictIndex (s : State) (new : ClosureRecord) : Option Nat :=
  match leastBy ClosureRecord.display
      (s.records.filter (fun p => decide (p.2.state = .lifted) && !p.2.own)) with
  | some p => some p.1
  | none =>
    if decide (new.state = .announced) && !s.relevant new then none
    else (greatestBy (fun r => r.separation s.config.chainage)
      (s.records.filter (fun p => decide (p.2.state = .announced) && !p.2.own && !s.relevant p.2))).map Prod.fst

/-- A record leaves the register: the line unit drops its entries, the selector its displayed-since entries, and the
removal is reported (R107, R115, R120). -/
def vacate (i : Nat) (s : State) : State :=
  match s.recordAt i with
  | some r => reportRecords (dropDisplayed r.id (dropEntries r.id (s.setSlot i none)))
  | none => s

/-- R105: a record that becomes ANNOUNCED with a lead of 0 is IN-FORCE at that instant. -/
def ClosureRecord.settled (r : ClosureRecord) : ClosureRecord :=
  if r.state = .announced ∧ r.lead = 0 then { r with state := .inForce } else r

/-- A record is stored at an index and the change reported. -/
def storeRecord (i : Nat) (r : ClosureRecord) (s : State) : State := reportRecords (s.setSlot i (some r))

/-- R95, R101, R115: room is sought first, for the new record as the bulletin or the request gives it: the lowest free index,
or that of the record it evicts; with no room REGISTER-FULL is set. The record is then created, and one ANNOUNCED with a lead
of 0 comes in force as it is created (R105). The flag says whether it was placed. -/
def admitRecord (r : ClosureRecord) (s : State) : State × Bool :=
  match freeIndex 0 s.register.slots with
  | some i => (storeRecord i r.settled s, true)
  | none =>
    match s.evictIndex r with
    | some i => (storeRecord i r.settled (vacate i s), true)
    | none => (setFull true s, false)

/-! ## Own records (R109, R110) -/

/-- The id of an own record with a serial. -/
def State.ownId (s : State) (serial : Byte) : RecId := ⟨s.startup.address, serial⟩

/-- R109: the serial sought from a counter value: the first that no record holds. -/
def State.freeSerial (s : State) (serial : Byte) : Nat → Byte
  | 0 => serial
  | n + 1 => if (s.findRecord (s.ownId serial)).isSome then s.freeSerial (serial + 1) n else serial

/-- R109: the serial the next own record takes. With sixteen places seventeen tries always find one. -/
def State.nextSerial (s : State) : Byte := s.freeSerial s.retained.ownSerial 17

/-- R109: the own serial counter moves past a serial taken. -/
def takeSerial (serial : Byte) (s : State) : State := s.withRetained { s.retained with ownSerial := serial + 1 }

/-- An own record of a new serial, its scope c less and plus a half-length, each end limited to 0-65535 (R110, R112). -/
def State.ownRecord (s : State) (kind : ClosureKind) (half : Nat) (state : ClosureState) (lead : Nat) : ClosureRecord :=
  { id := s.ownId s.nextSerial, revision := 0#8, kind := kind, scopeLo := s.config.chainage - half,
    scopeHi := min (s.config.chainage + half) 65535, state := state, lead := lead, duration := none, template := 0#8,
    age := 0, stale := false, display := 0, own := true }

/-- R114: in RUNNING a change to an own record queues a CLOSURE. -/
def queueOwn (r : ClosureRecord) (s : State) : State :=
  if r.own && decide (s.phase = .running) then present (.closure r.id) s else s

/-- An own SLIDE record that is not LIFTED, at the lowest index (R110). -/
def State.standingSlide (s : State) : Option (Nat × ClosureRecord) :=
  s.records.find? (fun p => p.2.own && decide (p.2.kind = .slide ∧ p.2.state ≠ .lifted))

/-- R110, R111: a SLIDE event is carried out: the standing own SLIDE record is re-confirmed, or a new one originated;
with no room the event waits for a removal. -/
def carrySlide (s : State) : State :=
  match s.standingSlide with
  | some (i, r) =>
    present (.alert r.id) (storeRecord i
      { r with revision := r.revision + 1, state := .inForce, lead := 0 } s)
  | none =>
    let r := s.ownRecord .slide s.config.slideHalf .inForce 0
    match admitRecord r s with
    | (s1, true) => present (.alert r.id) (takeSerial r.id.serial s1)
    | (s1, false) => s1.withRegister { s1.register with slidePending := true }

/-- A SLIDE event is delivered (R110); while one is pending a further one is merged with it (R111). -/
def slideEvent (s : State) : State := if s.register.slidePending then s else carrySlide s

/-! ## The refresh walker (R117, R118) -/

/-- R117: one step: the record at the index is queued when it is own, and the index advances; the step at index 15 ends a
FAST pass. -/
def walkerAdvance (s : State) : State :=
  let i := s.register.walkerIndex
  let s1 := match s.recordAt i with
    | some r => if r.own then present (.closure r.id) s else s
    | none => s
  let fast := s.register.walkerFast && decide (i < 15)
  s1.withRegister { s1.register with
    walkerIndex := (i + 1) % 16, walkerFast := fast, walkerTimer := some (if fast then 2 else 20) }

/-- R118: the walker restarts in FAST mode at index 0 and takes its first step, in RUNNING; a request taken before leaves
it not running. -/
def restartWalker (s : State) : State :=
  if s.phase = .running then
    walkerAdvance (s.withRegister { s.register with walkerIndex := 0, walkerFast := true })
  else s

/-- WALKER_STEP (R117): the walker's step timer has run. -/
def execWalkerStep (s : State) : Host.Outcome State Fault Refusal :=
  .next (if s.phase = .running ∧ s.register.walkerTimer = some 0 then walkerAdvance s else s)

/-! ## The slide contact (R19, R20) -/

/-- R20: a SLIDE event goes to the register in SETTLING and RUNNING, and is deferred in JOINING. -/
def deliverSlide (s : State) : State :=
  if s.phase = .joining then s.withSlide { s.slide with deferred := true } else slideEvent s

/-- SLIDE_CONTACT_CHANGE (R19): the pin takes its level in every phase, the supervisor follows in JOINING, SETTLING and
RUNNING. -/
def execSlideContactChange (closed : Bool) (s : State) : Host.Outcome State Fault Refusal :=
  let s1 := s.withPins { s.pins with contact := closed }
  .next (if s.phase.operating && decide (s.pins.contact ≠ closed) then
    match s.slide.state, closed with
    | .armed, true => s1.withSlide { s.slide with state := .confirming, confirm := some 0 }
    | .confirming, false => s1.withSlide { s.slide with state := .armed, confirm := none }
    | .tripped, false => s1.withSlide { s.slide with rearm := some 0 }
    | .tripped, true => s1.withSlide { s.slide with rearm := none }
    | _, _ => s1
  else s1)

/-- SLIDE_CONFIRMATION_EXPIRY (R19): 200 ms have run with the contact closed. -/
def execSlideConfirmationExpiry (s : State) : Host.Outcome State Fault Refusal :=
  .next (if s.phase.operating && decide (s.slide.state = .confirming ∧ 20000 ≤ s.slide.confirm.getD 0) && s.pins.contact
    then deliverSlide (s.withSlide { s.slide with state := .tripped, confirm := none, rearm := none })
    else s)

/-- REARM_TIMER_EXPIRY (R19): 5 s have run with the contact open. -/
def execRearmTimerExpiry (s : State) : Host.Outcome State Fault Refusal :=
  .next (if s.phase.operating && decide (s.slide.state = .tripped ∧ 5 * ticksPerSecond ≤ s.slide.rearm.getD 0)
      && !s.pins.contact
    then s.withSlide { s.slide with state := .armed, rearm := none }
    else s)

/-- RECORD_STALE (R108): a non-own record's age exceeds 900 s. -/
def execRecordStale (index : Nat) (s : State) : Host.Outcome State Fault Refusal :=
  .next (match s.recordAt index with
    | some r =>
      if s.phase.operating && !r.own && !r.stale && decide (900 < r.age) then storeRecord index { r with stale := true } s
      else s
    | none => s)

end Sys2Proof.Machine
end

