-- ==== Sys2Proof/Machine/Hazard.lean ====
section
/-! DEFINITION. The hazard unit (03_avalanche_hazard_computation.md): the four terms over the hour ring, the levels, the
floors, autoclose, bring-forward, lift, the override hold, and the evaluation as one operation (R55). -/

namespace Sys2Proof.Machine

open Sys2Proof

/-! ## Reading the ring (R31) -/

/-- A field at the positions `first` to `first + n - 1`, lowest position first. -/
def Retained.fields (m : Retained) (field : HourRecord → Value) (first n : Nat) : List Value :=
  (List.range n).map (fun k => readValue field (m.read (first + k)))

/-! ## The terms (R36-R40): `none` when the data test fails -/

def termA (m : Retained) : Option Nat :=
  let fs := m.fields HourRecord.precipitation 1 24
  let n := absentCount fs
  if 6 < n then none
  else some (limitNat ((presentValues fs).sum * 24 / ((24 - n : Nat) : Int) / 5) 120)

def termB (m : Retained) (transport : Nat) : Option Nat :=
  let winds := m.fields HourRecord.meanWind 1 24
  if 6 < absentCount winds then none
  else if (presentValues (m.fields HourRecord.precipitation 1 72)).sum < 10 then some 0
  else some (min (3 * ((presentValues winds).filter (fun v => decide ((transport : Int) ≤ v))).length) 60)

def termC (m : Retained) : Option Nat :=
  match maxValue (m.fields HourRecord.tempMax 1 6), minValue (m.fields HourRecord.tempMin 1 24) with
  | some hi, some lo =>
    if hi ≤ -50 ∨ hi - lo ≤ 0 then some 0 else some (limitNat ((hi - lo) / 5) 40)
  | _, _ => none

def termD (m : Retained) : Option Nat :=
  match (presentValues (m.fields HourRecord.depth 1 6)).head?, (presentValues (m.fields HourRecord.depth 49 24)).getLast? with
  | some now, some old => some (limitNat ((now - old) / 2) 40)
  | _, _ => none

/-- R42: the threshold of a level. -/
def Thresholds.ofLevel (t : Thresholds) : Nat → Nat
  | 1 => t.t1
  | 2 => t.t2
  | 3 => t.t3
  | 4 => t.t4
  | _ => t.t5

/-- R42: the largest level above `l` whose threshold lies at or below the score. -/
def levelUp (t : Thresholds) (score l : Nat) : Option Nat :=
  [5, 4, 3, 2, 1].find? (fun k => decide (l < k ∧ t.ofLevel k ≤ score))

/-- R42: the computed level from the previous one and the score. -/
def nextLevel (t : Thresholds) (hysteresis score l : Nat) : Nat :=
  match levelUp t score l with
  | some k => k
  | none => if 0 < l ∧ (score : Int) < (t.ofLevel l : Int) - hysteresis then l - 1 else l

/-- R35 to R42: the computation of an evaluation. -/
def compute (k : StationConfig) (m : Retained) (h : Hazard) : Hazard :=
  let a := termA m
  let b := termB m k.transport
  let c := termC m
  let d := termD m
  let va := a.getD h.termA
  let vb := b.getD h.termB
  let vc := c.getD h.termC
  let vd := d.getD h.termD
  let score := min (va + vb + vc + vd) 255
  { h with
    termA := va, termB := vb, termC := vc, termD := vd, score := score,
    degraded := a.isNone || b.isNone || c.isNone || d.isNone,
    computed := nextLevel k.thresholds k.hysteresis score h.computed }

/-! ## The effective level (R48) -/

/-- R48: the largest of the three. -/
def Hazard.largest (h : Hazard) : Nat := max h.computed (max h.floorLevel h.neighbourFloor)

/-- R48: the effective level is recomputed, and a change reported to the line unit, the selector and the start-up
controller. -/
def recomputeEffective (s : State) : State :=
  if s.hazard.largest = s.hazard.effective then s
  else judgeQuiet (evaluateSigns (present .status
    (s.withHazard { s.hazard with effective := s.hazard.largest })))

/-! ## Requests to the register (R49-R52, R112) -/

/-- An own AVALANCHE record that is ANNOUNCED or IN-FORCE. -/
def ClosureRecord.standingAvalanche (r : ClosureRecord) : Bool :=
  r.own && decide (r.kind = .avalanche ∧ r.state ≠ .lifted)

/-- R49: the autoclose test. -/
def State.autocloses (s : State) : Bool :=
  (match s.config.autoclose with
    | some l => decide (l ≤ max s.hazard.computed s.hazard.floorLevel)
    | none => false)
  && s.records.all (fun p => !p.2.standingAvalanche)
  && s.hazard.hold.isNone
  && decide (s.phase = .running)

/-- R51, R112: one record is brought forward. -/
def bringForwardAt (i : Nat) (s : State) : State :=
  match s.recordAt i with
  | some r =>
    if r.own ∧ r.kind = .avalanche ∧ r.state = .announced then
      let r1 := { r with state := .inForce, lead := 0, revision := r.revision + 1 }
      storeRecord i r1 (queueOwn r1 s)
    else s
  | none => s

/-- Apply `f` to each register index, 0 to 15. -/
def forIndices (f : Nat → State → State) (s : State) : State := (List.range 16).foldl (fun s i => f i s) s

/-- R51: the bring-forward test, for every own AVALANCHE record then ANNOUNCED. The rule gives several such records no order;
the model takes them in index order (DESIGN CHOICE, log entry 40). -/
def bringForward (s : State) : State :=
  if s.phase = .running ∧ s.hazard.computed = 5 then forIndices bringForwardAt s else s

/-- R112: an origination request is carried out or refused. -/
def originate (s : State) : State × Bool :=
  let r := s.ownRecord .avalanche s.config.segmentHalf .announced s.config.announceLead
  match admitRecord r s with
  | (s1, true) => (queueOwn r (takeSerial r.id.serial s1), true)
  | (s1, false) => (s1, false)

/-- R50, R51: the autoclose test is made, and an origination that is carried out is followed by the bring-forward test. -/
def autocloseTest (s : State) : State :=
  if s.autocloses then
    match originate s with
    | (s1, true) => bringForward s1
    | (s1, false) => s1
  else s

/-- R112: one record is lifted at the hazard unit's request. -/
def liftAt (i : Nat) (s : State) : State :=
  match s.recordAt i with
  | some r =>
    if r.standingAvalanche then
      let r1 := { r with state := .lifted, lead := 0, revision := r.revision + 1, display := 600 }
      autocloseTest (storeRecord i r1 (queueOwn r1 s))
    else s
  | none => s

/-- R52: the lift counter at an hour close in RUNNING, and the lift it requests. The rule gives several such records no order;
the model takes them in index order (DESIGN CHOICE, log entry 40). -/
def countLift (s : State) : State :=
  let n := if s.hazard.computed ≤ 2 ∧ s.hazard.floorLevel ≤ 2 then s.hazard.liftCounter + 1 else 0
  if 2 ≤ n then forIndices liftAt (s.withHazard { s.hazard with liftCounter := 0 })
  else s.withHazard { s.hazard with liftCounter := n }

/-! ## The evaluation as one operation (R55) -/

/-- Steps 1 to 3 of R55: the results published, the hold ended at a computed level of 5, the effective level formed. -/
def publish (s : State) : State :=
  let h := compute s.config s.retained s.hazard
  let h2 := { h with hold := if h.computed = 5 then none else h.hold }
  s.withHazard { h2 with effective := h2.largest }

/-- Step 7 of R55: each change is reported, `old` being the unit's state before the evaluation. -/
def reportEvaluation (old : Hazard) (s : State) : State :=
  let levels := decide (s.hazard.effective ≠ old.effective ∨ s.hazard.degraded ≠ old.degraded)
  let s1 := if levels || decide (s.hazard.computed ≠ old.computed) then present .status s else s
  if levels then judgeQuiet (evaluateSigns s1) else s1

/-- R55: an evaluation, at an hour close or at the end of CONFIG-READ. -/
def evaluateHazard (hourClose : Bool) (s : State) : State :=
  let s1 := publish s
  let s2 := if hourClose && decide (s.phase = .running) then countLift s1 else s1
  let s3 := if s.phase = .running then bringForward (autocloseTest s2) else s2
  reportEvaluation s.hazard s3

/-! ## Floors and hold -/

/-- R44: a FLOOR is applied. -/
def applyFloor (level minutes : Nat) (s : State) : State :=
  let cancel := decide (level = 0 ∨ minutes = 0)
  let l := if cancel then 0 else min level 5
  let t := if cancel then 0 else min minutes 1440 * 60
  let s1 := s.withHazard { s.hazard with floorLevel := l, floorRemaining := t }
  if l = s.hazard.floorLevel then s1 else autocloseTest (recomputeEffective s1)

/-- OPERATOR_FLOOR_EXPIRY (R45): the remaining time of an active floor has reached 0. -/
def execOperatorFloorExpiry (s : State) : Host.Outcome State Fault Refusal :=
  .next (if s.phase.operating && decide (0 < s.hazard.floorLevel ∧ s.hazard.floorRemaining = 0)
    then autocloseTest (recomputeEffective (s.withHazard { s.hazard with floorLevel := 0 }))
    else s)

/-- R53, R54: a control lift is reported: the hold starts, or starts and ends at once when the computed level is 5, which
is an occasion of the autoclose test (R50). -/
def controlLift (s : State) : State :=
  if s.hazard.computed = 5 then autocloseTest (s.withHazard { s.hazard with hold := none })
  else s.withHazard { s.hazard with hold := some 21600 }

/-- OVERRIDE_HOLD_EXPIRY (R53): the hold's remaining time has reached 0. -/
def execOverrideHoldExpiry (s : State) : Host.Outcome State Fault Refusal :=
  .next (if s.phase.operating && decide (s.hazard.hold = some 0)
    then autocloseTest (s.withHazard { s.hazard with hold := none })
    else s)

/-- R46, R47: the neighbour floor and NEIGHBOUR-SILENT are recomputed on a report of the peer table. -/
def recomputeNeighbours (s : State) : State :=
  let silent := s.neighbourSilentNow
  let s1 := recomputeEffective (s.withHazard { s.hazard with
    neighbourFloor := s.neighbourFloorNow, neighbourSilent := silent })
  if silent = s.hazard.neighbourSilent then s1 else judgeQuiet (evaluateSigns (present .status s1))

end Sys2Proof.Machine
end

