-- ==== Sys2Proof/Machine/Closures.lean ====
section
/-! DEFINITION. Closure bulletins taken by the register (R98-R104, R113, R121), the local timers' commands (R105-R107), and
the removal of a record (R107, R111, R116). -/

namespace Sys2Proof.Machine

open Sys2Proof

/-! ## A closure bulletin -/

/-- The carried fields of a bulletin once its codes are known (R89). -/
structure ClosureContent where
  id : RecId
  revision : Byte
  kind : ClosureKind
  scopeLo : Nat
  scopeHi : Nat
  state : ClosureState
  lead : Nat
  duration : Option Nat
  template : Byte
  deriving DecidableEq, Repr

/-- R98: the form check; the content of a well-formed bulletin. -/
def closureContent (isAlert : Bool) (b : ClosureBody) : Option ClosureContent :=
  match closureKindOf b.kind, closureStateOf b.state with
  | some kind, some state =>
    if goodSource b.origin && decide (b.scopeLo.toNat ≤ b.scopeHi.toNat) && !(isAlert && decide (kind ≠ .slide)) then
      some { id := ⟨b.origin, b.serial⟩, revision := b.revision, kind := kind, scopeLo := b.scopeLo.toNat,
             scopeHi := b.scopeHi.toNat, state := state, lead := b.lead.toNat,
             duration := if b.minutes = 0#16 then none else some (b.minutes.toNat * 60), template := b.template }
    else none
  | _, _ => none

/-- R121, R183, R184: the adoption window. -/
def State.adopting (s : State) : Bool := decide (s.phase = .joining ∨ s.phase = .settling)

/-- R99: the authority check. -/
def State.authorised (s : State) (sender origin : Byte) : Bool :=
  decide (sender = origin) || s.isControl sender || (s.adopting && decide (origin = s.startup.address))

/-- R100: the kind check. -/
def State.kindAllowed (s : State) (origin : Byte) (kind : ClosureKind) : Bool :=
  !(decide (kind = .operator ∨ kind = .season) && !s.isControl origin)

/-- R101: the record a bulletin creates, as it stands before `ClosureRecord.settled`. -/
def State.newRecord (s : State) (c : ClosureContent) : ClosureRecord :=
  { id := c.id, revision := c.revision, kind := c.kind, scopeLo := c.scopeLo, scopeHi := c.scopeHi, state := c.state,
    lead := if c.state = .announced then c.lead else 0, duration := c.duration, template := c.template, age := 0,
    stale := false, display := if c.state = .lifted then 600 else 0, own := decide (c.id.origin = s.startup.address) }

/-- R102: the content of a newer revision. -/
def mergeNewer (c : ClosureContent) (r : ClosureRecord) : ClosureRecord :=
  ClosureRecord.settled
    { r with
      revision := c.revision, kind := c.kind, scopeLo := c.scopeLo, scopeHi := c.scopeHi, state := c.state,
      template := c.template, lead := if c.state = .announced then c.lead else 0, duration := c.duration, age := 0,
      stale := false,
      display := if c.state = .lifted then (if r.state = .lifted then r.display else 600) else 0 }

/-- The order ANNOUNCED, IN-FORCE, LIFTED (R103). -/
def laterState (a b : ClosureState) : ClosureState :=
  if closureStateCode a < closureStateCode b then b else a

/-- R103: the smaller duration, an absent one counting as longer than any present one. -/
def smallerDuration : Option Nat → Option Nat → Option Nat
  | some a, some b => some (min a b)
  | none, d => d
  | d, none => d

/-- R103: an equal revision confirms and may advance. -/
def mergeEqual (c : ClosureContent) (r : ClosureRecord) : ClosureRecord :=
  let st := laterState r.state c.state
  ClosureRecord.settled
    { r with
      state := st, lead := if st = .announced then min r.lead c.lead else 0,
      duration := smallerDuration r.duration c.duration, age := 0, stale := false,
      display := if st = .lifted ∧ r.state ≠ .lifted then 600 else r.display }

/-- R101: how a received revision stands to the held one. -/
def revisionDistance (received held : Byte) : Nat := (received - held).toNat

/-- R101 to R104: the held record after a bulletin, `none` when the bulletin is older. -/
def mergeRecord (c : ClosureContent) (r : ClosureRecord) : Option ClosureRecord :=
  let d := revisionDistance c.revision r.revision
  if d = 0 then some (mergeEqual c r)
  else if d ≤ 127 then some (mergeNewer c r)
  else none

/-- R119: whether a change of a record is one its readers act on. -/
def reportable (a b : ClosureRecord) : Bool :=
  decide (a.state ≠ b.state ∨ a.scopeLo ≠ b.scopeLo ∨ a.scopeHi ≠ b.scopeHi ∨ a.kind ≠ b.kind ∨ a.template ≠ b.template
    ∨ a.revision ≠ b.revision ∨ a.stale ≠ b.stale)

/-- R114: whether any carried field changed. -/
def carriedChanged (a b : ClosureRecord) : Bool :=
  decide (a.revision ≠ b.revision ∨ a.kind ≠ b.kind ∨ a.scopeLo ≠ b.scopeLo ∨ a.scopeHi ≠ b.scopeHi ∨ a.state ≠ b.state
    ∨ a.lead ≠ b.lead ∨ a.duration ≠ b.duration ∨ a.template ≠ b.template)

/-- R113, R120: what the hazard unit is told when a record has moved: a control lift of an own AVALANCHE record in RUNNING,
and its leaving ANNOUNCED or IN-FORCE. -/
def tellHazard (control : Bool) (a b : ClosureRecord) (s : State) : State :=
  if a.standingAvalanche && decide (b.state = .lifted) then
    autocloseTest (if control && decide (s.phase = .running) then controlLift s else s)
  else s

/-- R102, R103: the merged record takes the place of the held one at its index, with the reports and the CLOSURE (R114)
that follow. -/
def replaceRecord (control : Bool) (i : Nat) (a b : ClosureRecord) (s : State) : State :=
  let s1 := if control && carriedChanged a b then queueOwn b s else s
  let s2 := s1.setSlot i (some b)
  tellHazard control a b (if reportable a b then reportRecords s2 else s2)

/-- R101: a bulletin whose id is not held. -/
def createRecord (c : ClosureContent) (s : State) : State :=
  let r := s.newRecord c
  if c.state = .lifted ∧ ¬ (r.own = true ∧ s.adopting = true) then s
  else
    match admitRecord r s with
    | (s1, true) => if r.settled.state ≠ r.state then queueOwn r s1 else s1
    | (s1, false) => s1

/-- R98 to R104: a CLOSURE or ALERT delivered to the register with its sender's address. -/
def takeClosure (isAlert : Bool) (sender : Byte) (b : ClosureBody) (s : State) : State :=
  match closureContent isAlert b with
  | none => s
  | some c =>
    if s.authorised sender c.id.origin && s.kindAllowed c.id.origin c.kind then
      match s.findRecord c.id with
      | none => createRecord c s
      | some (i, r) =>
        match mergeRecord c r with
        | none => s
        | some r1 => replaceRecord (s.isControl sender) i r r1 s
    else s

/-! ## Timed transitions (R105-R107) -/

/-- LEAD_EXPIRY (R105): an ANNOUNCED record's lead remaining has reached 0. -/
def execLeadExpiry (index : Nat) (s : State) : Host.Outcome State Fault Refusal :=
  .next (match s.recordAt index with
    | some r =>
      if s.phase.operating && decide (r.state = .announced ∧ r.lead = 0) then
        let r1 := { r with state := .inForce }
        storeRecord index r1 (queueOwn r1 s)
      else s
    | none => s)

/-- DURATION_EXPIRY (R106): an IN-FORCE record's duration remaining has reached 0; it is absent from then on (log entry 14). -/
def execDurationExpiry (index : Nat) (s : State) : Host.Outcome State Fault Refusal :=
  .next (match s.recordAt index with
    | some r =>
      if s.phase.operating && decide (r.state = .inForce ∧ r.duration = some 0) then
        let r1 := { r with state := .lifted, duration := none, display := 600 }
        tellHazard false r r1 (storeRecord index r1 (queueOwn r1 s))
      else s
    | none => s)

/-- R111: a removal serves a pending SLIDE event in the freed index. -/
def servePendingSlide (s : State) : State :=
  if s.register.slidePending then carrySlide (s.withRegister { s.register with slidePending := false }) else s

/-- R107, R111, R116: a record is removed: REGISTER-FULL clears, a pending slide is served, and the hazard unit is told of
a removed own AVALANCHE record and of the clearing. -/
def removeRecord (i : Nat) (r : ClosureRecord) (s : State) : State :=
  let s1 := servePendingSlide (setFull false (vacate i s))
  if s.register.full || (r.own && decide (r.kind = .avalanche)) then autocloseTest s1 else s1

/-- LIFTED_DISPLAY_EXPIRY (R107): a LIFTED record's display time has reached 0. -/
def execLiftedDisplayExpiry (index : Nat) (s : State) : Host.Outcome State Fault Refusal :=
  .next (match s.recordAt index with
    | some r =>
      if s.phase.operating && decide (r.state = .lifted ∧ r.display = 0) then removeRecord index r s else s
    | none => s)

end Sys2Proof.Machine
end

