-- ==== Sys2Proof/Machine/Observation.lean ====
section
/-! DEFINITION. The observation unit's channels (01_observation_channels.md): counting under the sense line, samples,
scaling, comparators and minute samples. The slide contact stands in Register.lean. -/

namespace Sys2Proof.Machine

open Sys2Proof

/-! ## Samples and comparators -/

/-- R18: a change of a channel's alert is reported to the line unit, the selector and the start-up controller. -/
def reportAlert (s : State) : State := judgeQuiet (evaluateSigns (present .status s))

/-- R15 to R18: a sample is presented to a channel's comparator. -/
def presentSample (c : Chan) (v : Value) (s : State) : State :=
  let ch := s.channels.get c
  let r := compare (s.channelConfig c) ch.alert ch.run v
  let s1 := s.setChannel c { ch with alert := r.1, run := r.2 }
  if r.1 = ch.alert then s1 else reportAlert s1

/-- R9, R10, R11: a raw count or width becomes the channel's latest value and sets or clears CLAMPED; an absent sample
makes the latest value ABSENT and leaves the flag. -/
def Channel.takeRaw (ch : Channel) (k : ChannelConfig) : Option Nat → Channel
  | some raw =>
    { ch with latest := some (scale raw k.gain k.offset), clamped := scaleClamped raw k.gain k.offset }
  | none => { ch with latest := none }

/-- The larger of two values, an ABSENT one giving way (R11). -/
def largerValue : Value → Value → Value
  | some a, some b => some (max a b)
  | none, x => x
  | x, none => x

/-! ## Edges (R4) -/

/-- R4: whether an edge is one the edge setting counts. -/
def countsEdge (k : ChannelConfig) (rising : Bool) : Bool := rising || decide (k.edge = .double)

/-- R8: the silence timer after a width sample: restarted. Where a pulse completes at the instant the timer expires the expiry
is still to be taken, so that both samples are formed: the timer stands at its expiry until then. -/
def Channel.silenceAfter (ch : Channel) (raw : Option Nat) : Option Nat :=
  if raw.isSome && decide (10 * ticksPerSecond ≤ ch.silence.getD 0) then ch.silence else some 0

/-- R7, R8: a width sample, present or absent, ends the pulse, restarts the silence timer and goes to the comparator. -/
def widthSample (c : Chan) (raw : Option Nat) (s : State) : State :=
  let ch := (s.channels.get c).takeRaw (s.channelConfig c) raw
  presentSample c ch.latest
    (s.setChannel c { ch with
      pulse := none, silence := ch.silenceAfter raw,
      minuteWidth := if ch.latest.isSome then ch.latest else ch.minuteWidth })

/-- R7: the width of a pulse that has just ended, none when it reached 65536 ticks (R8). -/
def pulseWidth (t : Nat) : Option Nat := if t ≤ 65535 then some t else none

/-- PULSE_EDGE (R4, R7): an edge of a pulse input while the sense line is high. -/
def execPulseEdge (ch : Chan) (rising : Bool) (s : State) : Host.Outcome State Fault Refusal :=
  let c := s.channels.get ch
  let k := s.channelConfig ch
  .next (if s.phase.operating && s.pins.sense.get ch then
    match c.mode with
    | .off => s
    | .rate => if countsEdge k rising then s.setChannel ch { c with windowCount := countUp c.windowCount } else s
    | .total =>
      if countsEdge k rising then
        s.setChannel ch { c with minuteCount := countUp c.minuteCount, hourCount := countUp c.hourCount }
      else s
    | .width =>
      match c.pulse, rising with
      | none, true => s.setChannel ch { c with pulse := some 0 }
      | some t, false => widthSample ch (pulseWidth t) s
      | _, _ => s
  else s)

/-- SENSE_LINE_CHANGE (R5, R6, R8): the pin takes its level in every phase. A fall makes the RATE window in progress
absent, and abandons a WIDTH pulse with an absent sample. -/
def execSenseLineChange (ch : Chan) (high : Bool) (s : State) : Host.Outcome State Fault Refusal :=
  let s1 := s.withPins { s.pins with sense := s.pins.sense.set ch high }
  .next (if s.phase.operating && s.pins.sense.get ch && !high then
    match (s.channels.get ch).mode with
    | .rate => s1.setChannel ch { s1.channels.get ch with windowLow := true }
    | .width => widthSample ch none s1
    | _ => s1
  else s1)

/-- WIDTH_OVERRANGE (R8): a pulse in progress has reached 65536 ticks. -/
def execWidthOverrange (ch : Chan) (s : State) : Host.Outcome State Fault Refusal :=
  let c := s.channels.get ch
  .next (if s.phase.operating && decide (c.mode = .width ∧ 65536 ≤ c.pulse.getD 0) then widthSample ch none s else s)

/-- The absent sample of a silence that has lasted 10 s: a pulse in progress goes on (R8). -/
def silentSample (c : Chan) (s : State) : State :=
  presentSample c none (s.setChannel c { s.channels.get c with latest := none, silence := some 0 })

/-- SILENCE_TIMER_EXPIRY (R8): the silence timer has run for 10 s, in ticks from its start (DESIGN CHOICE, log entry 53). -/
def execSilenceTimerExpiry (ch : Chan) (s : State) : Host.Outcome State Fault Refusal :=
  let c := s.channels.get ch
  .next (if s.phase.operating && decide (c.mode = .width ∧ 10 * ticksPerSecond ≤ c.silence.getD 0)
    then silentSample ch s else s)

/-! ## Windows (R5) -/

/-- Whether a window of a RATE channel has run out and its sample is still to be formed. -/
def State.windowDue (s : State) (c : Chan) : Bool :=
  s.phase.operating && decide ((s.channels.get c).mode = .rate
    ∧ (s.channels.get c).windowsEnded < s.now / (s.channelConfig c).window)

/-- R5: the window sample is formed and the next window begins. -/
def endWindow (c : Chan) (s : State) : State :=
  let ch := s.channels.get c
  let ch1 := ch.takeRaw (s.channelConfig c) (if ch.windowLow then none else some ch.windowCount)
  presentSample c ch1.latest
    (s.setChannel c { ch1 with
      hourPeak := largerValue ch.hourPeak ch1.latest, windows := ch.windows ++ [ch1.latest], windowCount := 0,
      windowLow := !s.pins.sense.get c, windowsEnded := ch.windowsEnded + 1 })

/-- RATE_WINDOW_END (R5). -/
def execRateWindowEnd (ch : Chan) (s : State) : Host.Outcome State Fault Refusal :=
  .next (if s.windowDue ch then endWindow ch s else s)

/-! ## Minutes (R12-R15) -/

/-- R12: the minute sample of a RATE channel from the window samples that ended in the minute. -/
def rateMinute (windows : List Value) : MinuteSample :=
  let vs := presentValues windows
  if windows.length < 2 * absentCount windows ∨ vs = [] then ⟨none, none⟩
  else ⟨some (roundDiv vs.sum vs.length), maxValue windows⟩

/-- R13: whether the minute sample of a TOTAL channel is present. -/
def Channel.totalPresent (ch : Channel) : Bool := decide (ch.lowTicks ≤ 30 * ticksPerSecond)

/-- R12, R13: the minute sample of a channel. -/
def Channel.minuteSample (ch : Channel) : MinuteSample :=
  match ch.mode with
  | .off => ⟨none, none⟩
  | .rate => rateMinute ch.windows
  | .total => ⟨if ch.totalPresent then some (ch.minuteCount : Nat) else none, none⟩
  | .width => ⟨ch.minuteWidth, none⟩

/-- The channel as the next minute begins. -/
def Channel.nextMinute (ch : Channel) : Channel :=
  { ch with minutes := ch.minutes ++ [ch.minuteSample], minuteCount := 0, lowTicks := 0, windows := [], minuteWidth := none }

/-- R12 to R15: one channel at a minute close: its minute sample is appended, and a TOTAL channel presents its running
total. -/
def closeMinute (c : Chan) (s : State) : State :=
  let ch := s.channels.get c
  match ch.mode with
  | .total =>
    let ch1 := ch.nextMinute.takeRaw (s.channelConfig c) (if ch.totalPresent then some ch.hourCount else none)
    presentSample c ch1.latest (s.setChannel c ch1)
  | _ => s.setChannel c ch.nextMinute

/-- Whether a whole minute of station time has run and its close is still to be taken, every window of it being over. -/
def State.minuteDue (s : State) : Bool :=
  s.phase.operating && decide (s.clock.minutesClosed < s.now / 60) && Chan.order.all (fun c => !s.windowDue c)

/-- MINUTE_CLOSE (R12-R15, R125). -/
def execMinuteClose (s : State) : Host.Outcome State Fault Refusal :=
  .next (if s.minuteDue then
    let s1 := forChannels closeMinute s
    evaluateSigns (s1.withClock { s1.clock with minutesClosed := s1.clock.minutesClosed + 1 })
  else s)

end Sys2Proof.Machine
end

