-- ==== Sys2Proof/Machine/Ring.lean ====
section
/-! DEFINITION. The hour ring (02_the_hour_ring.md): the hourly record (R23-R29), its insertion (R30), the check of the
retained ring (R33), and the command HOUR_CLOSE. -/

namespace Sys2Proof.Machine

open Sys2Proof

/-- The present minute values of a channel's current hour. -/
def Channel.presentMinutes (ch : Channel) : List Int := presentValues (ch.minutes.map MinuteSample.value)

/-- R24: a value field formed from the channel that holds a role, ABSENT without one or with fewer than 30 present
minutes. -/
def State.hourField (s : State) (r : Role) (form : Chan → Value) : Value :=
  match s.channelOf r with
  | some c => if (s.channels.get c).presentMinutes.length < 30 then none else form c
  | none => none

/-- R14, R25: the hour total of a TOTAL channel. -/
def State.hourTotal (s : State) (c : Chan) : Int :=
  scale (s.channels.get c).hourCount (s.channelConfig c).gain (s.channelConfig c).offset

/-- R26: the mean of the present minute values, rounded half away from zero. -/
def Channel.hourMean (ch : Channel) : Int := roundDiv ch.presentMinutes.sum ch.presentMinutes.length

/-- R23 to R29: the record built at an hour close. -/
def State.hourRecord (s : State) : HourRecord :=
  let minutes := fun c => (s.channels.get c).presentMinutes
  { serial := s.retained.hourSerial,
    isPartial := s.partialPending,
    present := ⟨(minutes .c1).length, (minutes .c2).length, (minutes .c3).length, (minutes .c4).length⟩,
    precipitation := s.hourField .precip (fun c => some (s.hourTotal c)),
    meanWind := s.hourField .wind (fun c => some (s.channels.get c).hourMean),
    gust := s.hourField .wind (fun c => (s.channels.get c).hourPeak),
    tempMin := s.hourField .temp (fun c => minValue ((minutes c).map some)),
    tempMax := s.hourField .temp (fun c => maxValue ((minutes c).map some)),
    depth := s.hourField .depth (fun c => (minutes c).getLast?) }

/-- R30: a record takes position 1; the ring keeps 72, and the hour serial advances. -/
def Retained.insert (m : Retained) (r : HourRecord) : Retained :=
  { m with records := (r :: m.records).take 72, count := min (m.count + 1) 72, hourSerial := m.hourSerial + 1 }

/-- R14: a channel as the next hour begins; the scaling of a TOTAL channel's hour total moves CLAMPED (R10). -/
def Channel.nextHour (ch : Channel) (k : ChannelConfig) : Channel :=
  { ch with
    minutes := [], hourCount := 0, hourPeak := none,
    clamped := if ch.mode = .total then scaleClamped ch.hourCount k.gain k.offset else ch.clamped }

def beginHour (c : Chan) (s : State) : State := s.setChannel c ((s.channels.get c).nextHour (s.channelConfig c))

/-- R14, R22: the first four steps of an hour close. -/
def insertHour (s : State) : State :=
  let s1 := forChannels beginHour
    ((s.withRetained (s.retained.insert s.hourRecord)).withPartialPending false)
  s1.withClock { s1.clock with hoursClosed := s1.clock.hoursClosed + 1 }

/-- Whether a whole hour of station time has run and its close is still to be taken, its sixtieth minute being closed. -/
def State.hourDue (s : State) : Bool :=
  s.phase.operating && decide (s.clock.hoursClosed < s.now / 3600 ∧ s.clock.minutesClosed = s.now / 60)

/-- HOUR_CLOSE (R22): the record is built and inserted, and the hazard unit evaluates. -/
def execHourClose (s : State) : Host.Outcome State Fault Refusal :=
  .next (if s.hourDue then evaluateHazard true (insertHour s) else s)

/-! ## The retained ring (R32, R33) -/

/-- R33: each serial is one less than the one before it, modulo 65536. -/
def serialsFall (next : Word16) : List HourRecord → Bool
  | [] => true
  | r :: rest => decide (r.serial + 1 = next) && serialsFall r.serial rest

/-- R33: the check of the retained ring. Its three conditions do not speak of records stored beyond the count: a list of another
length than the count fails the check too (DESIGN CHOICE, log entry 52). -/
def Retained.ringOk (m : Retained) : Bool :=
  decide (m.count ≤ 72 ∧ m.records.length = m.count) && serialsFall m.hourSerial m.records

/-- R32: the ring cleared as at power-on. -/
def Retained.clearRing (m : Retained) : Retained := { m with records := [], count := 0, hourSerial := 0#16 }

/-- R33: the ring is kept, or cleared when it fails the check. -/
def Retained.checkRing (m : Retained) : Retained := if m.ringOk then m else m.clearRing

end Sys2Proof.Machine
end

