-- ==== Sys2Proof/Machine/Startup.lean ====
section
/-! DEFINITION. The start-up controller (11_start_up_and_configuration.md): the two resets, the end of the configuration
read with its substitutions and judgements, and the entries to SETTLING and RUNNING. -/

namespace Sys2Proof.Machine

open Sys2Proof

/-! ## Resets (R178, R187) -/

/-- Every block at its reset values, the straps sampled; the pins, the waiting commands, what the panels send next and the count
of draws are not the station's and go on. -/
def resetWith (address : BitVec 5) (rate : BitVec 2) (warm : Bool) (retained : Retained) (s : State) : State :=
  { State.reset with
    pending := s.pending, pins := s.pins, retained := retained, line := .reset s.line.draws,
    replyPair := { ReplyPair.reset with arriving := s.replyPair.arriving },
    startup := { Startup.reset with address := address.setWidth 8, rateCode := rate, warm := warm } }

/-- POWER_ON_RESET (R187): retained memory is lost with the power (R181). -/
def execPowerOnReset (address : BitVec 5) (rate : BitVec 2) (s : State) : Host.Outcome State Fault Refusal :=
  .next (resetWith address rate false .lost s)

/-- WARM_RESET (R187): retained memory is kept, to be judged in CONFIG-READ (R181). -/
def execWarmReset (address : BitVec 5) (rate : BitVec 2) (s : State) : Host.Outcome State Fault Refusal :=
  .next (resetWith address rate true s.retained s)

/-! ## The channels (R1, R2) -/

/-- R1: the compatible pairs. -/
def compatible : ChannelMode → Role → Bool
  | .rate, .wind => true
  | .rate, .temp => true
  | .total, .precip => true
  | .width, .depth => true
  | _, _ => false

/-- R1, R2: the effective mode and role of a channel, given the roles already taken, and whether the flag is asked for. -/
def checkChannel (k : ChannelConfig) (taken : List Role) : (ChannelMode × Role) × Bool :=
  if k.mode = .off then ((.off, .none), false)
  else if compatible k.mode k.role ∧ k.role ∉ taken then ((k.mode, k.role), false)
  else ((.off, .none), true)

/-- A channel as its unit starts at the end of CONFIG-READ (R3, R5, R8). -/
def channelAtStart (m : ChannelMode × Role) (senseHigh : Bool) : Channel :=
  { Channel.reset with
    mode := m.1, role := m.2, windowLow := !senseHigh, silence := if m.1 = .width then some 0 else none }

/-- R1, R2: the four channels at the end of CONFIG-READ, and whether the flag is asked for. -/
def channelsAtStart (k : PerChan ChannelConfig) (sense : PerChan Bool) : PerChan Channel × Bool :=
  let a := checkChannel k.one []
  let b := checkChannel k.two [a.1.2]
  let c := checkChannel k.three [a.1.2, b.1.2]
  let d := checkChannel k.four [a.1.2, b.1.2, c.1.2]
  (⟨channelAtStart a.1 sense.one, channelAtStart b.1 sense.two, channelAtStart c.1 sense.three,
    channelAtStart d.1 sense.four⟩, a.2 || b.2 || c.2 || d.2)

/-! ## The end of the configuration read -/

/-- How a read of the configuration memory ended (R178-R180). -/
inductive ReadEnd
  /-- CONFIG-FAULT, with the image kept for the ANNOUNCE, if there is one, and whether a default was taken. -/
  | faulty (image : Option (List Byte)) (substituted : Bool)
  /-- A usable image, substitutions applied, whether a default was taken, and the checksum of the bytes read. -/
  | usable (image : List Byte) (substituted : Bool) (checksum : Word16)
  deriving DecidableEq, Repr

/-- R178 to R180: the outcome of the read at a station address, from the bytes that arrived. -/
def readEnd (address : Byte) (arrived : List Byte) : ReadEnd :=
  let img := imageOf arrived
  if address = 0#8 then .faulty none false
  else if arrived.length < 128 then .faulty (some img) false
  else if imageWord img 0x7E ≠ imageChecksum img then .faulty (some img) false
  else
    let p := substituteValues img
    if controlRangeUnusable address p.1 then .faulty (some p.1) p.2
    else
      let q := substituteControlRange address p
      .usable q.1 q.2 (imageChecksum img)

/-- R181: whether retained memory is valid. -/
def retainedValid (warm : Bool) (m : Retained) (checksum : Word16) : Bool :=
  warm && m.integrity && decide (m.checksum = checksum)

/-- R181, R33: retained memory after the judgement: kept and the ring checked, or cleared; the checksum recorded. -/
def judgeRetained (warm : Bool) (m : Retained) (checksum : Word16) : Retained :=
  if retainedValid warm m checksum then { m with checksum := checksum, integrity := true }.checkRing
  else { Retained.lost with checksum := checksum, integrity := true }

/-- R19: the supervisor starts ARMED, or CONFIRMING when the contact is already closed. -/
def slideAtStart (closed : Bool) : Slide :=
  if closed then { Slide.reset with state := .confirming, confirm := some 0 } else .reset

/-- R172: the gates at the end of CONFIG-READ: fitted gates from their limits, the key read. With the key in LOCAL no gate has a
demand until the start of SETTLING (DESIGN CHOICE, log entry 50). -/
def gatesAtStart (s : State) (fitted : PerGate Bool) : Gates :=
  let unit := fun g =>
    let u := if fitted.get g then gateAtStart s g else .reset
    { u with demand := if s.pins.keyLocal then none else some .opened }
  { units := ⟨unit .e, unit .w⟩, keyLocal := s.pins.keyLocal, localDemand := none }

/-- R124: a sign's role and look-ahead from configuration. -/
def signAtStart (k : StationConfig) (n : Sign) : SignState :=
  { SignState.reset with role := k.signRoles.get n, lookAhead := k.lookAheads.get n }

/-- R146: the health of a sign begins UNTRIED when it is fitted. -/
def signLinkAtStart (k : StationConfig) (n : Sign) : SignLink :=
  { SignLink.reset with health := if k.signRoles.get n = .notFitted then .notFitted else .untried }

/-- R57, R182: the receiver starts in HUNTING and station time at 0. R140: what came on the reply pair during CONFIG-READ is
discarded. -/
def startLineAndClock (s : State) : State :=
  ((s.withLine { s.line with receiver := .hunting, idle := 0 }).withClock .reset).withReplyPair .reset

/-- R186, R93: CONFIG-FAULT is entered. -/
def enterConfigFault (image : Option (List Byte)) (substituted : Bool) (s : State) : State :=
  let s1 := startLineAndClock
    (s.withStartup { s.startup with phase := .configFault, image := image, substituted := substituted })
  if s.startup.address = 0#8 then s1
  else present .announce (s1.withPeers { s1.peers with announceTimer := some 0 })

/-- R182: JOINING is entered with a usable image. -/
def enterJoining (image : List Byte) (substituted : Bool) (checksum : Word16) (s : State) : State :=
  let k := configOf image
  let c := channelsAtStart k.channels s.pins.sense
  let s1 := startLineAndClock (s.withStartup { s.startup with
    phase := .joining, image := some image, config := k, substituted := substituted || c.2,
    retainedValid := retainedValid s.startup.warm s.retained checksum })
  let s2 := ((s1.withRetained (judgeRetained s.startup.warm s.retained checksum)).withChannels c.1).withSlide
    (slideAtStart s.pins.contact)
  let s3 := (s2.withGates (gatesAtStart s k.fitted)).withSigns ⟨signAtStart k .s1, signAtStart k .s2, signAtStart k .s3⟩
  evaluateHazard false (s3.withLink { s3.link with
    signs := ⟨signLinkAtStart k .s1, signLinkAtStart k .s2, signLinkAtStart k .s3⟩ })

/-- CONFIGURATION_READ_END (R182): the read completes or fails. -/
def execConfigurationReadEnd (arrived : List Byte) (s : State) : Host.Outcome State Fault Refusal :=
  .next (if s.phase = .configRead then
    match readEnd s.startup.address arrived with
    | .faulty image substituted => enterConfigFault image substituted s
    | .usable image substituted checksum => enterJoining image substituted checksum s
  else s)

/-! ## SETTLING (R184) -/

/-- R20: a deferred SLIDE event is delivered and the flag cleared. -/
def deliverDeferred (s : State) : State :=
  if s.slide.deferred then slideEvent (s.withSlide { s.slide with deferred := false }) else s

/-- SETTLING_START (R184): at station time 10 s. -/
def execSettlingStart (s : State) : Host.Outcome State Fault Refusal :=
  .next (if s.phase = .joining ∧ 10 ≤ s.now then
    let s1 := s.withStartup { s.startup with phase := .settling }
    let s2 := restartRefresh (s1.withPeers { s1.peers with statusTimer := some 0, announceTimer := some 0 })
    let s3 := deliverDeferred (present .status (present (.recap 0#8) (present .announce s2)))
    evaluateGates (arbitrate (evaluateSigns s3))
  else s)

/-! ## RUNNING (R185) -/

/-- R122: the serials of the own records at a forward distance of 0 to 127 from the counter. -/
def State.forwardSerials (s : State) : List Byte :=
  ((s.records.filter (fun p => p.2.own)).map (fun p => p.2.id.serial)).filter
    (fun x => decide ((x - s.retained.ownSerial).toNat ≤ 127))

/-- R122: the serial counter moves past the farthest of them. -/
def raisedSerial (counter : Byte) (serials : List Byte) : Byte :=
  serials.foldl (fun c x => if (c - counter).toNat ≤ (x - counter).toNat then x + 1 else c) counter

/-- R122, step one. -/
def raiseSerial (s : State) : State :=
  s.withRetained { s.retained with ownSerial := raisedSerial s.retained.ownSerial s.forwardSerials }

/-- RUNNING_ENTRY (R185): at station time 70 s. -/
def execRunningEntry (s : State) : Host.Outcome State Fault Refusal :=
  .next (if s.phase = .settling ∧ 70 ≤ s.now then
    let s1 := s.withStartup { s.startup with phase := .running }
    let s2 := bringForward (autocloseTest (restartWalker (raiseSerial s1)))
    judgeQuiet (evaluateGates (evaluateSigns s2))
  else s)

end Sys2Proof.Machine
end

