-- ==== Sys2Proof/Machine/Peers.lean ====
section
/-! DEFINITION. The peer table (R79-R84), the bulletin handler (R78, R85-R88) and the commands of received bulletins, of the
peers' timers and of the status and announce timers (05_bulletins_and_the_peer_table.md). -/

namespace Sys2Proof.Machine

open Sys2Proof

/-! ## The table -/

def findPeer (a : Byte) (ps : List Peer) : Option Peer := ps.find? (fun p => p.address = a)

/-- R79: an entry is kept in address order; one of the same address is replaced. -/
def putPeer (p : Peer) : List Peer → List Peer
  | [] => [p]
  | q :: rest =>
    if p.address.toNat < q.address.toNat then p :: q :: rest
    else if q.address = p.address then p :: rest
    else q :: putPeer p rest

def State.findPeer (s : State) (a : Byte) : Option Peer := Machine.findPeer a s.peers.entries

def storePeer (p : Peer) (s : State) : State := s.withPeers { s.peers with entries := putPeer p s.peers.entries }

/-- R79: a new entry, before the creating frame's fields are taken. -/
def State.newPeer (s : State) (h : FrameHeader) : Peer :=
  { address := h.source, control := s.isControl h.source, chainage := none, lastSequence := h.sequence, age := 0,
    interval := 60, presence := .heard, level := none, gap := false, recapTimer := none }

/-- R80: how a frame's sequence stands to an entry. -/
inductive Judged
  | duplicate | inSequence | gap
  deriving DecidableEq, Repr

def judgeSequence (p : Peer) (sequence : Byte) : Judged :=
  if p.presence = .heard then
    if sequence = p.lastSequence then .duplicate
    else if sequence = p.lastSequence + 1 then .inSequence
    else .gap
  else .inSequence

/-- R81: the interval a STATUS announces. -/
def intervalOf (w : Word16) : Nat := if w.toNat = 0 then 60 else min w.toNat 3600

/-- R81, R82: what an entry takes from the body of a STATUS. -/
def takeStatus (b : StatusBody) (p : Peer) : Peer :=
  { p with
    chainage := some b.chainage.toNat,
    interval := intervalOf b.interval,
    level := if b.computed.toNat ≤ b.effective.toNat then some b.computed.toNat else p.level }

/-- R82: what an entry takes from the body of an ANNOUNCE. -/
def takeAnnounce (b : AnnounceBody) (p : Peer) : Peer :=
  if b.flags.getLsbD 0 then { p with level := none } else { p with chainage := some b.chainage.toNat }

/-- R83: whether the change from one entry to another is reported. -/
def State.neighbourChange (s : State) (old : Option Peer) (new : Peer) : Bool :=
  match old with
  | none => s.isNeighbour new
  | some p =>
    (s.isNeighbour p != s.isNeighbour new)
      || (s.isNeighbour new && decide (p.presence ≠ new.presence ∨ p.level ≠ new.level))

/-- R83: a report of the peer table: the hazard unit recomputes, and QUIET is judged. In CONFIG-FAULT it has no effect. -/
def reportPeers (s : State) : State :=
  if s.phase.operating then judgeQuiet (recomputeNeighbours s) else s

/-- R84: a gap in a peer's sequences: a RECAP is queued, or the gap flag set while the recap timer runs. In CONFIG-FAULT
neither. -/
def noteGap (a : Byte) (s : State) : State :=
  match s.findPeer a with
  | none => s
  | some p =>
    if s.phase = .configFault ∨ p.gap = true then s
    else if p.recapTimer = none ∨ p.recapTimer = some 120 then present (.recap a) s
    else storePeer { p with gap := true } s

/-- R78 to R84: the peer table takes a frame. The flag says whether the handler goes on with it: it does not with a
duplicate. -/
def servePeer (h : FrameHeader) (take : Peer → Peer) (s : State) : State × Bool :=
  match s.findPeer h.source with
  | none =>
    let p := take (s.newPeer h)
    let s1 := storePeer p s
    (if s.neighbourChange none p then reportPeers s1 else s1, true)
  | some p =>
    match judgeSequence p h.sequence with
    | .duplicate => (storePeer { p with age := 0 } s, false)
    | j =>
      let q := take { p with lastSequence := h.sequence, age := 0, presence := .heard }
      let s1 := storePeer q s
      let s2 := if s.neighbourChange (some p) q then reportPeers s1 else s1
      (if j = .gap then noteGap h.source s2 else s2, true)

/-! ## The handler -/

/-- The end of a received frame (R58, R61-R64, R78): the receiver and the wait move on; a frame that is not good, or that
overlapped an attempt of this station, goes no further; a frame with this station's address sets ADDRESS-CONFLICT; any
other serves the peer table and then, unless a duplicate, its kind. -/
def receiveFrame (h : FrameHeader) (take : Peer → Peer) (serve : State → State) (s : State) : State :=
  if s.line.receiver = .inactive then s
  else
    let s1 := endFrame s
    if s.line.sending.isSome || s.line.echo || !goodSource h.source then s1
    else if h.source = s.startup.address then addressConflict s1
    else
      match servePeer h take s1 with
      | (s2, true) => serve s2
      | (s2, false) => s2

/-- R85, R87, R88: whether a target names this station or all stations. -/
def State.targeted (s : State) (target : Byte) : Bool := decide (target = 0#8 ∨ target = s.startup.address)

/-- R186: the answer to a QUERY or a RECAP in CONFIG-FAULT. -/
def answerInFault (s : State) : State := if s.startup.address = 0#8 then s else present .announce s

/-- R86: the records of an origin are returned, in index order. -/
def returnRecords (origin : Byte) (s : State) : State :=
  (s.records.filter (fun p => decide (p.2.id.origin = origin))).foldl (fun s p => present (.closure p.2.id) s) s

/-- R85, R86: a RECAP. -/
def serveRecap (source target : Byte) (s : State) : State :=
  if s.targeted target then
    if s.phase = .configFault then answerInFault s
    else
      let s1 := restartWalker (present .status (present .announce s))
      if target = 0#8 then returnRecords source s1 else s1
  else s

/-- R87: a QUERY. -/
def serveQuery (source target : Byte) (s : State) : State :=
  if s.isControl source && s.targeted target then
    if s.phase = .configFault then answerInFault s else present .announce (present .status s)
  else s

/-- R88: a FLOOR. -/
def serveFloor (source : Byte) (b : FloorBody) (s : State) : State :=
  if s.isControl source && s.targeted b.target && s.phase.operating then
    applyFloor b.level.toNat b.minutes.toNat s
  else s

/-- R78: a CLOSURE or ALERT goes to the register, but not in CONFIG-FAULT. -/
def serveClosure (isAlert : Bool) (source : Byte) (b : ClosureBody) (s : State) : State :=
  if s.phase.operating then takeClosure isAlert source b s else s

/-- ANNOUNCE_RECEIVED (R82). -/
def execAnnounceReceived (header : FrameHeader) (body : AnnounceBody) (s : State) : Host.Outcome State Fault Refusal :=
  .next (receiveFrame header (takeAnnounce body) (fun s => s) s)

/-- STATUS_RECEIVED (R82). -/
def execStatusReceived (header : FrameHeader) (body : StatusBody) (s : State) : Host.Outcome State Fault Refusal :=
  .next (receiveFrame header (takeStatus body) (fun s => s) s)

/-- CLOSURE_RECEIVED (R101). -/
def execClosureReceived (header : FrameHeader) (body : ClosureBody) (s : State) : Host.Outcome State Fault Refusal :=
  .next (receiveFrame header (fun p => p) (serveClosure false header.source body) s)

/-- ALERT_RECEIVED (R98). -/
def execAlertReceived (header : FrameHeader) (body : ClosureBody) (s : State) : Host.Outcome State Fault Refusal :=
  .next (receiveFrame header (fun p => p) (serveClosure true header.source body) s)

/-- FLOOR_RECEIVED (R44). -/
def execFloorReceived (header : FrameHeader) (body : FloorBody) (s : State) : Host.Outcome State Fault Refusal :=
  .next (receiveFrame header (fun p => p) (serveFloor header.source body) s)

/-- QUERY_RECEIVED (R87). -/
def execQueryReceived (header : FrameHeader) (target : Byte) (s : State) : Host.Outcome State Fault Refusal :=
  .next (receiveFrame header (fun p => p) (serveQuery header.source target) s)

/-- RECAP_RECEIVED (R86). -/
def execRecapReceived (header : FrameHeader) (target : Byte) (s : State) : Host.Outcome State Fault Refusal :=
  .next (receiveFrame header (fun p => p) (serveRecap header.source target) s)

/-! ## Presence and timers -/

/-- R81: an entry takes a presence, reported when the peer is a neighbour. -/
def setPresence (p : Peer) (x : Presence) (s : State) : State :=
  let s1 := storePeer { p with presence := x } s
  if s.isNeighbour p then reportPeers s1 else s1

/-- PEER_LATE (R81): a HEARD peer's age exceeds twice its announced interval. -/
def execPeerLate (address : Byte) (s : State) : Host.Outcome State Fault Refusal :=
  .next (match s.findPeer address with
    | some p =>
      if s.phase ≠ .configRead ∧ p.presence = .heard ∧ 2 * p.interval < p.age then setPresence p .late s else s
    | none => s)

/-- PEER_SILENT (R81): a LATE peer's age exceeds four times its announced interval. -/
def execPeerSilent (address : Byte) (s : State) : Host.Outcome State Fault Refusal :=
  .next (match s.findPeer address with
    | some p =>
      if s.phase ≠ .configRead ∧ p.presence = .late ∧ 4 * p.interval < p.age then setPresence p .silent s else s
    | none => s)

/-- RECAP_TIMER_EXPIRY (R84): the recap timer has reached 120 s with the gap flag set. -/
def execRecapTimerExpiry (address : Byte) (s : State) : Host.Outcome State Fault Refusal :=
  .next (match s.findPeer address with
    | some p =>
      if s.phase.operating && decide (p.recapTimer = some 120) && p.gap then
        present (.recap address) (storePeer { p with gap := false } s)
      else s
    | none => s)

/-- STATUS_TIMER_EXPIRY (R90): the status timer has reached the status interval. -/
def execStatusTimerExpiry (s : State) : Host.Outcome State Fault Refusal :=
  .next (match s.peers.statusTimer with
    | some t =>
      if s.phase.serving && decide (s.peers.statusInterval ≤ t) then
        present .status (s.withPeers { s.peers with statusTimer := some 0 })
      else s
    | none => s)

/-- ANNOUNCE_TIMER_EXPIRY (R93): the announce timer has reached 900 s. -/
def execAnnounceTimerExpiry (s : State) : Host.Outcome State Fault Refusal :=
  .next (match s.peers.announceTimer with
    | some t =>
      if 900 ≤ t then present .announce (s.withPeers { s.peers with announceTimer := some 0 }) else s
    | none => s)

end Sys2Proof.Machine
end

