-- ==== Sys2Proof/Machine/Transmit.lean ====
section
/-! DEFINITION. The receiver's characters (R57-R60), frames that end without delivery (R61, R62, R64), and the attempts of
the transmitter (R69-R75): the remaining commands of the pass line. -/

namespace Sys2Proof.Machine

open Sys2Proof

/-! ## Receiving -/

/-- RECEIVER_IDLE_REACHED (R57): 4 Tc of idle in HUNTING. -/
def execReceiverIdleReached (s : State) : Host.Outcome State Fault Refusal :=
  .next (if s.line.receiver = .hunting ∧ ((4 * charUnits : Nat) : Int) ≤ s.line.idle
    then s.withLine { s.line with receiver := .ready } else s)

/-- R57, R59, R60: the receiver takes a character. The idle is counted again from the end of its stop bit, one Tc after
its start bit (log entry 5). A line held at the non-idle level (R60) has no state of its own: it shows as one framing error
after another, each a command (DESIGN CHOICE, log entry 41). -/
def Line.takeChar (l : Line) (c : Byte) (framingError : Bool) : Line :=
  let l1 := { l with idle := -((charUnits : Nat) : Int) }
  match l.receiver with
  | .inactive => l
  | .hunting => { l1 with receiver := .discarding, echo := l.sending.isSome }
  | .ready =>
    if framingError then { l1 with receiver := .discarding, buffer := [], echo := l.sending.isSome }
    else { l1 with receiver := .assembling, buffer := [c], echo := l.sending.isSome }
  | .assembling =>
    if framingError || decide (54 ≤ l.buffer.length) then { l1 with receiver := .discarding, buffer := [] }
    else { l1 with buffer := l.buffer ++ [c] }
  | .discarding => l1

/-- R70: a start bit interrupts a wait that is counting. -/
def Line.interrupt (l : Line) : Line :=
  match l.wait with
  | some (.counting _ _ _ _) => { l with wait := some .interrupted }
  | _ => l

/-- R56, R72: how late an echoed character may begin and still be received by the end of the sent one's stop bit: half a bit,
since the receiver has a character at the middle of its stop bit, and the tick it is taken on (DEDUCED, log entry 42). -/
def echoSlack (rate : Nat) : Nat := charUnits / 20 + rate

/-- R72: the echo of the character being sent is compared. One that comes too late to be received by the end of the sent
character's stop bit fails, and so does one that differs or has a framing error. Once every character sent has passed, the
attempt succeeds whatever follows on the line. -/
def Line.compareEcho (l : Line) (rate : Nat) (c : Byte) (framingError : Bool) : Line :=
  match l.sending, l.inFlight with
  | some t, some f =>
    if f.frame.length ≤ t.echoed then l
    else if !t.failed && !framingError
      && decide (f.frame[t.echoed]? = some c ∧ t.elapsed < t.echoed * charUnits + echoSlack rate)
    then { l with sending := some { t with echoed := t.echoed + 1 } }
    else { l with sending := some { t with failed := true } }
  | _, _ => l

/-- CHARACTER_RECEIVED (R57): a confirmed character on the pass line. Before the end of CONFIG-READ it is lost. -/
def execCharacterReceived (char : Byte) (framingError : Bool) (s : State) : Host.Outcome State Fault Refusal :=
  .next (if s.line.receiver = .inactive then s
  else s.withLine ((s.line.takeChar char framingError).interrupt.compareEcho (lineRate s.startup.rateCode)
    char framingError))

/-- R62: the frame assembled is good, is not the station's own echo, and carries the station's own address. -/
def State.ownSourceFrame (s : State) : Bool :=
  decide (s.line.receiver = .assembling) && !s.line.echo &&
    (match (checkFrame s.line.buffer).bind frameHeader with
      | some h => decide (h.source = s.startup.address)
      | none => false)

/-- FRAME_DISCARDED (R61): the frame on the line ends and goes no further; one that carries the station's own address sets
ADDRESS-CONFLICT (R62). -/
def execFrameDiscarded (s : State) : Host.Outcome State Fault Refusal :=
  .next (if s.line.receiver = .inactive then s
  else if s.ownSourceFrame then addressConflict (endFrame s) else endFrame s)

/-! ## Attempts -/

/-- R69, R73: whether the wait in progress is complete: the required idle has passed since its reference instant and unbroken. A
wait that begins while a character is on the line whose start bit was seen before it is not interrupted (R70), and its idle
counts from that character's end (DESIGN CHOICE, log entry 49). -/
def Line.waitDone (l : Line) : Bool :=
  match l.wait with
  | some (.counting cls ext draw elapsed) =>
    let need : Int := ((requiredIdle cls ext draw * charUnits : Nat) : Int)
    l.sending.isNone && decide (need ≤ elapsed ∧ need ≤ l.idle)
  | _ => false

/-- R71: what the peer table is told when a bulletin enters flight: the recap timer of R84 and the timers of R90 and
R93. -/
def enterFlight (e : Bulletin) (s : State) : State :=
  match e with
  | .status => s.withPeers { s.peers with statusTimer := some 0, statusInterval := s.announcedInterval }
  | .announce => s.withPeers { s.peers with announceTimer := some 0 }
  | .recap t =>
    match s.findPeer t with
    | some p => storePeer { p with recapTimer := some 0 } s
    | none => s
  | _ => s

/-- The line at the first character of an attempt. -/
def Line.sendFrame (l : Line) (f : Flight) (attempt : Nat) : Line :=
  { l with inFlight := some f, attempts := attempt, wait := none, sending := some ⟨0, false, 0⟩ }

/-- R71: the first attempt for the head entry: it leaves the queue, takes the own sequence number, and its body is formed. -/
def firstAttempt (e : Bulletin) (rest : List Bulletin) (s : State) : State :=
  match s.bulletinBody e with
  | none => followQueue (s.withLine { s.line with queue := rest })
  | some body =>
    let l := s.line
    let f : Flight := ⟨e, l.ownSequence, encodeFrame (kindCode e) s.startup.address l.ownSequence body⟩
    enterFlight e (s.withLine ({ l with queue := rest, ownSequence := l.ownSequence + 1 }.sendFrame f 1))

/-- ATTEMPT_START (R71): the required idle is reached. -/
def execAttemptStart (s : State) : Host.Outcome State Fault Refusal :=
  .next (if s.mayTransmit && s.line.waitDone then
    match s.line.inFlight with
    | some f => s.withLine (s.line.sendFrame f (s.line.attempts + 1))
    | none =>
      match s.line.queue with
      | e :: rest => firstAttempt e rest s
      | [] => s.withLine { s.line with wait := none }
  else s)

/-- The frame of the bulletin in flight. -/
def Line.flightLength (l : Line) : Nat :=
  match l.inFlight with
  | some f => f.frame.length
  | none => 0

/-- R72, R74: every character has been echoed and compared, and the last stop bit is over. -/
def Line.sentWhole (l : Line) : Bool :=
  match l.sending with
  | some t => !t.failed && decide (l.flightLength ≤ t.echoed ∧ l.flightLength * charUnits ≤ t.elapsed)
  | none => false

/-- R72: the stop bit of a character whose comparison failed, or that was not echoed, is over. -/
def Line.sendFailed (l : Line) : Bool :=
  match l.sending with
  | some t => (t.failed || decide (t.echoed < l.flightLength)) && decide ((t.echoed + 1) * charUnits ≤ t.elapsed)
  | none => false

/-- The line with no bulletin in flight. -/
def Line.land (l : Line) : Line := { l with inFlight := none, attempts := 0, sending := none }

/-- R74: a success while LINE-TROUBLE is set. -/
def countSuccess (s : State) : State :=
  if s.line.lineTrouble then
    if 4 ≤ s.line.successRun + 1 then
      present .status (s.withLine { s.line with lineTrouble := false, successRun := 0 })
    else s.withLine { s.line with successRun := s.line.successRun + 1 }
  else s

/-- ATTEMPT_SUCCESS (R74): the last character's stop bit ends with every comparison passed. -/
def execAttemptSuccess (s : State) : Host.Outcome State Fault Refusal :=
  .next (if s.line.sentWhole then followQueue (countSuccess (s.withLine s.line.land)) else s)

/-- R72, R64: the transmitter stops, and the receiver discards the rest of the frame. -/
def Line.stopSending (l : Line) : Line :=
  { l with sending := none, receiver := if l.receiver = .assembling then .discarding else l.receiver }

/-- R75: the bulletin in flight is abandoned. -/
def abandon (s : State) : State :=
  let s1 := s.withLine { s.line.land with lineTrouble := true, successRun := 0 }
  followQueue (if s.line.lineTrouble then s1 else present .status s1)

/-- ATTEMPT_FAILED (R72): a comparison has failed; a retry wait begins (R73), or the 16th failure abandons the bulletin
(R75). -/
def execAttemptFailed (s : State) : Host.Outcome State Fault Refusal :=
  .next (if s.line.sendFailed then
    let s1 := s.withLine s.line.stopSending
    match s.line.inFlight with
    | some f =>
      if s.line.attempts < 16 then s1.withLine (s1.line.beginWait f.bulletin.cls (8 * s.line.attempts) 0)
      else abandon s1
    | none => s1.withLine s1.line.land
  else s)

end Sys2Proof.Machine
end

