-- ==== Sys2Proof/Machine/Clock.lean ====
section
/-! DEFINITION. Station time (log entry 1): what one tick of 10 microseconds does to every timer, which of the station's own
events stand at their expiry, and what an idle step does: it posts those events, or lets one tick pass. -/

namespace Sys2Proof.Machine

open Sys2Proof

/-- A timer that runs counts one more. -/
def tickUp : Option Nat → Option Nat := Option.map (· + 1)

/-! ## One tick -/

def Channel.advance (ch : Channel) (senseHigh : Bool) : Channel :=
  { ch with
    pulse := tickUp ch.pulse, silence := tickUp ch.silence,
    lowTicks := if ch.mode = .total ∧ senseHigh = false then ch.lowTicks + 1 else ch.lowTicks }

def GateUnit.advance (u : GateUnit) : GateUnit :=
  { u with travel := tickUp u.travel, dwell := tickUp u.dwell, stallWait := tickUp u.stallWait }

def Wait.advance (rate : Nat) : Wait → Wait
  | .counting c e d t => .counting c e d (t + rate)
  | .interrupted => .interrupted

def Line.advance (l : Line) (rate : Nat) : Line :=
  { l with
    idle := l.idle + rate, wait := l.wait.map (Wait.advance rate),
    sending := l.sending.map (fun t => { t with elapsed := t.elapsed + rate }) }

/-- R144: whether a character of the page set, but not its last, completes as the sending comes to `p`. -/
def Transfer.endsChar (t : Transfer) (p : Nat) : Bool :=
  decide (t.progress / charUnits < p / charUnits ∧ p / charUnits < messageLength t.pages)

/-- R142 to R144: the sending goes on, or stops at the end of a character while the flow state is HELD (log entry 6); the reply
timer counts down; or the pause total grows. -/
def Link.advance (k : Link) : Link :=
  match k.transfer with
  | none => k
  | some t =>
    match k.state with
    | .sending =>
      let p := t.progress + signLinkRate
      if k.held && t.endsChar p then
        { k with state := .pausedSending, transfer := some { t with progress := p / charUnits * charUnits } }
      else { k with transfer := some { t with progress := p } }
    | .awaiting => { k with transfer := some { t with reply := t.reply - 1 } }
    | .pausedSending => { k with transfer := some { t with pause := t.pause + 1 } }
    | .pausedAwaiting => { k with transfer := some { t with pause := t.pause + 1 } }
    | .idle => k

/-- R149: the probe timer of a sign in FAULT. -/
def ProbeTimer.advance : ProbeTimer → ProbeTimer
  | .counting n => .counting (n + 1)
  | x => x

def SignLink.advance (k : SignLink) : SignLink := { k with probe := k.probe.advance }

/-- R149: the probe timers count in SETTLING and RUNNING. -/
def Link.advanceProbes (k : Link) : Link :=
  { k with signs := ⟨k.signs.one.advance, k.signs.two.advance, k.signs.three.advance⟩ }

/-- The timers finer than a second. -/
def advanceTick (s : State) : State :=
  let s1 := hearReplyPair (s.withLine (s.line.advance (lineRate s.startup.rateCode)))
  if s.phase.operating then
    let c := s.channels
    let high := s.pins.sense
    let s2 := s1.withChannels ⟨c.one.advance high.one, c.two.advance high.two, c.three.advance high.three,
      c.four.advance high.four⟩
    let s3 := s2.withSlide { s.slide with confirm := tickUp s.slide.confirm, rearm := tickUp s.slide.rearm }
    (s3.withGates { s.gates with units := ⟨s.gates.units.east.advance, s.gates.units.west.advance⟩ }).withLink
      (if s.phase.serving then s.link.advance.advanceProbes else s.link.advance)
  else s1

/-! ## One second -/

/-- R105 to R108: the times of a record. -/
def ClosureRecord.second (r : ClosureRecord) : ClosureRecord :=
  { r with
    lead := if r.state = .announced then r.lead - 1 else r.lead,
    duration := if r.state = .inForce then r.duration.map (· - 1) else r.duration,
    display := if r.state = .lifted then r.display - 1 else r.display,
    age := if r.own then r.age else min (r.age + 1) 65535 }

/-- R45, R53: the floor and the hold count down. -/
def Hazard.second (h : Hazard) : Hazard :=
  { h with floorRemaining := h.floorRemaining - 1, hold := h.hold.map (· - 1) }

/-- R81, R84: the age and the recap timer of a peer. -/
def Peer.second (p : Peer) : Peer :=
  { p with age := min (p.age + 1) 65535, recapTimer := p.recapTimer.map (fun t => min (t + 1) 120) }

def PeerTable.second (t : PeerTable) : PeerTable :=
  { t with entries := t.entries.map Peer.second, statusTimer := tickUp t.statusTimer, announceTimer := tickUp t.announceTimer }

def SignState.second (g : SignState) : SignState := { g with refresh := g.refresh.map (fun t => min (t + 1) 300) }

/-- R135: the refresh timers, in SETTLING and RUNNING. -/
def secondServing (s : State) : State :=
  s.withSigns ⟨s.signs.one.second, s.signs.two.second, s.signs.three.second⟩

/-- R174: while QUIET is clear the entry timer counts, and QUIET is judged at the whole second; the judgement at 300 s is
QUIET_ENTRY's. The count goes up at each whole second of station time, so a timer started in mid-second has its first count at
the end of that second (DESIGN CHOICE, log entry 51). -/
def secondQuiet (s : State) : State :=
  match s.startup.quiet, s.startup.entryTimer with
  | false, some t =>
    let s1 := s.withStartup { s.startup with entryTimer := some (min (t + 1) 300) }
    if t + 1 < 300 then judgeQuiet s1 else s1
  | _, _ => s

/-- The timers that count seconds, at the boundaries of station time's seconds whenever they were started (DESIGN CHOICE, log
entry 51). -/
def advanceSecond (s : State) : State :=
  let s1 := (s.withClock { s.clock with time := s.clock.time + 1, tick := 0 }).withPeers s.peers.second
  let s2 := if s.phase.operating then
      (s1.withHazard s.hazard.second).withRegister { s.register with
        slots := s.register.slots.map (Option.map ClosureRecord.second),
        walkerTimer := s.register.walkerTimer.map (· - 1) }
    else s1
  if s.phase.serving then secondQuiet (secondServing s2) else s2

/-- One tick passes. In CONFIG-READ no time runs (R179). -/
def advance (s : State) : State :=
  if s.phase = .configRead then s
  else
    let s1 := advanceTick s
    if s.clock.tick + 1 < ticksPerSecond then s1.withClock { s.clock with tick := s.clock.tick + 1 }
    else advanceSecond s1

/-! ## The events that stand at their expiry -/

def dueIf (b : Bool) (c : Instr) : List Instr := if b then [c] else []

/-- The end of the phase (R183, R184), or the read that never begins at address 0 (R178). -/
def duePhase (s : State) : List Instr :=
  dueIf (decide (s.phase = .configRead ∧ s.startup.address = 0#8)) (.configurationReadEnd [])
  ++ dueIf (decide (s.phase = .joining ∧ 10 ≤ s.now)) .settlingStart
  ++ dueIf (decide (s.phase = .settling ∧ 70 ≤ s.now)) .runningEntry

def dueChannel (s : State) (c : Chan) : List Instr :=
  let ch := s.channels.get c
  dueIf (s.windowDue c) (.rateWindowEnd c)
  ++ dueIf (decide (ch.mode = .width ∧ 65536 ≤ ch.pulse.getD 0)) (.widthOverrange c)
  ++ dueIf (decide (ch.mode = .width ∧ 10 * ticksPerSecond ≤ ch.silence.getD 0)) (.silenceTimerExpiry c)

def dueObservation (s : State) : List Instr :=
  Chan.order.flatMap (dueChannel s)
  ++ dueIf s.minuteDue .minuteClose
  ++ dueIf s.hourDue .hourClose
  ++ dueIf (decide (s.slide.state = .confirming ∧ 20000 ≤ s.slide.confirm.getD 0) && s.pins.contact)
      .slideConfirmationExpiry
  ++ dueIf (decide (s.slide.state = .tripped ∧ 5 * ticksPerSecond ≤ s.slide.rearm.getD 0) && !s.pins.contact)
      .rearmTimerExpiry

def dueHazard (s : State) : List Instr :=
  dueIf (decide (0 < s.hazard.floorLevel ∧ s.hazard.floorRemaining = 0)) .operatorFloorExpiry
  ++ dueIf (decide (s.hazard.hold = some 0)) .overrideHoldExpiry

def dueRecord (p : Nat × ClosureRecord) : List Instr :=
  dueIf (decide (p.2.state = .announced ∧ p.2.lead = 0)) (.leadExpiry p.1)
  ++ dueIf (decide (p.2.state = .inForce ∧ p.2.duration = some 0)) (.durationExpiry p.1)
  ++ dueIf (decide (p.2.state = .lifted ∧ p.2.display = 0)) (.liftedDisplayExpiry p.1)
  ++ dueIf (!p.2.own && !p.2.stale && decide (900 < p.2.age)) (.recordStale p.1)

def dueRegister (s : State) : List Instr :=
  s.records.flatMap dueRecord
  ++ dueIf (decide (s.phase = .running ∧ s.register.walkerTimer = some 0)) .walkerStep

def duePeer (s : State) (p : Peer) : List Instr :=
  dueIf (decide (p.presence = .heard ∧ 2 * p.interval < p.age)) (.peerLate p.address)
  ++ dueIf (decide (p.presence = .late ∧ 4 * p.interval < p.age)) (.peerSilent p.address)
  ++ dueIf (s.phase.operating && decide (p.recapTimer = some 120) && p.gap) (.recapTimerExpiry p.address)

def duePeers (s : State) : List Instr :=
  s.peers.entries.flatMap (duePeer s)
  ++ dueIf (s.phase.serving && (match s.peers.statusTimer with
      | some t => decide (s.peers.statusInterval ≤ t)
      | none => false)) .statusTimerExpiry
  ++ dueIf (match s.peers.announceTimer with
      | some t => decide (900 ≤ t)
      | none => false) .announceTimerExpiry

/-- R58, R61 to R64: the command that the end of the frame on the line is. -/
def State.frameCommand (s : State) : Instr :=
  if s.line.receiver = .assembling ∧ s.line.echo = false then
    match checkFrame s.line.buffer with
    | some i => if (frameHeader i).map FrameHeader.source = some s.startup.address then .frameDiscarded else i
    | none => .frameDiscarded
  else .frameDiscarded

def dueLine (s : State) : List Instr :=
  dueIf (decide ((s.line.receiver = .assembling ∨ s.line.receiver = .discarding)
      ∧ ((2 * charUnits : Nat) : Int) ≤ s.line.idle)) s.frameCommand
  ++ dueIf (decide (s.line.receiver = .hunting ∧ ((4 * charUnits : Nat) : Int) ≤ s.line.idle)) .receiverIdleReached
  ++ dueIf s.line.sentWhole .attemptSuccess
  ++ dueIf s.line.sendFailed .attemptFailed
  ++ dueIf (s.mayTransmit && s.line.waitDone) .attemptStart

def dueSign (s : State) (n : Sign) : List Instr :=
  dueIf (decide ((s.signs.get n).refresh = some 300 ∧ (s.signs.get n).role ≠ .notFitted)) (.refreshTimerExpiry n)
  ++ dueIf (match (s.link.signs.get n).probe with
      | .counting k => decide (s.health n = .fault ∧ 60 * ticksPerSecond ≤ k)
      | _ => false) (.probeDue n)

def dueLink (s : State) : List Instr :=
  match s.link.transfer with
  | some t =>
    dueIf (decide (s.link.state = .sending ∧ messageLength t.pages * charUnits ≤ t.progress)) .pageSetSent
    ++ dueIf (decide (s.link.state = .awaiting ∧ t.reply = 0)) .replyTimeout
    ++ dueIf (s.link.state.isPaused && decide (10 * ticksPerSecond < t.pause)) .pauseLimit
  | none => []

def dueGate (s : State) (g : Gate) : List Instr :=
  let u := s.gates.units.get g
  dueIf (s.config.fitted.get g && !s.gates.keyLocal && decide (u.state = .closePending) && s.leadTest g)
    (.gateLeadElapsed g)
  ++ dueIf (decide (u.state = .reversing ∧ 2 * ticksPerSecond ≤ u.dwell.getD 0)) (.dwellEnd g)
  ++ dueIf (decide ((u.state = .closing ∨ u.state = .opening) ∧ s.config.travelLimit ≤ u.travelTenths)) (.travelStall g)
  ++ dueIf (decide (u.state = .stalled ∧ 10 * ticksPerSecond ≤ u.stallWait.getD 0)) (.stallRetry g)

def dueServing (s : State) : List Instr :=
  Sign.order.flatMap (dueSign s) ++ dueLink s ++ Gate.order.flatMap (dueGate s)
  ++ dueIf (decide (s.phase = .running ∧ s.startup.quiet = false ∧ s.startup.entryTimer = some 300)) .quietEntry

/-- The station's own events that stand at their expiry, in the one order the model takes simultaneous events in
(log entry 7). -/
def due (s : State) : List Instr :=
  duePhase s
  ++ (if s.phase = .configRead then [] else duePeers s ++ dueLine s)
  ++ (if s.phase.operating then dueObservation s ++ dueHazard s ++ dueRegister s else [])
  ++ (if s.phase.serving then dueServing s else [])

/-- An idle step (log entry 1): the events that stand at their expiry are queued; when there are none, one tick passes. -/
def idle (s : State) : State :=
  match due s with
  | [] => advance s
  | events => s.withPending events

end Sys2Proof.Machine
end

