-- ==== Sys2Proof/Machine/Dispatch.lean ====
section
/-! DEFINITION. The dispatch: one arm per command, each one direct call of its meaning. -/

namespace Sys2Proof.Machine

open Sys2Proof

def exec (i : Instr) (s : State) : Host.Outcome State Fault Refusal :=
  match i with
  | .powerOnReset address rate => Sys2Proof.Machine.execPowerOnReset address rate s
  | .warmReset address rate => Sys2Proof.Machine.execWarmReset address rate s
  | .configurationReadEnd arrived => Sys2Proof.Machine.execConfigurationReadEnd arrived s
  | .settlingStart => Sys2Proof.Machine.execSettlingStart s
  | .runningEntry => Sys2Proof.Machine.execRunningEntry s
  | .pulseEdge ch rising => Sys2Proof.Machine.execPulseEdge ch rising s
  | .senseLineChange ch high => Sys2Proof.Machine.execSenseLineChange ch high s
  | .widthOverrange ch => Sys2Proof.Machine.execWidthOverrange ch s
  | .silenceTimerExpiry ch => Sys2Proof.Machine.execSilenceTimerExpiry ch s
  | .rateWindowEnd ch => Sys2Proof.Machine.execRateWindowEnd ch s
  | .minuteClose => Sys2Proof.Machine.execMinuteClose s
  | .hourClose => Sys2Proof.Machine.execHourClose s
  | .slideContactChange closed => Sys2Proof.Machine.execSlideContactChange closed s
  | .slideConfirmationExpiry => Sys2Proof.Machine.execSlideConfirmationExpiry s
  | .rearmTimerExpiry => Sys2Proof.Machine.execRearmTimerExpiry s
  | .operatorFloorExpiry => Sys2Proof.Machine.execOperatorFloorExpiry s
  | .overrideHoldExpiry => Sys2Proof.Machine.execOverrideHoldExpiry s
  | .receiverIdleReached => Sys2Proof.Machine.execReceiverIdleReached s
  | .characterReceived char framingError => Sys2Proof.Machine.execCharacterReceived char framingError s
  | .frameDiscarded => Sys2Proof.Machine.execFrameDiscarded s
  | .announceReceived header body => Sys2Proof.Machine.execAnnounceReceived header body s
  | .statusReceived header body => Sys2Proof.Machine.execStatusReceived header body s
  | .closureReceived header body => Sys2Proof.Machine.execClosureReceived header body s
  | .alertReceived header body => Sys2Proof.Machine.execAlertReceived header body s
  | .floorReceived header body => Sys2Proof.Machine.execFloorReceived header body s
  | .queryReceived header target => Sys2Proof.Machine.execQueryReceived header target s
  | .recapReceived header target => Sys2Proof.Machine.execRecapReceived header target s
  | .attemptStart => Sys2Proof.Machine.execAttemptStart s
  | .attemptSuccess => Sys2Proof.Machine.execAttemptSuccess s
  | .attemptFailed => Sys2Proof.Machine.execAttemptFailed s
  | .peerLate address => Sys2Proof.Machine.execPeerLate address s
  | .peerSilent address => Sys2Proof.Machine.execPeerSilent address s
  | .recapTimerExpiry address => Sys2Proof.Machine.execRecapTimerExpiry address s
  | .statusTimerExpiry => Sys2Proof.Machine.execStatusTimerExpiry s
  | .announceTimerExpiry => Sys2Proof.Machine.execAnnounceTimerExpiry s
  | .leadExpiry index => Sys2Proof.Machine.execLeadExpiry index s
  | .durationExpiry index => Sys2Proof.Machine.execDurationExpiry index s
  | .liftedDisplayExpiry index => Sys2Proof.Machine.execLiftedDisplayExpiry index s
  | .recordStale index => Sys2Proof.Machine.execRecordStale index s
  | .walkerStep => Sys2Proof.Machine.execWalkerStep s
  | .refreshTimerExpiry sign => Sys2Proof.Machine.execRefreshTimerExpiry sign s
  | .pageSetSent => Sys2Proof.Machine.execPageSetSent s
  | .ackReceived address check => Sys2Proof.Machine.execAckReceived address check s
  | .nakUnknownTemplate address page => Sys2Proof.Machine.execNakUnknownTemplate address page s
  | .nakBadFormat address page => Sys2Proof.Machine.execNakBadFormat address page s
  | .replyTimeout => Sys2Proof.Machine.execReplyTimeout s
  | .xoffReceived => Sys2Proof.Machine.execXoffReceived s
  | .xonReceived => Sys2Proof.Machine.execXonReceived s
  | .pauseLimit => Sys2Proof.Machine.execPauseLimit s
  | .probeDue sign => Sys2Proof.Machine.execProbeDue sign s
  | .limitInputChange gate limit active => Sys2Proof.Machine.execLimitInputChange gate limit active s
  | .gateLeadElapsed gate => Sys2Proof.Machine.execGateLeadElapsed gate s
  | .dwellEnd gate => Sys2Proof.Machine.execDwellEnd gate s
  | .travelStall gate => Sys2Proof.Machine.execTravelStall gate s
  | .stallRetry gate => Sys2Proof.Machine.execStallRetry gate s
  | .keyToLocal => Sys2Proof.Machine.execKeyToLocal s
  | .keyToRemote => Sys2Proof.Machine.execKeyToRemote s
  | .closeButtonPress => Sys2Proof.Machine.execCloseButtonPress s
  | .openButtonPress closeHeld => Sys2Proof.Machine.execOpenButtonPress closeHeld s
  | .quietEntry => Sys2Proof.Machine.execQuietEntry s

end Sys2Proof.Machine
end

