-- ==== Sys2Proof/Safety.lean ====
section
/-! DEFINITION. The terms the statements use: the parts of the state and what it is for a step to leave a part alone, the
parts each command may write, and the laws the manual states of the station ("the device's law for ..."). -/

namespace Sys2Proof.Machine

open Sys2Proof

/-! ## Parts of the state -/

/-- The parts of the state, finer than the blocks, so that a frame says what a command leaves alone. -/
inductive Part
  | pending | pins | settings | quiet | clock | channels | slide
  | ring | histories | ownSerial | retainedMarks | partialPending
  | computation | floor | neighbours | effective | liftCounter | hold
  | receiver | queue | wait | flight | lineFlags
  | peerEntries | statusTimer | announceTimer
  | slots | walker | registerFull | slidePending
  | signs | linkState | signLinks | replyPair | gateUnits | key
  deriving DecidableEq, Repr

/-- Two states agree on a part. -/
def Part.agree (s t : State) : Part → Prop
  | .pending => s.pending = t.pending
  | .pins => s.pins = t.pins
  | .settings => { s.startup with quiet := false, entryTimer := none } = { t.startup with quiet := false, entryTimer := none }
  | .quiet => s.startup.quiet = t.startup.quiet ∧ s.startup.entryTimer = t.startup.entryTimer
  | .clock => s.clock = t.clock
  | .channels => s.channels = t.channels
  | .slide => s.slide = t.slide
  | .ring => s.retained.records = t.retained.records ∧ s.retained.count = t.retained.count
      ∧ s.retained.hourSerial = t.retained.hourSerial
  | .histories => s.retained.closing = t.retained.closing ∧ s.retained.opening = t.retained.opening
  | .ownSerial => s.retained.ownSerial = t.retained.ownSerial
  | .retainedMarks => s.retained.checksum = t.retained.checksum ∧ s.retained.integrity = t.retained.integrity
  | .partialPending => s.partialPending = t.partialPending
  | .computation => s.hazard.termA = t.hazard.termA ∧ s.hazard.termB = t.hazard.termB ∧ s.hazard.termC = t.hazard.termC
      ∧ s.hazard.termD = t.hazard.termD ∧ s.hazard.score = t.hazard.score ∧ s.hazard.degraded = t.hazard.degraded
      ∧ s.hazard.computed = t.hazard.computed
  | .floor => s.hazard.floorLevel = t.hazard.floorLevel ∧ s.hazard.floorRemaining = t.hazard.floorRemaining
  | .neighbours => s.hazard.neighbourFloor = t.hazard.neighbourFloor
      ∧ s.hazard.neighbourSilent = t.hazard.neighbourSilent
  | .effective => s.hazard.effective = t.hazard.effective
  | .liftCounter => s.hazard.liftCounter = t.hazard.liftCounter
  | .hold => s.hazard.hold = t.hazard.hold
  | .receiver => s.line.receiver = t.line.receiver ∧ s.line.buffer = t.line.buffer ∧ s.line.echo = t.line.echo
      ∧ s.line.idle = t.line.idle
  | .queue => s.line.queue = t.line.queue
  | .wait => s.line.wait = t.line.wait ∧ s.line.draws = t.line.draws
  | .flight => s.line.inFlight = t.line.inFlight ∧ s.line.attempts = t.line.attempts ∧ s.line.sending = t.line.sending
      ∧ s.line.ownSequence = t.line.ownSequence
  | .lineFlags => s.line.lineTrouble = t.line.lineTrouble ∧ s.line.successRun = t.line.successRun
      ∧ s.line.addressConflict = t.line.addressConflict
  | .peerEntries => s.peers.entries = t.peers.entries
  | .statusTimer => s.peers.statusTimer = t.peers.statusTimer ∧ s.peers.statusInterval = t.peers.statusInterval
  | .announceTimer => s.peers.announceTimer = t.peers.announceTimer
  | .slots => s.register.slots = t.register.slots
  | .walker => s.register.walkerIndex = t.register.walkerIndex ∧ s.register.walkerFast = t.register.walkerFast
      ∧ s.register.walkerTimer = t.register.walkerTimer
  | .registerFull => s.register.full = t.register.full
  | .slidePending => s.register.slidePending = t.register.slidePending
  | .signs => s.signs = t.signs
  | .linkState => s.link.state = t.link.state ∧ s.link.held = t.link.held ∧ s.link.transfer = t.link.transfer
      ∧ s.link.lastServed = t.link.lastServed
  | .signLinks => s.link.signs = t.link.signs
  | .replyPair => s.replyPair = t.replyPair
  | .gateUnits => s.gates.units = t.gates.units
  | .key => s.gates.keyLocal = t.gates.keyLocal ∧ s.gates.localDemand = t.gates.localDemand

/-- `t` differs from `s` in the parts `ps` at most. -/
def Frame (ps : List Part) (s t : State) : Prop := ∀ p, p ∉ ps → p.agree s t

/-! ## What the shared operations may write -/

/-- Presenting a bulletin to the line unit. -/
def Part.ofPresent : List Part := [.queue, .wait]
/-- Handing page sets on, with the arbiter's choice. -/
def Part.ofSigns : List Part := [.signs, .linkState, .signLinks]
/-- A QUIET judgement, with the exit it may bring. -/
def Part.ofQuiet : List Part := [.quiet, .queue, .wait, .signs, .linkState, .signLinks]
/-- A gate's movement, reported and judged. -/
def Part.ofGates : List Part := .gateUnits :: Part.ofQuiet
/-- A change of the register's records, reported to signs, gates and QUIET, with the record's bulletins. -/
def Part.ofRecords : List Part := [.slots, .ownSerial, .registerFull, .slidePending] ++ Part.ofGates
/-- A change of an input of the hazard levels, with the requests that may follow. -/
def Part.ofHazard : List Part := [.effective] ++ Part.ofRecords
/-- The end of the frame on the line. -/
def Part.ofFrameEnd : List Part := [.receiver, .wait]
/-- The end of a good frame, the peer table served. -/
def Part.ofFrame : List Part := [.peerEntries, .neighbours, .lineFlags, .effective] ++ Part.ofFrameEnd ++ Part.ofQuiet
/-- A sample of a channel. -/
def Part.ofSample : List Part := .channels :: Part.ofQuiet
/-- A sign-link transfer's ending, with what health, gates and QUIET make of it. -/
def Part.ofTransfer : List Part := Part.ofGates

/-- The parts each command may write. -/
def Part.written : Instr → List Part
  | .powerOnReset _ _ => [.settings, .quiet, .clock, .channels, .slide, .ring, .histories, .ownSerial, .retainedMarks,
      .partialPending, .computation, .floor, .neighbours, .effective, .liftCounter, .hold, .receiver, .queue, .wait, .flight,
      .lineFlags, .peerEntries, .statusTimer, .announceTimer, .slots, .walker, .registerFull, .slidePending, .signs,
      .linkState, .signLinks, .replyPair, .gateUnits, .key]
  | .warmReset _ _ => [.settings, .quiet, .clock, .channels, .slide,
      .partialPending, .computation, .floor, .neighbours, .effective, .liftCounter, .hold, .receiver, .queue, .wait, .flight,
      .lineFlags, .peerEntries, .statusTimer, .announceTimer, .slots, .walker, .registerFull, .slidePending, .signs,
      .linkState, .signLinks, .replyPair, .gateUnits, .key]
  | .configurationReadEnd _ => [.settings, .clock, .channels, .slide, .ring, .histories, .ownSerial, .retainedMarks,
      .computation, .effective, .hold, .receiver, .queue, .wait, .announceTimer, .signs, .signLinks, .replyPair,
      .gateUnits, .key]
  | .settlingStart => [.settings, .statusTimer, .announceTimer, .slide] ++ Part.ofRecords
  | .runningEntry => [.settings, .walker] ++ Part.ofRecords
  | .pulseEdge _ _ => Part.ofSample
  | .senseLineChange _ _ => .pins :: Part.ofSample
  | .widthOverrange _ => Part.ofSample
  | .silenceTimerExpiry _ => Part.ofSample
  | .rateWindowEnd _ => Part.ofSample
  | .minuteClose => .clock :: Part.ofSample
  | .hourClose => [.clock, .channels, .ring, .partialPending, .computation, .liftCounter, .hold] ++ Part.ofHazard
  | .slideContactChange _ => [.pins, .slide]
  | .slideConfirmationExpiry => .slide :: Part.ofRecords
  | .rearmTimerExpiry => [.slide]
  | .operatorFloorExpiry => .floor :: Part.ofHazard
  | .overrideHoldExpiry => .hold :: Part.ofRecords
  | .receiverIdleReached => [.receiver]
  | .characterReceived _ _ => [.receiver, .wait, .flight]
  | .frameDiscarded => [.lineFlags, .receiver] ++ Part.ofPresent
  | .announceReceived _ _ => Part.ofFrame
  | .statusReceived _ _ => Part.ofFrame
  | .closureReceived _ _ => [.hold] ++ Part.ofFrame ++ Part.ofRecords
  | .alertReceived _ _ => [.hold] ++ Part.ofFrame ++ Part.ofRecords
  | .floorReceived _ _ => [.floor] ++ Part.ofFrame ++ Part.ofRecords
  | .queryReceived _ _ => Part.ofFrame
  | .recapReceived _ _ => .walker :: Part.ofFrame
  | .attemptStart => [.flight, .peerEntries, .statusTimer, .announceTimer] ++ Part.ofPresent
  | .attemptSuccess => [.flight, .lineFlags] ++ Part.ofPresent
  | .attemptFailed => [.flight, .lineFlags, .receiver] ++ Part.ofPresent
  | .peerLate _ => [.peerEntries, .neighbours, .effective] ++ Part.ofQuiet
  | .peerSilent _ => [.peerEntries, .neighbours, .effective] ++ Part.ofQuiet
  | .recapTimerExpiry _ => .peerEntries :: Part.ofPresent
  | .statusTimerExpiry => .statusTimer :: Part.ofPresent
  | .announceTimerExpiry => .announceTimer :: Part.ofPresent
  | .leadExpiry _ => .slots :: Part.ofGates
  | .durationExpiry _ => Part.ofRecords
  | .liftedDisplayExpiry _ => Part.ofRecords
  | .recordStale _ => .slots :: Part.ofGates
  | .walkerStep => .walker :: Part.ofPresent
  | .refreshTimerExpiry _ => Part.ofSigns
  | .pageSetSent => [.linkState]
  | .ackReceived _ _ => Part.ofTransfer
  | .nakUnknownTemplate _ _ => Part.ofSigns
  | .nakBadFormat _ _ => Part.ofTransfer
  | .replyTimeout => Part.ofTransfer
  | .xoffReceived => [.linkState]
  | .xonReceived => [.linkState]
  | .pauseLimit => Part.ofTransfer
  | .probeDue _ => [.linkState, .signLinks]
  | .limitInputChange _ _ _ => [.pins, .histories] ++ Part.ofGates
  | .gateLeadElapsed _ => Part.ofGates
  | .dwellEnd _ => Part.ofGates
  | .travelStall _ => Part.ofGates
  | .stallRetry _ => Part.ofGates
  | .keyToLocal => [.pins, .key] ++ Part.ofGates
  | .keyToRemote => [.pins, .key] ++ Part.ofGates
  | .closeButtonPress => .key :: Part.ofGates
  | .openButtonPress _ => .key :: Part.ofGates
  | .quietEntry => Part.ofQuiet

/-! ## The laws -/

/-- R66, the device's law for the transmit queue: at most 12 entries, at most one of a kind and identity; and the order of
R65. -/
def QueueLaw (s : State) : Prop :=
  s.line.queue.length ≤ 12 ∧ s.line.queue.Pairwise (fun a b => a.cls ≤ b.cls) ∧ s.line.queue.Nodup

/-- R48: the effective level is the largest of its three inputs, which keep their ranges (R41, R44, R46). -/
def LevelLaw (s : State) : Prop :=
  s.hazard.effective = max s.hazard.computed (max s.hazard.floorLevel s.hazard.neighbourFloor)
    ∧ s.hazard.computed ≤ 5 ∧ s.hazard.floorLevel ≤ 5 ∧ s.hazard.neighbourFloor ≤ 4

/-- R95, R109, the device's laws for the register and for own records: sixteen places, no two records with one id, the own
flag exactly when the origin is the station's address, an own record never stale and its age 0. -/
def RegisterLaw (s : State) : Prop :=
  s.register.slots.length = 16
    ∧ (s.records.map (fun p => p.2.id)).Nodup
    ∧ ∀ p ∈ s.records, (p.2.own = true ↔ p.2.id.origin = s.startup.address)
        ∧ (p.2.own = true → p.2.stale = false ∧ p.2.age = 0)

/-- R30, R33: the ring holds as many records as its count says, at most 72, and their serials fall by one from the hour
serial. -/
def RingLaw (s : State) : Prop :=
  s.retained.records.length = s.retained.count ∧ s.retained.count ≤ 72
    ∧ serialsFall s.retained.hourSerial s.retained.records = true

/-- R166: each history holds at most 8 durations. -/
def HistoryLaw (s : State) : Prop :=
  ∀ g : Gate, (s.retained.closing.get g).length ≤ 8 ∧ (s.retained.opening.get g).length ≤ 8

/-- R79: the peer table is in strict address order and holds no entry for the station itself or outside 1 to 31. -/
def PeerLaw (s : State) : Prop :=
  s.peers.entries.Pairwise (fun p q => p.address.toNat < q.address.toNat)
    ∧ ∀ p ∈ s.peers.entries, 1 ≤ p.address.toNat ∧ p.address.toNat ≤ 31 ∧ p.address ≠ s.startup.address

/-- R176, the device's law for QUIET: a station in QUIET is RUNNING, has effective level 0, no alert, every fitted gate OPEN,
no sign in FAULT, and no own record that is not LIFTED. -/
def QuietLaw (s : State) : Prop :=
  s.startup.quiet = true →
    s.phase = .running ∧ s.hazard.effective = 0 ∧ s.noAlert = true ∧ s.gatesOpen = true ∧ s.noSignFault = true
      ∧ s.noOwnClosure = true

/-- R161, the device's law for opening: a gate is OPENING only in RUNNING. -/
def OpeningLaw (s : State) : Prop :=
  ∀ g : Gate, (s.gates.units.get g).state = .opening → s.phase = .running

/-- The states a gate takes while it acts on a demand; the others are the rest states of R165. -/
def GateState.acting (g : GateState) : Bool :=
  g == .closePending || g == .closing || g == .opening || g == .reversing || g == .stalled

/-- R154, R172: no gate acts outside SETTLING and RUNNING, and none that is not fitted. -/
def MotorLaw (s : State) : Prop :=
  ∀ g : Gate, (s.gates.units.get g).state.acting = true → s.phase.serving = true ∧ s.config.fitted.get g = true

/-- R155, R170: in SETTLING and RUNNING the demand a fitted gate holds is the one its key state gives it now. -/
def DemandLaw (s : State) : Prop :=
  s.phase.serving = true → ∀ g : Gate, s.config.fitted.get g = true → (s.gates.units.get g).demand = s.demandNow g

/-- R160, the device's law for the run-close output: it is driven in REMOTE only while an IN-FORCE record overlaps the
gate's protected range, and in LOCAL only while the local demand is CLOSED. -/
def RunCloseLaw (s : State) : Prop :=
  ∀ g : Gate, (s.gates.units.get g).state.runClose = true →
    if s.gates.keyLocal then s.gates.localDemand = some .closed else s.demandingRecords g ≠ []

/-- R157, R169: a gate in CLOSE-PENDING is in REMOTE and its demand is CLOSED. -/
def PendingLaw (s : State) : Prop :=
  ∀ g : Gate, (s.gates.units.get g).state = .closePending →
    s.gates.keyLocal = false ∧ (s.gates.units.get g).demand = some .closed

/-- R110, R114: every ALERT in the queue is of a record of this station: its origin is the station's own address. -/
def AlertLaw (s : State) : Prop := ∀ id : RecId, Bulletin.alert id ∈ s.line.queue → id.origin = s.startup.address

/-- R68: every CLOSURE and ALERT in the queue names a record that the register holds, so that its body can be formed. -/
def EntryLaw (s : State) : Prop :=
  ∀ id : RecId, Bulletin.closure id ∈ s.line.queue ∨ Bulletin.alert id ∈ s.line.queue → (s.findRecord id).isSome = true

/-- R138, the device's law for the displayed-since map: an entry exists only while the sign is OK, the record is in the
register, and the page set last acknowledged carries the record; at most two entries, one for each record. -/
def DisplayLaw (s : State) : Prop :=
  ∀ n : Sign,
    (∀ e ∈ (s.signs.get n).displayed,
      s.health n = .ok ∧ (s.findRecord e.1).isSome = true
        ∧ ∃ ps, (s.signs.get n).acknowledged = some ps ∧ e.1 ∈ ps.carried)
    ∧ (s.signs.get n).displayed.length ≤ 2 ∧ ((s.signs.get n).displayed.map Prod.fst).Nodup

/-- R142, R143, R146, R150: the link is IDLE exactly when no transfer is in progress; a sign's failure run is 3 exactly in
FAULT and never more; a sign that is not fitted holds nothing. -/
def LinkLaw (s : State) : Prop :=
  (s.link.state = .idle ↔ s.link.transfer = none)
    ∧ ∀ n : Sign,
        (s.link.signs.get n).failures ≤ 3
        ∧ ((s.link.signs.get n).failures = 3 ↔ s.health n = .fault)
        ∧ ((s.link.signs.get n).probe ≠ .stopped → s.health n = .fault)
        ∧ ((s.signs.get n).role = .notFitted ↔ s.health n = .notFitted)
        ∧ (s.health n = .notFitted → (s.link.signs.get n).waiting = none)
        ∧ (∀ t, s.link.transfer = some t → t.sign = n → s.health n ≠ .notFitted)

/-- R71 to R75: the bulletin in flight, the attempt count, the frame being sent, and the success run. -/
def FlightLaw (s : State) : Prop :=
  s.line.attempts ≤ 16
    ∧ (s.line.inFlight = none ↔ s.line.attempts = 0)
    ∧ (s.line.sending ≠ none → s.line.inFlight ≠ none ∧ s.line.wait = none)
    ∧ (s.line.inFlight ≠ none → s.line.sending = none → s.line.attempts < 16)
    ∧ s.line.successRun < 4
    ∧ (s.line.lineTrouble = false → s.line.successRun = 0)

/-- R59: the assembly buffer holds at most 54 characters. -/
def BufferLaw (s : State) : Prop := s.line.buffer.length ≤ 54

/-- R3, R35, R77, R95, R124, R140, R172, R186: in CONFIG-READ and in CONFIG-FAULT the observation unit, the hazard unit, the
register, the selector, the sign link and the gates stand at their reset values. -/
def InertLaw (s : State) : Prop :=
  s.phase.operating = false →
    s.channels = .fill Channel.reset ∧ s.slide = .reset ∧ s.hazard = .reset ∧ s.register = .reset
      ∧ s.signs = .fill SignState.reset ∧ s.link = .reset ∧ s.gates = .reset ∧ s.startup.quiet = false
      ∧ s.startup.entryTimer = none ∧ { s.replyPair with arriving := [] } = ReplyPair.reset

/-- R129, R136: while the station is QUIET every fitted sign has been offered the blank page set. -/
def DarkLaw (s : State) : Prop :=
  s.startup.quiet = true → ∀ n : Sign, (s.signs.get n).role ≠ .notFitted →
    (∃ ps, (s.signs.get n).offered = some ps ∧ ps.same .blank = true) ∧ (s.signs.get n).refresh = none

/-- R46, R47: where the hazard unit runs, the neighbour floor and NEIGHBOUR-SILENT are those of the peer table as it stands;
elsewhere they are at reset. Before the end of CONFIG-READ the receiver is inactive and the table empty (R57, R79). -/
def NeighbourLaw (s : State) : Prop :=
  (if s.phase.operating then s.hazard.neighbourFloor = s.neighbourFloorNow ∧ s.hazard.neighbourSilent = s.neighbourSilentNow
    else s.hazard.neighbourFloor = 0 ∧ s.hazard.neighbourSilent = false)
    ∧ (s.phase = .configRead → s.line.receiver = .inactive ∧ s.peers.entries = [])

/-- R117, R118: the walker's index is 0 to 15, and it runs in RUNNING alone, a step at most 2 s away in FAST mode and 20 s
in NORMAL mode. -/
def WalkerLaw (s : State) : Prop :=
  s.register.walkerIndex < 16 ∧ (s.register.walkerTimer.isSome = true ↔ s.phase = .running)
    ∧ s.register.walkerTimer.getD 0 ≤ (if s.register.walkerFast then 2 else 20)

/-- A value that is ABSENT or lies in -32767 to +32767 (00_scope.md, Engineering values). -/
def valueOk (v : Value) : Prop := ∀ x, v = some x → -32767 ≤ x ∧ x ≤ 32767

/-- R9: every published value keeps clear of the ABSENT code. -/
def ValueLaw (s : State) : Prop :=
  ∀ c : Chan, valueOk (s.channels.get c).latest ∧ valueOk (s.channels.get c).hourPeak

/-- A property that every step keeps. -/
def KeptByEveryStep (law : State → Prop) : Prop := ∀ s t, law s → step s = .next t → law t


/-! ## Completion -/

/-- The command answers a next state, of which `claim` holds. -/
def Completes (c : Instr) (s : State) (claim : State → Prop) : Prop := ∃ t, exec c s = .next t ∧ claim t

/-- A frame with this header reaches the peer table (R61 to R64), and is no duplicate for it (R80). -/
def Heard (h : FrameHeader) (s : State) : Prop :=
  s.line.receiver ≠ .inactive ∧ s.line.sending = none ∧ s.line.echo = false ∧ goodSource h.source = true
    ∧ h.source ≠ s.startup.address ∧ ∀ p, s.findPeer h.source = some p → judgeSequence p h.sequence ≠ .duplicate

/-- R78, R85: a heard frame whose order is ignored: `t` differs from `s` by the end of the frame and by what the peer table makes
of it, the sender's entry and what a report of that entry recomputes (R83, R84); where the sender was HEARD and the frame follows
its last in sequence, by the end of the frame and that entry alone. -/
def OrderIgnored (h : FrameHeader) (s t : State) : Prop :=
  t = { s with line := t.line, peers := t.peers, hazard := t.hazard, signs := t.signs, link := t.link, startup := t.startup }
    ∧ t.line = { s.line with receiver := .hunting, echo := false, queue := t.line.queue, wait := t.line.wait,
                             draws := t.line.draws }
    ∧ t.peers = { s.peers with entries := t.peers.entries }
    ∧ t.hazard = { s.hazard with neighbourFloor := t.hazard.neighbourFloor, neighbourSilent := t.hazard.neighbourSilent,
                                 effective := t.hazard.effective }
    ∧ t.startup = { s.startup with quiet := t.startup.quiet, entryTimer := t.startup.entryTimer }
    ∧ (∀ e ∈ t.line.queue, e ∈ s.line.queue ∨ e = .status ∨ e = .recap h.source)
    ∧ ∀ p, s.findPeer h.source = some p → p.presence = .heard → h.sequence = p.lastSequence + 1 →
        t = { s with line := t.line, peers := t.peers } ∧ t.line.queue = s.line.queue
          ∧ t.findPeer h.source = some { p with lastSequence := h.sequence, age := 0 }
          ∧ ∀ a : Byte, a ≠ h.source → t.findPeer a = s.findPeer a

end Sys2Proof.Machine
end

