-- ==== Sys2Proof/Certificates/Slice0/Obligations.lean ====
section
/-! DEFINITION. The statements for the provers: the queue, the laws every step keeps, the frame of every command, and the
effect of each command where its rule lets it act. -/

open Sys2Proof Sys2Proof.Machine

/-! ## The queue of commands -/

/-- One step with a command at the front of the queue is that command on the queue's rest. -/
def Obligations.StepRunsTheFrontCommand : Prop :=
  ∀ (s : State) (c : Instr) (rest : List Instr), s.pending = c :: rest → step s = exec c (s.withPending rest)

/-- With nothing waiting the block idles (the model's choice, log entry 1): the events that stand at their expiry are queued,
and when there are none one tick of station time passes; in CONFIG-READ none does (R179). Each tick moves the timers finer
than a second: R56, R69, R70, R72 of the line; R6 to R8, R13 of the channels and R19 of the slide contact; R160, R162, R163 of
the gates (that the waits of 10 s among them count from their start is the model's choice, log entry 53). With the tick that
ends a second the timers that count whole seconds go on: R81, R84, R90, R93 of the peer table; R45, R53 of the hazard unit;
R105 to R108, R117 of the register; R135, R174 of signs and QUIET. That each of them counts at every boundary of a second of
station time, whenever it was started, so that its first second may be a short one, is the model's choice: log entry 51. -/
def Obligations.StepIdlesWhenNothingWaits : Prop :=
  ∀ (s : State), s.pending = [] →
    (due s ≠ [] → step s = .next (s.withPending (due s)))
    ∧ (due s = [] → step s = .next (advance s))
    ∧ (s.phase = .configRead → advance s = s)
    ∧ (s.phase ≠ .configRead → s.clock.tick < 99999 → (advance s).clock = { s.clock with tick := s.clock.tick + 1 })
    ∧ (s.phase ≠ .configRead →
        let t := advance s
        let up : Option Nat → Option Nat := Option.map (fun x => x + 1)
        let code := s.startup.rateCode
        let rate : Nat := if code = 0 then 9600 else if code = 1 then 19200 else if code = 2 then 38400 else 57600
        t.line = { s.line with
            idle := s.line.idle + rate,
            wait := (match s.line.wait with
              | some (.counting cls extension draw x) => some (.counting cls extension draw (x + rate))
              | w => w),
            sending := s.line.sending.map (fun x => { x with elapsed := x.elapsed + rate }) }
          ∧ (s.phase.operating = false → t.channels = s.channels ∧ t.slide = s.slide ∧ t.gates = s.gates)
          ∧ (s.phase.operating = true →
              (∀ ch : Chan,
                let c := s.channels.get ch
                t.channels.get ch = { c with
                  pulse := up c.pulse, silence := up c.silence,
                  lowTicks := if c.mode = .total ∧ s.pins.sense.get ch = false then c.lowTicks + 1 else c.lowTicks })
              ∧ t.slide = { s.slide with confirm := up s.slide.confirm, rearm := up s.slide.rearm }
              ∧ t.gates.keyLocal = s.gates.keyLocal ∧ t.gates.localDemand = s.gates.localDemand
              ∧ ∀ g : Gate,
                let u := s.gates.units.get g
                t.gates.units.get g = { u with
                  travel := up u.travel, dwell := up u.dwell, stallWait := up u.stallWait }))
    ∧ (s.phase ≠ .configRead → s.clock.tick = 99999 →
        let t := advance s
        t.clock = { s.clock with time := s.clock.time + 1, tick := 0 }
          ∧ (∀ a p, s.findPeer a = some p → t.findPeer a = some { p with
              age := min (p.age + 1) 65535, recapTimer := p.recapTimer.map (fun x => min (x + 1) 120) })
          ∧ t.peers.statusTimer = s.peers.statusTimer.map (fun x => x + 1)
          ∧ t.peers.announceTimer = s.peers.announceTimer.map (fun x => x + 1)
          ∧ (s.phase.operating = false → t.hazard = s.hazard ∧ t.register = s.register)
          ∧ (s.phase.operating = true →
              t.hazard = { s.hazard with
                floorRemaining := s.hazard.floorRemaining - 1, hold := s.hazard.hold.map (fun x => x - 1) }
              ∧ t.register.walkerTimer = s.register.walkerTimer.map (fun x => x - 1)
              ∧ ∀ i r, s.recordAt i = some r → t.recordAt i = some { r with
                  lead := if r.state = .announced then r.lead - 1 else r.lead,
                  duration := if r.state = .inForce then r.duration.map (fun x => x - 1) else r.duration,
                  display := if r.state = .lifted then r.display - 1 else r.display,
                  age := if r.own then r.age else min (r.age + 1) 65535 })
          ∧ (s.phase.serving = false → t.signs = s.signs ∧ t.startup = s.startup)
          ∧ (s.phase.serving = true → s.startup.quiet = false →
              (∀ n : Sign, (t.signs.get n).refresh = (s.signs.get n).refresh.map (fun x => min (x + 1) 300))
              ∧ (s.phase = .running → t.startup.quiet = false ∧ t.startup.entryTimer = (match s.startup.entryTimer with
                  | some x => if x + 1 < 300 ∧ s.favourable = false then none else some (min (x + 1) 300)
                  | none => none))))

/-- Every command of the table answers a next state in every state, and that state differs from the one before in the parts that
`Part.written` lists for the command at most: the frame of every command. The queue of waiting commands is never among them.
That no command ends in a fault or a refusal is log entry 34. -/
def Obligations.EveryCommandCompletesWithinItsParts : Prop :=
  ∀ (c : Instr) (s : State), Part.pending ∉ Part.written c ∧ Completes c s (fun t => Frame (Part.written c) s t)

/-! ## The laws -/

/-- The state after a power-on reset meets every law below. -/
def Obligations.ResetMeetsTheLaws : Prop :=
  QueueLaw State.reset ∧ LevelLaw State.reset ∧ RegisterLaw State.reset ∧ RingLaw State.reset ∧ HistoryLaw State.reset
    ∧ PeerLaw State.reset ∧ QuietLaw State.reset ∧ OpeningLaw State.reset ∧ MotorLaw State.reset ∧ DemandLaw State.reset
    ∧ PendingLaw State.reset ∧ RunCloseLaw State.reset ∧ AlertLaw State.reset ∧ EntryLaw State.reset ∧ DisplayLaw State.reset
    ∧ LinkLaw State.reset ∧ FlightLaw State.reset ∧ BufferLaw State.reset ∧ InertLaw State.reset
    ∧ DarkLaw State.reset ∧ NeighbourLaw State.reset ∧ WalkerLaw State.reset ∧ ValueLaw State.reset

/-- R66, R65: every step keeps the transmit queue within its law. R65 to R67: what an entry presented to the queue makes of it:
nothing where its like is queued; else it joins behind every entry of its class or a lower one, in a full queue at the cost of
the newest entry of the worst class where that class is worse than its own, and else it is discarded. -/
def Obligations.TransmitQueueLawIsKept : Prop :=
  KeptByEveryStep QueueLaw
  ∧ (∀ (e : Bulletin) (q : List Bulletin), q.Pairwise (fun a b => a.cls ≤ b.cls) →
      let joined : List Bulletin → List Bulletin := fun q =>
        q.filter (fun x => decide (x.cls ≤ e.cls)) ++ e :: q.filter (fun x => decide (e.cls < x.cls))
      (e ∈ q → enqueue e q = q)
        ∧ (e ∉ q → q.length < 12 → enqueue e q = joined q)
        ∧ (∀ w, e ∉ q → 12 ≤ q.length → q.getLast? = some w →
            enqueue e q = if e.cls < w.cls then joined q.dropLast else q)
        ∧ e.cls = (match e with
          | .alert _ => 0
          | .closure _ => 1
          | .recap _ => 2
          | .status => 3
          | .announce => 3))

/-- R48: every step keeps the effective level equal to the largest of its inputs. -/
def Obligations.EffectiveLevelLawIsKept : Prop := KeptByEveryStep LevelLaw

/-- R95, R109: every step keeps the register's sixteen places, its distinct ids, and own records own and never stale. -/
def Obligations.RegisterLawIsKept : Prop := KeptByEveryStep RegisterLaw

/-- R110, R114, R109: every step keeps every ALERT in the queue one of a record of this station, its origin the station's own
address, together with the register's law it rests on. R68: together with that law every step keeps every CLOSURE and ALERT in
the queue one of a record that the register holds. -/
def Obligations.QueuedAlertsStayOwn : Prop :=
  KeptByEveryStep (fun s => RegisterLaw s ∧ AlertLaw s) ∧ KeptByEveryStep (fun s => RegisterLaw s ∧ EntryLaw s)

/-- R30, R33, R166: every step keeps the ring's count and falling serials, and the histories within 8. -/
def Obligations.RetainedLawsAreKept : Prop := KeptByEveryStep (fun s => RingLaw s ∧ HistoryLaw s)

/-- R176, R129, R136: every step keeps the device's law for QUIET, and the fitted signs of a QUIET station blank and
unrefreshed. -/
def Obligations.QuietStationStaysDark : Prop := KeptByEveryStep (fun s => QuietLaw s ∧ DarkLaw s)

/-- R161, R160: every step keeps OPENING to RUNNING, and the law for the run-close output together with the three laws of
gates and demands it rests on (R154, R155; R157 and R169: a gate in CLOSE-PENDING is in REMOTE with demand CLOSED). -/
def Obligations.OpeningAndRunCloseLawsAreKept : Prop :=
  KeptByEveryStep OpeningLaw ∧ KeptByEveryStep (fun s => MotorLaw s ∧ DemandLaw s ∧ PendingLaw s ∧ RunCloseLaw s)

/-- R138: every step keeps the device's law for the displayed-since map. -/
def Obligations.DisplayedSinceLawIsKept : Prop := KeptByEveryStep DisplayLaw

/-- R142, R146, R149, R150, R3, R35, R95, R124, R140, R172, R186: every step keeps the sign link's law, and the inert blocks
at their reset values in CONFIG-READ and CONFIG-FAULT (what channels, signs, gates and key show there is the model's choice,
log entry 3). -/
def Obligations.SignLinkLawIsKept : Prop := KeptByEveryStep (fun s => InertLaw s ∧ LinkLaw s)

/-- R59, R71 to R75: every step keeps the bulletin in flight, its attempts and the assembly buffer within their bounds. -/
def Obligations.TransmitterLawIsKept : Prop := KeptByEveryStep (fun s => FlightLaw s ∧ BufferLaw s)

/-- R79, R46, R47: every step keeps the peer table in address order without an entry for the station itself, and the neighbour
floor and NEIGHBOUR-SILENT equal to what the table gives: the largest level of a neighbour that is not SILENT, taken as 5
above 5, less one, or 0; and whether a neighbour is SILENT. R46, R83: which peers are neighbours. -/
def Obligations.PeerAndNeighbourLawsAreKept : Prop :=
  KeptByEveryStep (fun s => PeerLaw s ∧ NeighbourLaw s)
  ∧ (∀ (s : State),
      let level : Nat → Prop := fun l =>
        ∃ p ∈ s.peers.entries, s.isNeighbour p = true ∧ p.presence ≠ .silent ∧ p.level.map (fun x => min x 5) = some l
      (∀ l, level l → l ≤ s.neighbourFloorNow + 1)
        ∧ (s.neighbourFloorNow = 0 ∨ level (s.neighbourFloorNow + 1))
        ∧ (s.neighbourSilentNow = true ↔ ∃ p ∈ s.peers.entries, s.isNeighbour p = true ∧ p.presence = .silent)
        ∧ ∀ p : Peer, s.isNeighbour p = true ↔ p.control = false ∧ ∃ x, p.chainage = some x
            ∧ x ≤ s.config.chainage + s.config.influence ∧ s.config.chainage ≤ x + s.config.influence)

/-- R117, R118, R9: every step keeps the walker's place and pace, and every published value clear of the ABSENT code. -/
def Obligations.WalkerAndValueLawsAreKept : Prop := KeptByEveryStep (fun s => WalkerLaw s ∧ ValueLaw s)

/-! ## Resets and start-up -/

/-- R178, R187, R181 and the reset tables: POWER_ON_RESET and WARM_RESET return every block to its reset values, sample the
straps, and lose or keep retained memory. The pins, the queue and what the panels send next are not the station's (log
entries 4, 1 and 9); the values that the manual gives no reset value for are log entry 3, the count of draws log entry 2. -/
def Obligations.ResetsReturnEveryBlock : Prop :=
  ∀ (s : State) (a : BitVec 5) (r : BitVec 2),
    (∀ w ∈ [false, true],
      Completes (if w then .warmReset a r else .powerOnReset a r) s (fun t =>
        t.phase = .configRead ∧ t.startup.address = a.setWidth 8 ∧ t.startup.rateCode = r ∧ t.startup.warm = w
          ∧ t.startup.image = none ∧ t.startup.substituted = false ∧ t.startup.quiet = false ∧ t.startup.entryTimer = none
          ∧ t.clock = Clock.reset ∧ t.channels = .fill Channel.reset ∧ t.slide = .reset ∧ t.partialPending = true
          ∧ t.retained = (if w then s.retained else Retained.lost) ∧ t.hazard = .reset ∧ t.line = .reset s.line.draws
          ∧ t.peers = .reset ∧ t.register = .reset ∧ t.signs = .fill SignState.reset ∧ t.link = .reset
          ∧ t.replyPair = { ReplyPair.reset with arriving := s.replyPair.arriving }
          ∧ t.gates = .reset ∧ t.pins = s.pins ∧ t.pending = s.pending))

/-- R178 to R180, R182, R186: CONFIGURATION_READ_END ends in CONFIG-FAULT at address 0, on a failed read, on a checksum
fault, and on a control range that cannot be used; retained memory stays as it was. -/
def Obligations.FaultyReadEntersConfigFault : Prop :=
  ∀ (s : State) (arrived : List Byte), s.phase = .configRead →
    (s.startup.address = 0#8 →
      Completes (.configurationReadEnd arrived) s (fun t =>
        t.phase = .configFault ∧ t.startup.image = none ∧ t.line.queue = s.line.queue ∧ t.retained = s.retained
          ∧ t.now = 0 ∧ t.line.receiver = .hunting ∧ t.peers = s.peers))
    ∧ (s.startup.address ≠ 0#8 →
        (arrived.length < 128 ∨ imageWord (imageOf arrived) 0x7E ≠ crc ((imageOf arrived).take 126)) →
        Completes (.configurationReadEnd arrived) s (fun t =>
          t.phase = .configFault ∧ t.startup.image = some (imageOf arrived) ∧ t.startup.substituted = false
            ∧ t.line.queue = enqueue .announce s.line.queue ∧ t.peers.announceTimer = some 0
            ∧ t.retained = s.retained ∧ t.now = 0 ∧ t.line.receiver = .hunting))
    ∧ (s.startup.address ≠ 0#8 → arrived.length = 128 → imageWord arrived 0x7E = crc (arrived.take 126) →
        controlRangeUnusable s.startup.address (substituteValues arrived).1 = true →
        Completes (.configurationReadEnd arrived) s (fun t =>
          t.phase = .configFault ∧ t.line.queue = enqueue .announce s.line.queue ∧ t.peers.announceTimer = some 0
            ∧ t.retained = s.retained ∧ t.now = 0))

/-- R182, R180, R181, R1, R2, R19, R57, R124, R172: CONFIGURATION_READ_END with a usable image enters JOINING; what a warm
reset keeps is cleared unless all three conditions of R181 hold, and a ring that fails R33 is cleared alone. R33: when the ring
passes; that a list of records of another length than the count fails is the model's choice (log entry 52). R180, R191: every
value in use is the one read where that is in its range, and its default where it is not, thresholds and control range judged
as sets, and the flag is set exactly when a default was taken. R1, R2: a channel runs in its mode and role when the pair is
compatible and no lower-numbered channel holds the role, and otherwise is OFF, which sets the flag where its mode was another.
-/
def Obligations.UsableReadEntersJoining : Prop :=
  (∀ (s : State) (arrived img : List Byte) (sub : Bool) (ck : Word16), s.phase = .configRead →
      readEnd s.startup.address arrived = .usable img sub ck →
      Completes (.configurationReadEnd arrived) s (fun t =>
        t.phase = .joining ∧ t.startup.image = some img ∧ t.config = configOf img ∧ t.now = 0
          ∧ t.startup.substituted = (sub || (channelsAtStart (configOf img).channels s.pins.sense).2)
          ∧ t.channels = (channelsAtStart (configOf img).channels s.pins.sense).1
          ∧ t.slide.state = (if s.pins.contact then .confirming else .armed)
          ∧ t.retained = judgeRetained s.startup.warm s.retained ck ∧ t.retained.checksum = ck
          ∧ t.hazard.computed = (compute (configOf img) t.retained s.hazard).computed
          ∧ t.hazard.degraded = (compute (configOf img) t.retained s.hazard).degraded
          ∧ t.line.receiver = .hunting ∧ t.gates.keyLocal = s.pins.keyLocal
          ∧ (∀ g : Gate, (configOf img).fitted.get g = true →
              (t.gates.units.get g).state = limitsState (s.pins.openLimit.get g) (s.pins.closedLimit.get g))
          ∧ (∀ n : Sign, (t.signs.get n).role = (configOf img).signRoles.get n
              ∧ t.health n = (if (configOf img).signRoles.get n = .notFitted then .notFitted else .untried))))
  ∧ (∀ (m : Retained) (warm : Bool) (ck : Word16),
      (warm = true → m.integrity = true → m.checksum = ck → m.ringOk = true → judgeRetained warm m ck = m)
      ∧ (warm = true → m.integrity = true → m.checksum = ck → m.ringOk = false →
          judgeRetained warm m ck = { m with records := [], count := 0, hourSerial := 0#16 })
      ∧ (warm = false ∨ m.integrity = false ∨ m.checksum ≠ ck →
          judgeRetained warm m ck = { Retained.lost with checksum := ck, integrity := true })
      ∧ (m.ringOk = true ↔ m.count ≤ 72 ∧ m.records.length = m.count
          ∧ (∀ r, m.records[0]? = some r → r.serial = m.hourSerial - 1)
          ∧ ∀ p r q, m.records[p]? = some r → m.records[p + 1]? = some q → q.serial = r.serial - 1))
  ∧ (∀ (own : Byte) (arrived img : List Byte) (sub : Bool) (ck : Word16), readEnd own arrived = .usable img sub ck →
      let v := fun off => (imageByte arrived off).toNat
      let w := fun off => (imageWord arrived off).toNat
      let rises : Prop := 1 ≤ v 0x42 ∧ v 0x42 < v 0x43 ∧ v 0x43 < v 0x44 ∧ v 0x44 < v 0x45 ∧ v 0x45 < v 0x46
      let ranged : Prop := 1 ≤ v 8 ∧ v 8 ≤ v 9 ∧ v 9 ≤ 31 ∧ ¬ (v 8 ≤ own.toNat ∧ own.toNat ≤ v 9)
      let base : Chan → Nat := fun c => match c with
        | .c1 => 0x0A
        | .c2 => 0x18
        | .c3 => 0x26
        | .c4 => 0x34
      let role : Sign → Nat := fun n => match n with
        | .s1 => 0x55
        | .s2 => 0x56
        | .s3 => 0x57
      let look : Sign → Nat := fun n => match n with
        | .s1 => 0x58
        | .s2 => 0x5A
        | .s3 => 0x5C
      let wide : List (Nat × Nat × Nat × Nat) :=
        [(0x02, 100, 10000, 1500), (0x04, 50, 5000, 400), (0x06, 500, 20000, 3000), (0x48, 0, 32767, 70),
         (0x4B, 300, 7200, 1800), (0x4E, 100, 10000, 2000), (0x50, 30, 600, 120), (0x53, 100, 1200, 450),
         (0x58, 100, 20000, 3000), (0x5A, 100, 20000, 3000), (0x5C, 100, 20000, 3000)]
      let used : Nat → Nat := fun off => match wide.find? (fun x => x.1 = off) with
        | some x => if x.2.1 ≤ w off ∧ w off ≤ x.2.2.1 then w off else x.2.2.2
        | none => w off
      let k := configOf img
      (k.chainage = w 0 ∧ k.segmentHalf = used 2 ∧ k.slideHalf = used 4 ∧ k.influence = used 6
          ∧ (ranged → k.controlFirst = v 8 ∧ k.controlLast = v 9)
          ∧ (¬ ranged → k.controlFirst = 29 ∧ k.controlLast = 31)
          ∧ (rises → k.thresholds = ⟨v 0x42, v 0x43, v 0x44, v 0x45, v 0x46⟩)
          ∧ (¬ rises → k.thresholds = ⟨40, 80, 120, 160, 200⟩)
          ∧ k.hysteresis = (if v 0x47 ≤ 40 then v 0x47 else 15) ∧ k.transport = used 0x48
          ∧ k.autoclose = (if v 0x4A = 0 then none else if v 0x4A = 5 then some 5 else some 4)
          ∧ k.announceLead = used 0x4B
          ∧ k.fitted = ⟨(imageByte arrived 0x4D).getLsbD 0, (imageByte arrived 0x4D).getLsbD 1⟩
          ∧ k.reach = used 0x4E ∧ k.gateLead = used 0x50
          ∧ k.slideLead = (if 10 ≤ v 0x52 ∧ v 0x52 ≤ 60 then v 0x52 else 20) ∧ k.travelLimit = used 0x53
          ∧ (∀ n : Sign, k.lookAheads.get n = used (look n)
              ∧ k.signRoles.get n = (if v (role n) = 1 then .eastApproach else if v (role n) = 2 then .westApproach
                  else if v (role n) = 3 then .panel else .notFitted))
          ∧ (∀ c : Nat, 1 ≤ c → c ≤ 8 → k.templates.forClass c = imageByte arrived (0x5D + c))
          ∧ (∀ c : Chan,
              let b := base c
              let q := k.channels.get c
              q.mode = (if v b = 1 then .rate else if v b = 2 then .total else if v b = 3 then .width else .off)
                ∧ q.edge = (if v (b + 1) = 1 then .double else .single)
                ∧ q.role = (if v (b + 2) = 1 then .wind else if v (b + 2) = 2 then .temp
                    else if v (b + 2) = 3 then .precip else if v (b + 2) = 4 then .depth else .none)
                ∧ q.gain = (imageWord arrived (b + 3)).toInt ∧ q.offset = (imageWord arrived (b + 5)).toInt
                ∧ q.limit = (if w (b + 7) = 0x8000 then 32767 else (imageWord arrived (b + 7)).toInt)
                ∧ q.direction = (if v (b + 9) = 1 then .below else .above)
                ∧ q.hold = (if 1 ≤ v (b + 10) ∧ v (b + 10) ≤ 15 then v (b + 10) else 3)
                ∧ q.release = (if w (b + 11) ≤ 32767 then w (b + 11) else 0)
                ∧ q.window = (if v (b + 13) = 3 ∨ v (b + 13) = 10 then v (b + 13) else 1)))
        ∧ (sub = false ↔ ranged ∧ rises ∧ (∀ x ∈ wide, x.2.1 ≤ w x.1 ∧ w x.1 ≤ x.2.2.1) ∧ v 0x47 ≤ 40
            ∧ (v 0x4A = 0 ∨ v 0x4A = 4 ∨ v 0x4A = 5) ∧ 10 ≤ v 0x52 ∧ v 0x52 ≤ 60 ∧ (∀ n : Sign, v (role n) ≤ 3)
            ∧ ∀ c : Chan, v (base c) ≤ 3 ∧ v (base c + 1) ≤ 1 ∧ v (base c + 2) ≤ 4 ∧ w (base c + 7) ≠ 0x8000
                ∧ v (base c + 9) ≤ 1 ∧ 1 ≤ v (base c + 10) ∧ v (base c + 10) ≤ 15 ∧ w (base c + 11) ≤ 32767
                ∧ (v (base c + 13) = 1 ∨ v (base c + 13) = 3 ∨ v (base c + 13) = 10)))
  ∧ (∀ (k : PerChan ChannelConfig) (sense : PerChan Bool),
      let r := channelsAtStart k sense
      (r.2 = true ↔ ∃ c : Chan, (k.get c).mode ≠ .off ∧ (r.1.get c).mode = .off)
        ∧ ∀ c : Chan,
          let m := (k.get c).mode
          let x := (k.get c).role
          let runs : Prop := ((m = .rate ∧ (x = .wind ∨ x = .temp)) ∨ (m = .total ∧ x = .precip) ∨ (m = .width ∧ x = .depth))
            ∧ ∀ d : Chan, Chan.order.idxOf d < Chan.order.idxOf c → (r.1.get d).role ≠ x
          (runs → (r.1.get c).mode = m ∧ (r.1.get c).role = x)
            ∧ (¬ runs → (r.1.get c).mode = .off ∧ (r.1.get c).role = .none))

/-- R184, R20, R84, R90, R93: SETTLING_START queues ANNOUNCE, RECAP to all and STATUS, starts the timers, and delivers a
deferred SLIDE event; that the blocks take the report in the order which leaves ANNOUNCE before STATUS is the model's choice
(R184 allows any order; log entry 30). R185, R122, R118, R174: RUNNING_ENTRY raises the serial counter, restarts the walker in
FAST mode and judges QUIET. R122: the counter is raised to one more than the serial, modulo 256, of the own record farthest
ahead of it, of those at a forward distance of 0 to 127, and stays where there is none. R49, R50: the entry makes the
autoclose test, which takes a serial from there where its conditions hold and there is room. -/
def Obligations.PhasesBegin : Prop :=
  (∀ (s : State), s.phase = .joining → 10 ≤ s.now → s.line.queue = [] →
      (s.slide.deferred = false →
        Completes .settlingStart s (fun t =>
          t.phase = .settling ∧ t.line.queue = [.recap 0#8, .announce, .status] ∧ t.peers.statusTimer = some 0
            ∧ t.peers.announceTimer = some 0 ∧ t.register.slots = s.register.slots))
      ∧ (∀ i : Nat, s.slide.deferred = true → s.register.slidePending = false → s.standingSlide = none →
          freeIndex 0 s.register.slots = some i →
          Completes .settlingStart s (fun t =>
            t.phase = .settling ∧ t.slide.deferred = false
              ∧ t.recordAt i = some (s.ownRecord .slide s.config.slideHalf .inForce 0)
              ∧ t.line.queue = [.alert (s.ownId s.nextSerial), .recap 0#8, .announce, .status])))
  ∧ (∀ (s : State), s.phase = .settling → 70 ≤ s.now → s.startup.quiet = false → s.startup.entryTimer = none →
      Completes .runningEntry s (fun t =>
        t.phase = .running ∧ t.register.walkerIndex = 1 ∧ t.register.walkerFast = true ∧ t.register.walkerTimer = some 2
          ∧ t.startup.quiet = false ∧ t.startup.entryTimer = (if t.favourable then some 0 else none)
          ∧ (let raised := raisedSerial s.retained.ownSerial s.forwardSerials
            let called : Prop :=
              s.config.autoclose ≠ none
                ∧ (∀ l : Nat, s.config.autoclose = some l → l ≤ max s.hazard.computed s.hazard.floorLevel)
                ∧ (∀ j r, s.recordAt j = some r → r.own = true → r.kind = .avalanche → r.state = .lifted)
                ∧ s.hazard.hold = none
            (¬ called → t.retained.ownSerial = raised)
              ∧ (called → freeIndex 0 s.register.slots ≠ none →
                  t.retained.ownSerial = (s.withRetained { s.retained with ownSerial := raised }).nextSerial + 1))))
  ∧ (∀ (s : State),
      let k := s.retained.ownSerial
      let ahead : Byte → Prop := fun v => (v - k).toNat ≤ 127
        ∧ ∃ i r, s.recordAt i = some r ∧ r.own = true ∧ r.id.serial = v
      ((∀ v, ¬ ahead v) → raisedSerial k s.forwardSerials = k)
        ∧ (∀ v, ahead v → (∀ w, ahead w → (w - k).toNat ≤ (v - k).toNat) → raisedSerial k s.forwardSerials = v + 1))

/-! ## Observation -/

/-- R9, R10: the four steps of a scaling: exact product, division by 1024 rounded half away from zero (`q` is the nearest
whole number, and of two equally near the one further from zero), offset, clamp; and CLAMPED exactly when the clamp changes
the value. -/
def Obligations.ScalingRoundsAndClamps : Prop :=
  ∀ (raw : Nat) (gain offset q : Int),
    (2 * (raw * gain - q * 1024).natAbs < 1024
      ∨ (2 * (raw * gain - q * 1024).natAbs = 1024 ∧ (raw * gain).natAbs < (q * 1024).natAbs)) →
    scale raw gain offset = max (-32767) (min 32767 (q + offset))
      ∧ (scaleClamped raw gain offset = true ↔ (q + offset < -32767 ∨ 32767 < q + offset))

/-- R16, R17: the comparator while the alert is clear, and while it is set, the release point formed exactly. -/
def Obligations.ComparatorSetsAndClears : Prop :=
  (∀ (k : ChannelConfig) (run : Nat) (x : Int),
      compare k false run none = (false, run)
        ∧ ((match k.direction with
              | .above => k.limit < x
              | .below => x < k.limit) →
            compare k false run (some x) = (if k.hold ≤ run + 1 then (true, 0) else (false, run + 1)))
        ∧ (¬ (match k.direction with
              | .above => k.limit < x
              | .below => x < k.limit) →
            compare k false run (some x) = (false, 0)))
  ∧ (∀ (k : ChannelConfig) (run : Nat) (x : Int),
      compare k true run none = (true, run)
        ∧ ((match k.direction with
              | .above => x ≤ k.limit - k.release
              | .below => k.limit + k.release ≤ x) →
            compare k true run (some x) = (if k.hold ≤ run + 1 then (false, 0) else (true, run + 1)))
        ∧ (¬ (match k.direction with
              | .above => x ≤ k.limit - k.release
              | .below => k.limit + k.release ≤ x) →
            compare k true run (some x) = (true, 0)))

/-- R4, R6: PULSE_EDGE counts an edge of an enabled channel whose sense line is high, and begins a WIDTH pulse; any other
edge changes nothing. -/
def Obligations.PulseEdgesAreCounted : Prop :=
  ∀ (s : State) (ch : Chan) (rising : Bool),
    let c := s.channels.get ch
    let counted : Bool := rising || decide ((s.channelConfig ch).edge = .double)
    (s.phase.operating = false ∨ s.pins.sense.get ch = false ∨ c.mode = .off →
        exec (.pulseEdge ch rising) s = .next s)
      ∧ (s.phase.operating = true → s.pins.sense.get ch = true → c.mode = .rate →
          exec (.pulseEdge ch rising) s = .next (if counted then
            s.setChannel ch { c with windowCount := min (c.windowCount + 1) 16777215 } else s))
      ∧ (s.phase.operating = true → s.pins.sense.get ch = true → c.mode = .total →
          exec (.pulseEdge ch rising) s = .next (if counted then
            s.setChannel ch { c with minuteCount := min (c.minuteCount + 1) 16777215,
                                     hourCount := min (c.hourCount + 1) 16777215 } else s))
      ∧ (s.phase.operating = true → s.pins.sense.get ch = true → c.mode = .width → c.pulse = none →
          exec (.pulseEdge ch rising) s = .next (if rising then s.setChannel ch { c with pulse := some 0 } else s))

/-- R7, R9 to R11, R15: the falling edge of a pulse of up to 65535 ticks forms a present width sample. R8, R11:
WIDTH_OVERRANGE and SILENCE_TIMER_EXPIRY form an absent one, which leaves CLAMPED and the comparator as they were. R8: where a
pulse completes at the instant the silence timer expires, both samples are formed in either order, and the latest value is the
second's. -/
def Obligations.WidthSamplesAreFormed : Prop :=
  (∀ (s : State) (ch : Chan) (w : Nat),
      let c := s.channels.get ch
      let k := s.channelConfig ch
      s.phase.operating = true → s.pins.sense.get ch = true → c.mode = .width → c.pulse = some w → w ≤ 65535 →
      Completes (.pulseEdge ch false) s (fun t =>
        t.channels = s.channels.set ch { c with
          pulse := none, silence := (if 1000000 ≤ c.silence.getD 0 then c.silence else some 0),
          latest := some (scale w k.gain k.offset),
          clamped := scaleClamped w k.gain k.offset, minuteWidth := some (scale w k.gain k.offset),
          alert := (compare k c.alert c.run (some (scale w k.gain k.offset))).1,
          run := (compare k c.alert c.run (some (scale w k.gain k.offset))).2 }
        ∧ ((compare k c.alert c.run (some (scale w k.gain k.offset))).1 ≠ c.alert →
            t.line.queue = enqueue .status s.line.queue)))
  ∧ (∀ (s : State) (ch : Chan),
      let c := s.channels.get ch
      s.phase.operating = true → c.mode = .width →
      (65536 ≤ c.pulse.getD 0 →
        Completes (.widthOverrange ch) s (fun t =>
          t.channels = s.channels.set ch { c with pulse := none, silence := some 0, latest := none }
            ∧ t.line = s.line ∧ t.signs = s.signs))
      ∧ (1000000 ≤ c.silence.getD 0 →
        Completes (.silenceTimerExpiry ch) s (fun t =>
          t.channels = s.channels.set ch { c with silence := some 0, latest := none }
            ∧ t.line = s.line ∧ t.signs = s.signs)))
  ∧ (∀ (s : State) (ch : Chan) (w : Nat),
      let c := s.channels.get ch
      let v := scale w (s.channelConfig ch).gain (s.channelConfig ch).offset
      s.phase.operating = true → s.pins.sense.get ch = true → c.mode = .width → c.pulse = some w → w ≤ 65535 →
      1000000 ≤ c.silence.getD 0 →
      Completes (.pulseEdge ch false) s (fun u => Completes (.silenceTimerExpiry ch) u (fun t =>
        (t.channels.get ch).latest = none ∧ (t.channels.get ch).minuteWidth = some v
          ∧ (t.channels.get ch).silence = some 0))
      ∧ Completes (.silenceTimerExpiry ch) s (fun u => Completes (.pulseEdge ch false) u (fun t =>
        (t.channels.get ch).latest = some v ∧ (t.channels.get ch).minuteWidth = some v
          ∧ (t.channels.get ch).silence = some 0)))

/-- R5, R8: SENSE_LINE_CHANGE: a fall marks the RATE window in progress, and abandons a WIDTH pulse with an absent sample; the
pin takes its level in every phase (log entry 4), and a level it already stands at is no change (log entry 38). -/
def Obligations.SenseLineFallMarksTheChannel : Prop :=
  ∀ (s : State) (ch : Chan) (high : Bool),
    let c := s.channels.get ch
    let s1 := s.withPins { s.pins with sense := s.pins.sense.set ch high }
    (s.phase.operating = false ∨ high = true ∨ s.pins.sense.get ch = false ∨ c.mode = .off ∨ c.mode = .total →
        exec (.senseLineChange ch high) s = .next s1)
      ∧ (s.phase.operating = true → high = false → s.pins.sense.get ch = true → c.mode = .rate →
          exec (.senseLineChange ch high) s = .next (s1.setChannel ch { c with windowLow := true }))
      ∧ (s.phase.operating = true → high = false → s.pins.sense.get ch = true → c.mode = .width →
          Completes (.senseLineChange ch high) s (fun t => t.pins = s1.pins
            ∧ t.channels = s.channels.set ch { c with pulse := none, silence := some 0, latest := none }))

/-- R5, R9 to R11, R15: RATE_WINDOW_END forms the window sample and begins the next window. The count of windows ended, by which
the model knows that one has ended, is its own (log entry 1). -/
def Obligations.RateWindowFormsItsSample : Prop :=
  ∀ (s : State) (ch : Chan),
    let c := s.channels.get ch
    let k := s.channelConfig ch
    let v : Value := if c.windowLow then none else some (scale c.windowCount k.gain k.offset)
    s.phase.operating = true → c.mode = .rate → c.windowsEnded < s.now / k.window →
    Completes (.rateWindowEnd ch) s (fun t =>
      t.channels = s.channels.set ch { c with
        latest := v, clamped := if c.windowLow then c.clamped else scaleClamped c.windowCount k.gain k.offset,
        hourPeak := largerValue c.hourPeak v, windows := c.windows ++ [v], windowCount := 0,
        windowLow := !s.pins.sense.get ch, windowsEnded := c.windowsEnded + 1,
        alert := (compare k c.alert c.run v).1, run := (compare k c.alert c.run v).2 }
      ∧ ((compare k c.alert c.run v).1 ≠ c.alert → t.line.queue = enqueue .status s.line.queue))

/-- R12, R13: MINUTE_CLOSE appends one minute sample to every channel and begins the next minute; when a sample is absent, and
what a present one holds. R15: a TOTAL channel publishes its running total and presents it to its comparator (R16, R17), which
a change of the alert reports with a STATUS (R18); R10, R13: CLAMPED follows a present total, and stays where the sample is
absent. The count of minutes closed is the model's own (log entry 1). -/
def Obligations.MinuteCloseFormsSamples : Prop :=
  (∀ (s : State), s.minuteDue = true →
      Completes .minuteClose s (fun t =>
        t.clock = { s.clock with minutesClosed := s.clock.minutesClosed + 1 }
          ∧ ∀ ch : Chan,
            let c := s.channels.get ch
            let d := t.channels.get ch
            d.minutes = c.minutes ++ [c.minuteSample] ∧ d.minuteCount = 0 ∧ d.lowTicks = 0 ∧ d.windows = []
              ∧ d.minuteWidth = none ∧ d.hourCount = c.hourCount ∧ d.hourPeak = c.hourPeak
              ∧ (c.mode = .total →
                  let k := s.channelConfig ch
                  let v : Value := if c.lowTicks ≤ 3000000 then some (scale c.hourCount k.gain k.offset) else none
                  d.latest = v ∧ d.alert = (compare k c.alert c.run v).1 ∧ d.run = (compare k c.alert c.run v).2
                    ∧ d.clamped = (if c.lowTicks ≤ 3000000 then scaleClamped c.hourCount k.gain k.offset else c.clamped))
              ∧ (c.mode ≠ .total → d.latest = c.latest ∧ d.alert = c.alert ∧ d.run = c.run ∧ d.clamped = c.clamped)))
  ∧ (∀ (s : State), s.minuteDue = true →
      Completes .minuteClose s (fun t =>
        ((∃ ch : Chan, (t.channels.get ch).alert ≠ (s.channels.get ch).alert) → t.line.queue = enqueue .status s.line.queue)
          ∧ ((∀ ch : Chan, (t.channels.get ch).alert = (s.channels.get ch).alert) → t.line.queue = s.line.queue)))
  ∧ (∀ (c : Channel),
      (c.mode = .off → c.minuteSample = ⟨none, none⟩)
        ∧ (c.mode = .total → c.minuteSample = ⟨if c.lowTicks ≤ 30 * 100000 then some (c.minuteCount : Int) else none, none⟩)
        ∧ (c.mode = .width → c.minuteSample = ⟨c.minuteWidth, none⟩)
        ∧ (c.mode = .rate → c.windows.length < 2 * absentCount c.windows → c.minuteSample = ⟨none, none⟩)
        ∧ (c.mode = .rate → 2 * absentCount c.windows ≤ c.windows.length → c.windows ≠ [] →
            c.minuteSample.value = some (roundDiv (presentValues c.windows).sum (presentValues c.windows).length)
              ∧ ∃ m, c.minuteSample.maximum = some m ∧ m ∈ presentValues c.windows ∧ ∀ v ∈ presentValues c.windows, v ≤ m))

/-- R14, R22, R29, R30: HOUR_CLOSE inserts the record it builds at position 1 of at most 72, advances the serial, clears the
partial-pending flag and empties the channels' hours; the count of hours closed is the model's own (log entry 1). R23 to R28:
the record's counts of present minutes and its value fields, ABSENT for a role that no channel holds. -/
def Obligations.HourCloseInsertsARecord : Prop :=
  (∀ (s : State), s.hourDue = true →
      Completes .hourClose s (fun t =>
        t.retained.records = (s.hourRecord :: s.retained.records).take 72
          ∧ t.retained.count = min (s.retained.count + 1) 72 ∧ t.retained.hourSerial = s.retained.hourSerial + 1
          ∧ t.partialPending = false ∧ t.clock.hoursClosed = s.clock.hoursClosed + 1
          ∧ s.hourRecord.serial = s.retained.hourSerial ∧ s.hourRecord.isPartial = s.partialPending
          ∧ ∀ ch : Chan, (t.channels.get ch).minutes = [] ∧ (t.channels.get ch).hourCount = 0
            ∧ (t.channels.get ch).hourPeak = none ∧ (t.channels.get ch).alert = (s.channels.get ch).alert))
  ∧ (∀ (s : State) (r : Role) (ch : Chan), s.channelOf r = some ch →
      let vs := presentValues ((s.channels.get ch).minutes.map MinuteSample.value)
      let h := s.hourRecord
      (vs.length < 30 →
          (r = .precip → h.precipitation = none) ∧ (r = .wind → h.meanWind = none ∧ h.gust = none)
            ∧ (r = .temp → h.tempMin = none ∧ h.tempMax = none) ∧ (r = .depth → h.depth = none))
        ∧ (30 ≤ vs.length →
          (r = .precip → h.precipitation = some (scale (s.channels.get ch).hourCount (s.channelConfig ch).gain
              (s.channelConfig ch).offset))
            ∧ (r = .wind → h.meanWind = some (roundDiv vs.sum vs.length) ∧ h.gust = (s.channels.get ch).hourPeak)
            ∧ (r = .temp → (∃ lo, h.tempMin = some lo ∧ lo ∈ vs ∧ ∀ v ∈ vs, lo ≤ v)
                ∧ ∃ hi, h.tempMax = some hi ∧ hi ∈ vs ∧ ∀ v ∈ vs, v ≤ hi)
            ∧ (r = .depth → h.depth = vs.getLast?)))
  ∧ (∀ (s : State),
      let h := s.hourRecord
      (∀ ch : Chan, h.present.get ch = (presentValues ((s.channels.get ch).minutes.map MinuteSample.value)).length)
        ∧ (s.channelOf .precip = none → h.precipitation = none)
        ∧ (s.channelOf .wind = none → h.meanWind = none ∧ h.gust = none)
        ∧ (s.channelOf .temp = none → h.tempMin = none ∧ h.tempMax = none)
        ∧ (s.channelOf .depth = none → h.depth = none))

/-! ## Hazard -/

/-- R35, R36, R41, R42, R52, R54, R55: HOUR_CLOSE evaluates the ring with the new record, ends the hold at a computed level of
5, and counts toward a lift in RUNNING; R37 to R40: each term by its formula where its data test passes; a term whose test
fails keeps its value and sets DEGRADED, and the score is the sum of the terms, at most 255. R31: what a read of the ring
answers, a missing record having no serial. R42: the computed level formed is the next level of
`ComputedLevelFollowsTheScore`, from the configured thresholds and hysteresis, the score and the level before. -/
def Obligations.HourCloseEvaluatesTheRing : Prop :=
  (∀ (s : State), s.hourDue = true →
      let e := compute s.config (s.retained.insert s.hourRecord) s.hazard
      let n := if e.computed ≤ 2 ∧ s.hazard.floorLevel ≤ 2 then s.hazard.liftCounter + 1 else 0
      Completes .hourClose s (fun t =>
        t.hazard.termA = e.termA ∧ t.hazard.termB = e.termB ∧ t.hazard.termC = e.termC ∧ t.hazard.termD = e.termD
          ∧ t.hazard.score = e.score ∧ t.hazard.degraded = e.degraded ∧ t.hazard.computed = e.computed
          ∧ t.hazard.effective = max e.computed (max s.hazard.floorLevel s.hazard.neighbourFloor)
          ∧ t.hazard.hold = (if e.computed = 5 then none else s.hazard.hold)
          ∧ t.hazard.liftCounter = (if s.phase = .running then (if 2 ≤ n then 0 else n) else s.hazard.liftCounter)))
  ∧ (∀ (k : StationConfig) (m : Retained) (h : Hazard),
      let e := compute k m h
      let rain := m.fields HourRecord.precipitation 1 24
      let winds := m.fields HourRecord.meanWind 1 24
      let highs := presentValues (m.fields HourRecord.tempMax 1 6)
      let lows := presentValues (m.fields HourRecord.tempMin 1 24)
      let lately := presentValues (m.fields HourRecord.depth 1 6)
      let before := presentValues (m.fields HourRecord.depth 49 24)
      (6 < absentCount rain → e.termA = h.termA ∧ e.degraded = true)
        ∧ (absentCount rain ≤ 6 → (e.termA : Int)
            = max 0 (min 120 ((presentValues rain).sum * 24 / (24 - (absentCount rain : Int)) / 5)))
        ∧ (6 < absentCount winds → e.termB = h.termB ∧ e.degraded = true)
        ∧ (absentCount winds ≤ 6 → e.termB =
            (if (presentValues (m.fields HourRecord.precipitation 1 72)).sum < 10 then 0
              else min 60 (3 * ((presentValues winds).filter (fun v => decide ((k.transport : Int) ≤ v))).length)))
        ∧ (highs = [] ∨ lows = [] → e.termC = h.termC ∧ e.degraded = true)
        ∧ (∀ hi lo : Int, hi ∈ highs → (∀ v ∈ highs, v ≤ hi) → lo ∈ lows → (∀ v ∈ lows, lo ≤ v) →
            (e.termC : Int) = if hi ≤ -50 ∨ hi - lo ≤ 0 then 0 else min 40 ((hi - lo) / 5))
        ∧ (lately = [] ∨ before = [] → e.termD = h.termD ∧ e.degraded = true)
        ∧ (∀ now old : Int, lately.head? = some now → before.getLast? = some old →
            (e.termD : Int) = max 0 (min 40 ((now - old) / 2)))
        ∧ (e.degraded = true ↔ 6 < absentCount rain ∨ 6 < absentCount winds ∨ highs = [] ∨ lows = [] ∨ lately = []
            ∨ before = [])
        ∧ (m.count < 49 → e.termD = h.termD ∧ e.degraded = true)
        ∧ (m.count = 0 → e.termA = h.termA ∧ e.termB = h.termB ∧ e.termC = h.termC ∧ e.termD = h.termD)
        ∧ e.score = min (e.termA + e.termB + e.termC + e.termD) 255
        ∧ e.computed = nextLevel k.thresholds k.hysteresis e.score h.computed)
  ∧ (∀ (m : Retained) (p : Nat) (field : HourRecord → Value),
      (m.count < p → readSerial (m.read p) = none ∧ readValue field (m.read p) = none ∧ readPartial (m.read p) = false
        ∧ readPresent (m.read p) = ⟨0, 0, 0, 0⟩)
      ∧ (∀ h : HourRecord, 1 ≤ p → p ≤ m.count → m.records[p - 1]? = some h →
          readSerial (m.read p) = some h.serial ∧ readValue field (m.read p) = field h
            ∧ readPartial (m.read p) = h.isPartial ∧ readPresent (m.read p) = h.present))

/-- R42, R43: the computed level rises to the highest level whose threshold the score reaches, and otherwise falls by one at
most, only when the score is below its threshold by more than the hysteresis. -/
def Obligations.ComputedLevelFollowsTheScore : Prop :=
  ∀ (t : Thresholds) (hys score l : Nat), l ≤ 5 → t.t1 < t.t2 → t.t2 < t.t3 → t.t3 < t.t4 → t.t4 < t.t5 →
    let k := nextLevel t hys score l
    l ≤ k + 1 ∧ k ≤ 5
      ∧ (l < k → t.ofLevel k ≤ score ∧ (k < 5 → score < t.ofLevel (k + 1)))
      ∧ (k ≤ l → l < 5 → score < t.ofLevel (l + 1))
      ∧ (k < l ↔ 0 < l ∧ score + hys < t.ofLevel l)

/-- R44, R48: a FLOOR from a control station to this station or to all sets or cancels the operator floor, and the effective
level follows. R45: OPERATOR_FLOOR_EXPIRY ends the floor, a change of the effective level queues a STATUS (its premises are
the laws of the queue, of the register and, by `QueuedAlertsStayOwn`, of the entries queued), and a FLOOR bulletin taken at
the instant of expiry leaves the same floor in force whichever is taken first. R85, R88: a FLOOR from a roadside source, one
addressed to another station, and in CONFIG-FAULT (R186) every FLOOR are ignored: beyond the sender's entry in the peer table,
and what a report of that entry recomputes (R83), they change nothing. -/
def Obligations.OperatorFloorIsSetAndExpires : Prop :=
  (∀ (s : State) (h : FrameHeader) (b : FloorBody), s.phase.operating = true → Heard h s → s.isControl h.source = true →
      (b.target = 0#8 ∨ b.target = s.startup.address) → LevelLaw s →
      let cancel : Bool := b.level = 0#8 || b.minutes = 0#16
      Completes (.floorReceived h b) s (fun t =>
        t.hazard.floorLevel = (if cancel then 0 else min b.level.toNat 5)
          ∧ t.hazard.floorRemaining = (if cancel then 0 else min b.minutes.toNat 1440 * 60)
          ∧ t.hazard.effective = max t.hazard.computed (max t.hazard.floorLevel t.hazard.neighbourFloor)
          ∧ t.hazard.computed = s.hazard.computed))
  ∧ (∀ (s : State), s.phase.operating = true → 0 < s.hazard.floorLevel → s.hazard.floorRemaining = 0 →
      Completes .operatorFloorExpiry s (fun t =>
        t.hazard.floorLevel = 0 ∧ t.hazard.effective = max s.hazard.computed s.hazard.neighbourFloor
          ∧ t.hazard.computed = s.hazard.computed ∧ t.hazard.neighbourFloor = s.hazard.neighbourFloor
          ∧ (QueueLaw s → RegisterLaw s → AlertLaw s → EntryLaw s → t.hazard.effective ≠ s.hazard.effective →
              Bulletin.status ∈ t.line.queue ∨ 12 ≤ t.line.queue.length)))
  ∧ (∀ (s t1 t2 u1 u2 : State) (h : FrameHeader) (b : FloorBody), LevelLaw s → s.phase.operating = true →
      0 < s.hazard.floorLevel → s.hazard.floorRemaining = 0 →
      exec .operatorFloorExpiry s = .next t1 → exec (.floorReceived h b) t1 = .next t2 →
      exec (.floorReceived h b) s = .next u1 → exec .operatorFloorExpiry u1 = .next u2 →
      t2.hazard.floorLevel = u2.hazard.floorLevel ∧ t2.hazard.floorRemaining = u2.hazard.floorRemaining
        ∧ t2.hazard.effective = u2.hazard.effective)
  ∧ (∀ (s : State) (h : FrameHeader) (b : FloorBody), Heard h s →
      (s.isControl h.source = false ∨ (b.target ≠ 0#8 ∧ b.target ≠ s.startup.address) ∨ s.phase = .configFault) →
      Completes (.floorReceived h b) s (OrderIgnored h s))

/-- R53, R54, R113: a control bulletin that lifts an own AVALANCHE record in RUNNING below computed level 5 starts the hold
(also one that changes the record's kind with it, which is log entry 18); OVERRIDE_HOLD_EXPIRY ends it. R49, R51, R112: where
the five conditions of the autoclose test hold, an own AVALANCHE record is originated at the lowest free index, ANNOUNCED with
revision 0, and at a computed level of 5 brought forward at once with revision 1; where one of them fails the test changes
nothing. The serial the record takes, and the counter one past it, are R109's, which
`SlideContactIsConfirmedAndRearmed` says. -/
def Obligations.HoldAndAutocloseFollowTheirConditions : Prop :=
  (∀ (s : State) (h : FrameHeader) (b : ClosureBody) (c : ClosureContent) (i : Nat) (r : ClosureRecord),
    s.phase = .running → Heard h s → s.isControl h.source = true → closureContent false b = some c →
    s.findRecord c.id = some (i, r) → r.own = true → r.kind = .avalanche → r.state ≠ .lifted → c.state = .lifted →
    (c.revision - r.revision).toNat ≤ 127 → s.kindAllowed c.id.origin c.kind = true → s.hazard.computed < 5 →
    Completes (.closureReceived h b) s (fun t => t.hazard.hold = some 21600 ∧ t.hazard.computed = s.hazard.computed))
  ∧ (∀ (s : State), s.phase.operating = true → s.hazard.hold = some 0 →
    Completes .overrideHoldExpiry s (fun t => t.hazard.hold = none ∧ t.hazard.effective = s.hazard.effective
      ∧ t.hazard.computed = s.hazard.computed ∧ t.hazard.floorLevel = s.hazard.floorLevel))
  ∧ (∀ (s : State) (i : Nat),
      let called : Prop :=
        s.config.autoclose ≠ none
          ∧ (∀ l : Nat, s.config.autoclose = some l → l ≤ max s.hazard.computed s.hazard.floorLevel)
          ∧ (∀ j r, s.recordAt j = some r → r.own = true → r.kind = .avalanche → r.state = .lifted)
          ∧ s.hazard.hold = none
          ∧ s.phase = .running
      let r := s.ownRecord .avalanche s.config.segmentHalf .announced s.config.announceLead
      (¬ called → autocloseTest s = s)
        ∧ (called → freeIndex 0 s.register.slots = some i → 0 < s.config.announceLead → i < 16 →
            (autocloseTest s).recordAt i
                = some (if s.hazard.computed = 5 then { r with state := .inForce, lead := 0, revision := 1#8 } else r)
              ∧ (autocloseTest s).retained.ownSerial = s.nextSerial + 1
              ∧ r.kind = .avalanche ∧ r.state = .announced ∧ r.revision = 0#8 ∧ r.lead = s.config.announceLead
              ∧ r.scopeLo = s.config.chainage - s.config.segmentHalf
              ∧ r.scopeHi = min (s.config.chainage + s.config.segmentHalf) 65535 ∧ r.duration = none
              ∧ r.template = 0#8 ∧ r.own = true))

/-- R50: the commands that make the autoclose test leave its conditions unmet, or the register without room: an hour close and
the entry to RUNNING, the ends of the hold and of the floor, a FLOOR that changes the floor level, and an own AVALANCHE record
that is lifted or removed; REGISTER-FULL that clears at the removal of any record. R54: a control bulletin that lifts an own
AVALANCHE record at a computed level of 5 leaves no hold running and makes the test. R51: at an hour close and at the entry to
RUNNING a computed level of 5 leaves no own AVALANCHE record ANNOUNCED, each brought IN-FORCE with its revision raised by one.
R52: the second quiet hour close in RUNNING lifts every own AVALANCHE record that stands. Several are taken in index order,
which is the model's choice (log entry 40). -/
def Obligations.RequestsReachTheRegister : Prop :=
  (∀ (s : State) (i : Nat) (r : ClosureRecord) (h : FrameHeader) (b : FloorBody),
      let tested : State → Prop := fun t =>
        t.register.full = true ∨ t.phase ≠ .running ∨ t.hazard.hold ≠ none
          ∨ (∀ l : Nat, t.config.autoclose = some l → max t.hazard.computed t.hazard.floorLevel < l)
          ∨ ∃ j q, t.recordAt j = some q ∧ q.own = true ∧ q.kind = .avalanche ∧ q.state ≠ .lifted
      (s.hourDue = true → Completes .hourClose s tested)
        ∧ (s.phase = .settling → 70 ≤ s.now → Completes .runningEntry s tested)
        ∧ (s.phase.operating = true → s.hazard.hold = some 0 → Completes .overrideHoldExpiry s tested)
        ∧ (s.phase.operating = true → 0 < s.hazard.floorLevel → s.hazard.floorRemaining = 0 →
            Completes .operatorFloorExpiry s tested)
        ∧ (s.phase.operating = true → Heard h s → s.isControl h.source = true →
            (b.target = 0#8 ∨ b.target = s.startup.address) →
            Completes (.floorReceived h b) s (fun t => t.hazard.floorLevel = s.hazard.floorLevel ∨ tested t))
        ∧ (s.phase.operating = true → s.recordAt i = some r → r.own = true → r.kind = .avalanche →
            (r.state = .inForce → r.duration = some 0 → Completes (.durationExpiry i) s tested)
            ∧ (r.state = .lifted → r.display = 0 → Completes (.liftedDisplayExpiry i) s tested))
        ∧ (s.phase.operating = true → s.register.full = true → s.recordAt i = some r → r.state = .lifted → r.display = 0 →
            Completes (.liftedDisplayExpiry i) s tested)
        ∧ (∀ (b : ClosureBody) (c : ClosureContent), s.phase = .running → Heard h s → s.isControl h.source = true →
            closureContent false b = some c → s.findRecord c.id = some (i, r) → r.own = true → r.kind = .avalanche →
            r.state ≠ .lifted → c.state = .lifted → (c.revision - r.revision).toNat ≤ 127 →
            s.kindAllowed c.id.origin c.kind = true → s.hazard.computed = 5 →
            Completes (.closureReceived h b) s (fun t => t.hazard.hold = none ∧ tested t)))
  ∧ (∀ (s : State), RegisterLaw s →
      let forward : State → Prop := fun t => t.hazard.computed = 5 → t.phase = .running →
        (∀ j q, t.recordAt j = some q → q.own = true → q.kind = .avalanche → q.state ≠ .announced)
          ∧ (∀ j r, s.recordAt j = some r → r.own = true → r.kind = .avalanche →
              t.recordAt j = some (if r.state = .announced
                then { r with state := .inForce, lead := 0, revision := r.revision + 1 } else r))
      (s.hourDue = true → Completes .hourClose s forward)
        ∧ (s.phase = .settling → 70 ≤ s.now → Completes .runningEntry s forward))
  ∧ (∀ (s : State), RegisterLaw s → s.hourDue = true → s.phase = .running → s.hazard.floorLevel ≤ 2 →
      (compute s.config (s.retained.insert s.hourRecord) s.hazard).computed ≤ 2 → 1 ≤ s.hazard.liftCounter →
      (∀ l : Nat, s.config.autoclose = some l → 4 ≤ l) →
      Completes .hourClose s (fun t => t.hazard.liftCounter = 0 ∧ ∀ j r, s.recordAt j = some r →
        t.recordAt j = some (if r.own = true ∧ r.kind = .avalanche ∧ r.state ≠ .lifted
          then { r with state := .lifted, lead := 0, revision := r.revision + 1, display := 600 } else r)))

/-! ## The pass line -/

/-- R57, R59, R60, R70: CHARACTER_RECEIVED while the station is not sending: the receiver's four states, and the wait
interrupted. R72: while it is sending, the echo is compared: a match counts, and anything else fails the attempt, so does a
character that begins too late to be received by the end of the sent one's stop bit (half a bit and a tick, log entry 42);
once every character has passed, none that follows changes the attempt. -/
def Obligations.CharactersAreAssembled : Prop :=
  (∀ (s : State) (c : Byte) (bad : Bool), s.line.sending = none →
      (s.line.receiver = .inactive → exec (.characterReceived c bad) s = .next s)
        ∧ (s.line.receiver ≠ .inactive →
          Completes (.characterReceived c bad) s (fun t =>
            t.line.receiver = (match s.line.receiver with
                | .ready => if bad then .discarding else .assembling
                | .assembling => if bad || decide (54 ≤ s.line.buffer.length) then .discarding else .assembling
                | _ => .discarding)
              ∧ (t.line.receiver = .assembling →
                  t.line.buffer = (if s.line.receiver = .ready then [c] else s.line.buffer ++ [c]))
              ∧ (s.line.wait ≠ none → t.line.wait = some .interrupted)
              ∧ (s.line.wait = none → t.line.wait = none)
              ∧ t.line.queue = s.line.queue ∧ t.line.attempts = s.line.attempts ∧ t.line.inFlight = s.line.inFlight)))
  ∧ (∀ (s : State) (c : Byte) (bad : Bool) (x : Transmission) (f : Flight), s.line.receiver ≠ .inactive →
      s.line.sending = some x → s.line.inFlight = some f →
      Completes (.characterReceived c bad) s (fun t =>
        t.line.sending = some (if f.frame.length ≤ x.echoed then x
          else if x.failed = false ∧ bad = false ∧ f.frame[x.echoed]? = some c
              ∧ x.elapsed < x.echoed * 1000000 + (50000 + lineRate s.startup.rateCode)
          then { x with echoed := x.echoed + 1 } else { x with failed := true })
        ∧ t.line.inFlight = some f ∧ t.line.queue = s.line.queue))

/-- R57, R58, R62, R70: RECEIVER_IDLE_REACHED makes the receiver READY; FRAME_DISCARDED returns it to HUNTING, begins an
interrupted wait again from the frame's last stop bit, and sets ADDRESS-CONFLICT only for a good frame of the station's own
address. R58, R70, R73: every received bulletin ends its frame likewise, and with a bulletin in flight the retry wait begins
again with a fresh draw. -/
def Obligations.FramesEndInHunting : Prop :=
  ∀ (s : State),
    (s.line.receiver = .hunting → 4000000 ≤ s.line.idle →
      exec .receiverIdleReached s = .next (s.withLine { s.line with receiver := .ready }))
    ∧ (s.line.receiver ≠ .inactive → s.ownSourceFrame = false →
      Completes .frameDiscarded s (fun t =>
        t.line.receiver = .hunting ∧ t.line.echo = false ∧ t.line.queue = s.line.queue
          ∧ t.line.addressConflict = s.line.addressConflict
          ∧ (s.line.wait ≠ some .interrupted → t.line.wait = s.line.wait)
          ∧ (∀ e : Bulletin, s.line.queue.head? = some e → s.line.wait = some .interrupted → s.line.inFlight = none →
              t.line.wait = some (.counting e.cls 0 (drawFor e.cls s.line.draws) s.line.idle))
          ∧ (∀ f : Flight, s.line.inFlight = some f → s.line.wait = some .interrupted →
              t.line.wait = some (.counting f.bulletin.cls (8 * s.line.attempts) (drawFor f.bulletin.cls s.line.draws)
                s.line.idle))))
    ∧ (s.line.receiver ≠ .inactive → s.ownSourceFrame = true → s.line.addressConflict = false →
      Completes .frameDiscarded s (fun t => t.line.addressConflict = true ∧ t.line.receiver = .hunting))
    ∧ (∀ (c : Instr) (h : FrameHeader), frameHeader c = some h → s.line.receiver ≠ .inactive →
      Completes c s (fun t =>
        t.line.receiver = .hunting ∧ t.line.echo = false ∧ t.line.idle = s.line.idle
          ∧ t.line.wait ≠ some .interrupted
          ∧ (∀ f : Flight, s.line.inFlight = some f → s.line.wait = some .interrupted →
              t.line.wait = some (.counting f.bulletin.cls (8 * s.line.attempts) (drawFor f.bulletin.cls s.line.draws)
                s.line.idle))
          ∧ (s.line.inFlight ≠ none → s.line.wait ≠ some .interrupted → t.line.wait = s.line.wait)))

/-- R71, R90, R93, R84: ATTEMPT_START with no bulletin in flight sends the head entry: it leaves the queue with the own
sequence number and a body formed now; with one in flight it is a retry of the same frame. R92, R94, R89, R189: what the
bodies hold, byte by byte: a STATUS of the owning blocks as they stand, an ANNOUNCE of the image as it is held (in
CONFIG-FAULT as raw bytes, log entry 21), a CLOSURE or ALERT of its record, a RECAP of its target. -/
def Obligations.AttemptSendsTheHeadEntry : Prop :=
  (∀ (s : State), s.mayTransmit = true → s.line.waitDone = true →
    (∀ (e : Bulletin) (rest : List Bulletin) (body : List Byte), s.line.inFlight = none → s.line.queue = e :: rest →
      s.bulletinBody e = some body →
      Completes .attemptStart s (fun t =>
        t.line.inFlight = some ⟨e, s.line.ownSequence, encodeFrame (kindCode e) s.startup.address s.line.ownSequence body⟩
          ∧ t.line.attempts = 1 ∧ t.line.queue = rest ∧ t.line.ownSequence = s.line.ownSequence + 1
          ∧ t.line.sending = some ⟨0, false, 0⟩ ∧ t.line.wait = none
          ∧ (e = .status → t.peers.statusTimer = some 0
              ∧ t.peers.statusInterval = (if s.startup.quiet then 600 else 60))
          ∧ (e = .announce → t.peers.announceTimer = some 0)
          ∧ (∀ a p, e = .recap a → s.findPeer a = some p → t.findPeer a = some { p with recapTimer := some 0 })))
    ∧ (∀ (f : Flight), s.line.inFlight = some f →
      Completes .attemptStart s (fun t =>
        t.line.inFlight = some f ∧ t.line.attempts = s.line.attempts + 1 ∧ t.line.queue = s.line.queue
          ∧ t.line.ownSequence = s.line.ownSequence ∧ t.line.sending = some ⟨0, false, 0⟩ ∧ t.peers = s.peers)))
  ∧ (∀ (s : State),
    let number : Value → Word16 := fun v => match v with
      | some x => BitVec.ofInt 16 x
      | none => 0x8000#16
    let holder : Role → Option Channel := fun r => (s.channelOf r).map s.channels.get
    let alert : Role → Bool := fun r => ((holder r).map Channel.alert).getD false
    let gate : Gate → Byte := fun g => if s.config.fitted.get g = false then 0#8 else
      match (s.gates.units.get g).state with
        | .opened => 1#8
        | .closePending => 2#8
        | .closing => 3#8
        | .closed => 4#8
        | .opening => 5#8
        | .reversing => 6#8
        | .stalled => 7#8
        | .lockedOut => 8#8
        | .unpositioned => 9#8
    let health : Sign → Byte := fun n => match s.health n with
      | .notFitted => 0#8
      | .untried => 1#8
      | .ok => 2#8
      | .fault => 3#8
    ∃ b, s.bulletinBody .status = some b ∧ b.length = 26 ∧
      let at_ := fun i => b.getD i 0#8
      let pair := fun i => joinBytes (b.getD i 0#8) (b.getD (i + 1) 0#8)
      pair 0 = BitVec.ofNat 16 s.config.chainage ∧ pair 2 = (if s.startup.quiet then 600#16 else 60#16)
        ∧ at_ 4 = BitVec.ofNat 8 s.hazard.computed ∧ at_ 5 = BitVec.ofNat 8 s.hazard.effective
        ∧ at_ 6 = BitVec.ofNat 8 s.hazard.score ∧ at_ 7 = BitVec.ofNat 8 s.hazard.floorLevel
        ∧ (at_ 8).getLsbD 0 = s.hazard.degraded ∧ (at_ 8).getLsbD 1 = s.register.full
        ∧ (at_ 8).getLsbD 2 = s.line.lineTrouble ∧ (at_ 8).getLsbD 3 = s.hazard.neighbourSilent
        ∧ (at_ 8).getLsbD 4 = s.startup.quiet ∧ (at_ 8).getLsbD 5 = s.line.addressConflict
        ∧ (at_ 8).getLsbD 6 = readPartial (s.retained.read 1)
        ∧ (at_ 9).getLsbD 0 = alert .wind ∧ (at_ 9).getLsbD 1 = alert .temp ∧ (at_ 9).getLsbD 2 = alert .depth
        ∧ (at_ 9).getLsbD 3 = alert .precip
        ∧ (at_ 9).getLsbD 4 = (s.channels.get .c1).clamped ∧ (at_ 9).getLsbD 5 = (s.channels.get .c2).clamped
        ∧ (at_ 9).getLsbD 6 = (s.channels.get .c3).clamped ∧ (at_ 9).getLsbD 7 = (s.channels.get .c4).clamped
        ∧ pair 10 = number ((holder .wind).bind Channel.latest) ∧ pair 12 = number ((holder .wind).bind Channel.hourPeak)
        ∧ pair 14 = number ((holder .temp).bind Channel.latest) ∧ pair 16 = number ((holder .depth).bind Channel.latest)
        ∧ pair 18 = number (readValue HourRecord.precipitation (s.retained.read 1))
        ∧ at_ 20 = gate .e ∧ at_ 21 = gate .w
        ∧ (at_ 22).getLsbD 0 = (s.gates.units.get .e).slow ∧ (at_ 22).getLsbD 1 = (s.gates.units.get .w).slow
        ∧ at_ 23 = health .s1 ∧ at_ 24 = health .s2 ∧ at_ 25 = health .s3)
  ∧ (∀ (s : State),
    let img := s.startup.image.getD []
    ∃ b, s.bulletinBody .announce = some b ∧ b.length = 7 ∧
      let at_ := fun i => b.getD i 0#8
      joinBytes (at_ 0) (at_ 1) = imageWord img 0x00
        ∧ (at_ 2).getLsbD 0 = (imageByte img 0x4D).getLsbD 0 ∧ (at_ 2).getLsbD 1 = (imageByte img 0x4D).getLsbD 1
        ∧ at_ 3 = imageByte img 0x55 ∧ at_ 4 = imageByte img 0x56 ∧ at_ 5 = imageByte img 0x57
        ∧ (at_ 6).getLsbD 0 = decide (s.phase = .configFault) ∧ (at_ 6).getLsbD 1 = s.startup.substituted
        ∧ (at_ 6).getLsbD 2 = s.line.addressConflict
        ∧ (s.startup.image = none → at_ 0 = 0#8 ∧ at_ 1 = 0#8 ∧ at_ 2 = 0#8 ∧ at_ 3 = 0#8 ∧ at_ 4 = 0#8 ∧ at_ 5 = 0#8))
  ∧ (∀ (s : State) (target : Byte), s.bulletinBody (.recap target) = some [target])
  ∧ (∀ (s : State) (id : RecId) (i : Nat) (r : ClosureRecord), s.findRecord id = some (i, r) →
    ∀ e ∈ [Bulletin.closure id, .alert id], ∃ b, s.bulletinBody e = some b ∧ b.length = 14 ∧
      let at_ := fun i => b.getD i 0#8
      let pair := fun i => joinBytes (b.getD i 0#8) (b.getD (i + 1) 0#8)
      at_ 0 = id.origin ∧ at_ 1 = id.serial ∧ at_ 2 = r.revision
        ∧ at_ 3 = (match r.kind with
          | .slide => 1#8
          | .avalanche => 2#8
          | .operator => 3#8
          | .season => 4#8)
        ∧ pair 4 = BitVec.ofNat 16 r.scopeLo ∧ pair 6 = BitVec.ofNat 16 r.scopeHi
        ∧ at_ 8 = (match r.state with
          | .announced => 1#8
          | .inForce => 2#8
          | .lifted => 3#8)
        ∧ pair 9 = BitVec.ofNat 16 r.lead ∧ pair 11 = (closureBody r).minutes ∧ at_ 13 = r.template)

/-- R74: ATTEMPT_SUCCESS completes the bulletin in flight; the fourth success in a row clears LINE-TROUBLE. R72, R73, R75:
ATTEMPT_FAILED begins a retry wait longer by 8 Tc for each failure; the sixteenth abandons the bulletin and sets LINE-TROUBLE.
R69: whatever is drawn, the required idle lies in the range its class and extension give. -/
def Obligations.AttemptsSucceedOrRetry : Prop :=
  (∀ (s : State), s.line.sentWhole = true →
      Completes .attemptSuccess s (fun t =>
        t.line.inFlight = none ∧ t.line.attempts = 0 ∧ t.line.sending = none ∧ t.line.ownSequence = s.line.ownSequence
          ∧ (s.line.lineTrouble = false → t.line.lineTrouble = false ∧ t.line.queue = s.line.queue)
          ∧ (s.line.lineTrouble = true → s.line.successRun < 3 →
              t.line.lineTrouble = true ∧ t.line.successRun = s.line.successRun + 1 ∧ t.line.queue = s.line.queue)
          ∧ (s.line.lineTrouble = true → s.line.successRun = 3 → s.phase.serving = true →
              t.line.lineTrouble = false ∧ t.line.successRun = 0 ∧ t.line.queue = enqueue .status s.line.queue)))
  ∧ (∀ (s : State) (f : Flight), s.line.sendFailed = true → s.line.inFlight = some f →
      (s.line.attempts < 16 →
        Completes .attemptFailed s (fun t =>
          t.line.inFlight = some f ∧ t.line.attempts = s.line.attempts ∧ t.line.sending = none
            ∧ t.line.wait = some (.counting f.bulletin.cls (8 * s.line.attempts) (drawFor f.bulletin.cls s.line.draws) 0)
            ∧ t.line.queue = s.line.queue ∧ t.line.lineTrouble = s.line.lineTrouble))
      ∧ (16 ≤ s.line.attempts → s.phase.serving = true →
        Completes .attemptFailed s (fun t =>
          t.line.inFlight = none ∧ t.line.attempts = 0 ∧ t.line.sending = none ∧ t.line.lineTrouble = true
            ∧ t.line.successRun = 0 ∧ t.line.ownSequence = s.line.ownSequence
            ∧ t.line.queue = (if s.line.lineTrouble then s.line.queue else enqueue .status s.line.queue))))
  ∧ (∀ (cls extension k : Nat),
      let need := requiredIdle cls extension (drawFor cls k)
      4 + 2 * cls + extension ≤ need ∧ need ≤ 4 + 2 * cls + extension + (if cls = 0 then 3 else 7))

/-! ## Bulletins and peers -/

/-- R80 to R82: STATUS_RECEIVED and ANNOUNCE_RECEIVED bring the sender's entry up to date. R84: a gap in a HEARD sender's
sequence queues a RECAP to it, or sets its gap flag while the recap timer runs; a flag already set (log entry 26),
a frame with no gap and CONFIG-FAULT leave both alone. -/
def Obligations.StatusAndAnnounceUpdateThePeer : Prop :=
  (∀ (s : State) (h : FrameHeader) (b : StatusBody) (a : AnnounceBody), Heard h s →
    let old := s.findPeer h.source
    Completes (.statusReceived h b) s (fun t =>
      ∃ p, t.findPeer h.source = some p ∧ p.age = 0 ∧ p.presence = .heard ∧ p.lastSequence = h.sequence
        ∧ p.chainage = some b.chainage.toNat
        ∧ p.interval = (if b.interval.toNat = 0 then 60 else min b.interval.toNat 3600)
        ∧ p.level = (if b.computed.toNat ≤ b.effective.toNat then some b.computed.toNat else old.bind Peer.level))
    ∧ Completes (.announceReceived h a) s (fun t =>
      ∃ p, t.findPeer h.source = some p ∧ p.age = 0 ∧ p.presence = .heard ∧ p.lastSequence = h.sequence
        ∧ (a.flags.getLsbD 0 = false → p.chainage = some a.chainage.toNat ∧ p.level = old.bind Peer.level)
        ∧ (a.flags.getLsbD 0 = true → p.chainage = old.bind Peer.chainage ∧ p.level = none)
        ∧ p.interval = (old.map Peer.interval).getD 60))
  ∧ (∀ (s : State) (h : FrameHeader) (b : StatusBody) (a : AnnounceBody) (p : Peer), Heard h s →
    s.findPeer h.source = some p →
    let gap : Prop := p.presence = .heard ∧ h.sequence ≠ p.lastSequence + 1
    let ready : Prop := p.recapTimer = none ∨ p.recapTimer = some 120
    let kept : State → Prop := fun t => Bulletin.recap h.source ∈ t.line.queue → Bulletin.recap h.source ∈ s.line.queue
    ∀ c ∈ [Instr.statusReceived h b, .announceReceived h a], Completes c s (fun t => ∃ q, t.findPeer h.source = some q
      ∧ q.recapTimer = p.recapTimer
      ∧ (s.phase.operating = true → gap → p.gap = false → ready →
          q.gap = false ∧ (Bulletin.recap h.source ∈ t.line.queue ∨ 12 ≤ t.line.queue.length))
      ∧ (s.phase.operating = true → gap → p.gap = false → ¬ ready → q.gap = true ∧ kept t)
      ∧ (¬ gap ∨ p.gap = true → q.gap = p.gap ∧ kept t)
      ∧ (s.phase = .configFault → q.gap = p.gap ∧ t.line.queue = s.line.queue)))

/-- R80, R64, R62: of all seven kinds of bulletin, a duplicate only returns its sender's age to 0; a frame that overlapped the
station's own attempt (as the model's echo flag tells it, log entry 22) only ends; one that carries the station's own address
only sets ADDRESS-CONFLICT, with the STATUS or ANNOUNCE that its change queues. Beside that every part of the state stays as it
is but the end of the frame: the receiver, the echo flag and an interrupted wait. -/
def Obligations.DuplicatesAndOwnFramesGoNoFurther : Prop :=
  ∀ (s : State) (c : Instr) (h : FrameHeader), frameHeader c = some h → s.line.receiver ≠ .inactive →
    let ended : State → Prop := fun t =>
      t = { s with line := t.line, peers := t.peers }
        ∧ t.line = { s.line with receiver := .hunting, echo := false, wait := t.line.wait, draws := t.line.draws }
        ∧ (s.line.wait ≠ some .interrupted → t.line.wait = s.line.wait ∧ t.line.draws = s.line.draws)
    (s.line.sending ≠ none ∨ s.line.echo = true ∨ goodSource h.source = false →
        Completes c s (fun t => t.peers = s.peers ∧ ended t))
      ∧ (s.line.sending = none → s.line.echo = false → goodSource h.source = true → h.source = s.startup.address →
          Completes c s (fun t =>
            (s.line.addressConflict = true → t.peers = s.peers ∧ ended t)
            ∧ (s.line.addressConflict = false →
              t = { s with line := t.line }
                ∧ t.line = { s.line with receiver := .hunting, echo := false, addressConflict := true,
                                         queue := t.line.queue, wait := t.line.wait, draws := t.line.draws }
                ∧ (s.phase.operating = true → t.line.queue = enqueue .status s.line.queue)
                ∧ (s.phase = .configFault → t.line.queue = enqueue .announce s.line.queue))))
      ∧ (∀ p, s.line.sending = none → s.line.echo = false → goodSource h.source = true → h.source ≠ s.startup.address →
          s.findPeer h.source = some p → judgeSequence p h.sequence = .duplicate →
          Completes c s (fun t => ended t
            ∧ t.peers = { s.peers with entries := t.peers.entries }
            ∧ t.findPeer h.source = some { p with age := 0 }
            ∧ ∀ a : Byte, a ≠ h.source → t.findPeer a = s.findPeer a))

/-- R87, R186: QUERY_RECEIVED from a control station to this station or to all queues STATUS and ANNOUNCE; in CONFIG-FAULT an
ANNOUNCE alone. R86, R118: RECAP_RECEIVED queues ANNOUNCE and STATUS, restarts the walker in RUNNING, and to all returns the
sender's own records; in CONFIG-FAULT it queues an ANNOUNCE alone, and returns no record. R85, R87: a QUERY from a roadside
source, a QUERY or RECAP addressed to another station, and at address 0, where the station does not transmit (R178), every one
are ignored: beyond the sender's entry in the peer table, and what a report of that entry recomputes (R83), they change nothing.
-/
def Obligations.QueryAndRecapAreAnswered : Prop :=
  (∀ (s : State) (h : FrameHeader) (target : Byte), Heard h s → s.isControl h.source = true → s.line.queue.length ≤ 8 →
      (target = 0#8 ∨ target = s.startup.address) →
      (s.phase.operating = true →
        Completes (.queryReceived h target) s (fun t => Bulletin.status ∈ t.line.queue ∧ Bulletin.announce ∈ t.line.queue))
      ∧ (s.phase = .configFault → s.startup.address ≠ 0#8 →
        Completes (.queryReceived h target) s (fun t => t.line.queue = enqueue .announce s.line.queue)))
  ∧ (∀ (s : State) (h : FrameHeader) (target : Byte), Heard h s → s.phase.operating = true → s.line.queue = [] →
      s.records.length ≤ 5 → (target = 0#8 ∨ target = s.startup.address) →
      Completes (.recapReceived h target) s (fun t =>
        Bulletin.announce ∈ t.line.queue ∧ Bulletin.status ∈ t.line.queue
          ∧ (s.phase = .running → t.register.walkerIndex = 1 ∧ t.register.walkerFast = true ∧ t.register.walkerTimer = some 2)
          ∧ (target = 0#8 → ∀ p ∈ s.records, p.2.id.origin = h.source → Bulletin.closure p.2.id ∈ t.line.queue)
          ∧ t.register.slots = s.register.slots))
  ∧ (∀ (s : State) (h : FrameHeader) (target : Byte), Heard h s → s.phase = .configFault → s.startup.address ≠ 0#8 →
      (target = 0#8 ∨ target = s.startup.address) →
      Completes (.recapReceived h target) s (fun t =>
        t.line.queue = enqueue .announce s.line.queue ∧ t.register = s.register))
  ∧ (∀ (s : State) (h : FrameHeader) (target : Byte), Heard h s →
      let elsewhere : Prop := target ≠ 0#8 ∧ target ≠ s.startup.address
      let mute : Prop := s.phase = .configFault ∧ s.startup.address = 0#8
      (s.isControl h.source = false ∨ elsewhere ∨ mute → Completes (.queryReceived h target) s (OrderIgnored h s))
        ∧ (elsewhere ∨ mute → Completes (.recapReceived h target) s (OrderIgnored h s)))

/-- R81, R84, R90, R93: the timers of the peer table: PEER_LATE, PEER_SILENT, RECAP_TIMER_EXPIRY, STATUS_TIMER_EXPIRY,
ANNOUNCE_TIMER_EXPIRY. -/
def Obligations.PeerAndCadenceTimersExpire : Prop :=
  (∀ (s : State) (a : Byte) (p : Peer), s.findPeer a = some p →
    (s.phase ≠ .configRead → p.presence = .heard → 2 * p.interval < p.age →
      Completes (.peerLate a) s (fun t => t.findPeer a = some { p with presence := .late }))
    ∧ (s.phase ≠ .configRead → p.presence = .late → 4 * p.interval < p.age →
      Completes (.peerSilent a) s (fun t => t.findPeer a = some { p with presence := .silent }))
    ∧ (s.phase.operating = true → p.recapTimer = some 120 → p.gap = true →
      Completes (.recapTimerExpiry a) s (fun t =>
        t.findPeer a = some { p with gap := false } ∧ t.line.queue = enqueue (.recap a) s.line.queue)))
  ∧ (∀ (s : State),
    (s.phase.serving = true → s.peers.statusTimer = some s.peers.statusInterval →
      Completes .statusTimerExpiry s (fun t =>
        t.peers = { s.peers with statusTimer := some 0 } ∧ t.line.queue = enqueue .status s.line.queue))
    ∧ (s.phase ≠ .configRead → s.peers.announceTimer = some 900 →
      Completes .announceTimerExpiry s (fun t =>
        t.peers = { s.peers with announceTimer := some 0 } ∧ t.line.queue = enqueue .announce s.line.queue)))

/-! ## The closure register -/

/-- R98 to R101, R105: CLOSURE_RECEIVED and ALERT_RECEIVED create a record of an authorised sender at the lowest free index,
and leave the register alone when a check fails. R101, R121: a LIFTED bulletin of an id that is not held is ignored, but for one
of this station's own address in JOINING and SETTLING, which is adopted LIFTED with 600 s of display. The three checks: R98,
R89: the form check, and the content of a bulletin that passes it; R99: the sender's authority; R100: the kinds that only a
control station's address may originate. -/
def Obligations.ClosureBulletinCreatesARecord : Prop :=
  (∀ (s : State) (isAlert : Bool) (h : FrameHeader) (b : ClosureBody), s.phase.operating = true → Heard h s →
    let cmd : Instr := if isAlert then .alertReceived h b else .closureReceived h b
    (closureContent isAlert b = none → Completes cmd s (fun t => t.register = s.register))
      ∧ (∀ c : ClosureContent, closureContent isAlert b = some c →
          ((s.authorised h.source c.id.origin && s.kindAllowed c.id.origin c.kind) = false →
            Completes cmd s (fun t => t.register = s.register))
          ∧ (∀ i : Nat, freeIndex 0 s.register.slots = some i →
              s.authorised h.source c.id.origin = true → s.kindAllowed c.id.origin c.kind = true →
              s.findRecord c.id = none → c.state ≠ .lifted →
              Completes cmd s (fun t => t.recordAt i = some
                { id := c.id, revision := c.revision, kind := c.kind, scopeLo := c.scopeLo, scopeHi := c.scopeHi,
                  state := if c.state = .announced ∧ c.lead = 0 then .inForce else c.state,
                  lead := if c.state = .announced then c.lead else 0, duration := c.duration, template := c.template,
                  age := 0, stale := false, display := 0, own := decide (c.id.origin = s.startup.address) }))
          ∧ (s.findRecord c.id = none → c.state = .lifted →
              ¬ (c.id.origin = s.startup.address ∧ (s.phase = .joining ∨ s.phase = .settling)) →
              Completes cmd s (fun t => t.register = s.register))
          ∧ (∀ i : Nat, freeIndex 0 s.register.slots = some i → s.authorised h.source c.id.origin = true →
              s.kindAllowed c.id.origin c.kind = true → s.findRecord c.id = none → c.state = .lifted →
              c.id.origin = s.startup.address → s.phase = .joining ∨ s.phase = .settling →
              Completes cmd s (fun t => t.recordAt i = some
                { id := c.id, revision := c.revision, kind := c.kind, scopeLo := c.scopeLo, scopeHi := c.scopeHi,
                  state := .lifted, lead := 0, duration := c.duration, template := c.template, age := 0, stale := false,
                  display := 600, own := true }))))
  ∧ (∀ (isAlert : Bool) (b : ClosureBody) (c : ClosureContent),
      closureContent isAlert b = some c ↔
        ((1 ≤ b.origin.toNat ∧ b.origin.toNat ≤ 31) ∧ b.scopeLo.toNat ≤ b.scopeHi.toNat
          ∧ ((b.kind = 1#8 ∧ c.kind = .slide) ∨ (b.kind = 2#8 ∧ c.kind = .avalanche) ∨ (b.kind = 3#8 ∧ c.kind = .operator)
            ∨ (b.kind = 4#8 ∧ c.kind = .season))
          ∧ ((b.state = 1#8 ∧ c.state = .announced) ∨ (b.state = 2#8 ∧ c.state = .inForce)
            ∨ (b.state = 3#8 ∧ c.state = .lifted))
          ∧ (isAlert = true → c.kind = .slide)
          ∧ c.id = ⟨b.origin, b.serial⟩ ∧ c.revision = b.revision ∧ c.scopeLo = b.scopeLo.toNat
          ∧ c.scopeHi = b.scopeHi.toNat ∧ c.lead = b.lead.toNat
          ∧ c.duration = (if b.minutes = 0#16 then none else some (b.minutes.toNat * 60)) ∧ c.template = b.template))
  ∧ (∀ (s : State) (a origin : Byte) (kind : ClosureKind), s.phase.operating = true →
      (s.isControl a = true ↔ s.config.controlFirst ≤ a.toNat ∧ a.toNat ≤ s.config.controlLast)
        ∧ (s.authorised a origin = true ↔ a = origin ∨ s.isControl a = true
            ∨ ((s.phase = .joining ∨ s.phase = .settling) ∧ origin = s.startup.address))
        ∧ (s.kindAllowed origin kind = true ↔ kind = .slide ∨ kind = .avalanche ∨ s.isControl origin = true))

/-- R101 to R103: CLOSURE_RECEIVED or ALERT_RECEIVED for a held record: a newer revision (1 to 127 ahead) replaces its
content, an equal one confirms and may advance it, an older one changes nothing. A record left ANNOUNCED with a lead of 0
comes in force at once (R105). -/
def Obligations.ClosureBulletinMergesByRevision : Prop :=
  ∀ (s : State) (isAlert : Bool) (h : FrameHeader) (b : ClosureBody) (c : ClosureContent) (i : Nat) (r : ClosureRecord),
    s.phase.operating = true → Heard h s → closureContent isAlert b = some c → s.findRecord c.id = some (i, r) →
    s.authorised h.source c.id.origin = true → s.kindAllowed c.id.origin c.kind = true →
    let cmd : Instr := if isAlert then .alertReceived h b else .closureReceived h b
    let d := (c.revision - r.revision).toNat
    (127 < d → Completes cmd s (fun t => t.register.slots = s.register.slots))
      ∧ (0 < d → d ≤ 127 → Completes cmd s (fun t => ∃ q, t.recordAt i = some q
          ∧ q.id = r.id ∧ q.own = r.own ∧ q.age = 0 ∧ q.stale = false
          ∧ q.revision = c.revision ∧ q.kind = c.kind ∧ q.scopeLo = c.scopeLo ∧ q.scopeHi = c.scopeHi
          ∧ q.template = c.template ∧ q.duration = c.duration
          ∧ q.lead = (if c.state = .announced then c.lead else 0)
          ∧ q.state = (if c.state = .announced ∧ c.lead = 0 then .inForce else c.state)
          ∧ (c.state = .lifted → r.state ≠ .lifted → q.display = 600)
          ∧ (c.state = .lifted → r.state = .lifted → q.display = r.display)
          ∧ (c.state ≠ .lifted → q.display = 0)))
      ∧ (d = 0 → Completes cmd s (fun t => ∃ q, t.recordAt i = some q
          ∧ q.id = r.id ∧ q.own = r.own ∧ q.age = 0 ∧ q.stale = false
          ∧ q.revision = r.revision ∧ q.kind = r.kind ∧ q.scopeLo = r.scopeLo ∧ q.scopeHi = r.scopeHi
          ∧ q.template = r.template
          ∧ (c.duration = none → q.duration = r.duration) ∧ (r.duration = none → q.duration = c.duration)
          ∧ (∀ x y, r.duration = some x → c.duration = some y → q.duration = some (min x y))
          ∧ (r.state = .announced → c.state = .announced →
              q.lead = min r.lead c.lead ∧ q.state = (if min r.lead c.lead = 0 then .inForce else .announced))
          ∧ (r.state ≠ .announced ∨ c.state ≠ .announced → q.lead = 0)
          ∧ (r.state = .lifted ∨ c.state = .lifted → q.state = .lifted)
          ∧ (r.state = .inForce → c.state ≠ .lifted → q.state = .inForce)
          ∧ (c.state = .inForce → r.state ≠ .lifted → q.state = .inForce)
          ∧ (c.state = .lifted → r.state ≠ .lifted → q.display = 600)
          ∧ (c.state ≠ .lifted ∨ r.state = .lifted → q.display = r.display)))

/-- R105, R106, R108, R114: LEAD_EXPIRY, DURATION_EXPIRY and RECORD_STALE move the record they name; that a duration which has
run out is absent from then on is the model's reading of the field's range (log entry 14). R117, R118: WALKER_STEP queues a
CLOSURE for an own record at the index and advances it; the step at index 15 ends a FAST pass. R89, R189: a bulletin carries a
duration in minutes rounded up, a present one never as 0. -/
def Obligations.RecordTimersExpire : Prop :=
  (∀ (s : State) (i : Nat) (r : ClosureRecord), s.phase.operating = true → s.recordAt i = some r →
      (r.state = .announced → r.lead = 0 →
        Completes (.leadExpiry i) s (fun t =>
          t.register.slots = s.register.slots.set i (some { r with state := .inForce })
            ∧ (r.own = true → s.phase = .running → Bulletin.closure r.id ∈ t.line.queue ∨ 12 ≤ t.line.queue.length)))
      ∧ (r.state = .inForce → r.duration = some 0 →
        Completes (.durationExpiry i) s (fun t => t.recordAt i = some { r with state := .lifted, duration := none, display := 600 }))
      ∧ (r.own = false → r.stale = false → 900 < r.age →
        Completes (.recordStale i) s (fun t =>
          t.register.slots = s.register.slots.set i (some { r with stale := true }))))
  ∧ (∀ (s : State), s.phase = .running → s.register.walkerTimer = some 0 →
      Completes .walkerStep s (fun t =>
        t.register.walkerIndex = (s.register.walkerIndex + 1) % 16
          ∧ t.register.walkerFast = (s.register.walkerFast && decide (s.register.walkerIndex < 15))
          ∧ t.register.walkerTimer = some (if t.register.walkerFast then 2 else 20)
          ∧ t.register.slots = s.register.slots
          ∧ t.line.queue = (match s.recordAt s.register.walkerIndex with
              | some r => if r.own then enqueue (.closure r.id) s.line.queue else s.line.queue
              | none => s.line.queue)))
  ∧ (∀ (r : ClosureRecord),
      (r.duration = none → (closureBody r).minutes = 0#16)
        ∧ (∀ d : Nat, r.duration = some d → d ≤ 3932100 → (closureBody r).minutes.toNat = max 1 ((d + 59) / 60)))

/-- R107, R68, R138, R116, R111: LIFTED_DISPLAY_EXPIRY removes the record: its index is free, its queued bulletins and its
displayed-since entries go, and REGISTER-FULL clears; a pending SLIDE event is served. R49, R50: where REGISTER-FULL was set,
or the record was an own AVALANCHE one, the removal is followed by the autoclose test; where that test does not hold, or is
not made, that is all, and where it holds an own AVALANCHE record takes the lowest free index, at a computed level of 5
brought forward (R51), the index just freed where the register was full. -/
def Obligations.LiftedRecordIsRemoved : Prop :=
  ∀ (s : State) (i : Nat) (r : ClosureRecord), s.phase.operating = true → s.recordAt i = some r → r.state = .lifted →
    r.display = 0 →
    let called : Prop :=
      (s.register.full = true ∨ (r.own = true ∧ r.kind = .avalanche))
        ∧ s.config.autoclose ≠ none
        ∧ (∀ l : Nat, s.config.autoclose = some l → l ≤ max s.hazard.computed s.hazard.floorLevel)
        ∧ (∀ j q, s.recordAt j = some q → q.own = true → q.kind = .avalanche → q.state = .lifted)
        ∧ s.hazard.hold = none
        ∧ s.phase = .running
    (s.register.slidePending = false →
      Completes (.liftedDisplayExpiry i) s (fun t =>
        t.register.full = false ∧ t.register.slidePending = false
          ∧ (¬ called →
              t.register.slots = s.register.slots.set i none
                ∧ Bulletin.closure r.id ∉ t.line.queue ∧ Bulletin.alert r.id ∉ t.line.queue
                ∧ ∀ n : Sign, ∀ e ∈ (t.signs.get n).displayed, e.1 ≠ r.id)
          ∧ (called → ∀ j : Nat, freeIndex 0 (s.register.slots.set i none) = some j → 0 < s.config.announceLead → j < 16 →
              ∃ q, t.register.slots = (s.register.slots.set i none).set j (some q)
                ∧ q.own = true ∧ q.kind = .avalanche ∧ q.id.origin = s.startup.address
                ∧ (s.hazard.computed ≠ 5 → q.state = .announced ∧ q.lead = s.config.announceLead ∧ q.revision = 0#8)
                ∧ (s.hazard.computed = 5 → q.state = .inForce ∧ q.lead = 0 ∧ q.revision = 1#8))))
    ∧ (s.register.slidePending = true →
      Completes (.liftedDisplayExpiry i) s (fun t =>
        t.register.slidePending = false ∧ t.standingSlide.isSome = true ∧ (¬ called → t.register.full = false)))

/-- R115, R96, R97: a record chosen for eviction is never own, and is LIFTED, or ANNOUNCED and not relevant. One is chosen
whenever there is a candidate: of the LIFTED ones the one with the least display time, and failing those, unless the new
record is itself ANNOUNCED and not relevant, of the others the one with the greatest separation; on a tie the lowest index.
R95, R101, R116: at a full register a closure bulletin's record takes the evicted record's index, or is dropped and
REGISTER-FULL set, a change of which queues a STATUS. -/
def Obligations.EvictionSparesOwnAndDemandingRecords : Prop :=
  (∀ (s : State) (new : ClosureRecord),
      let lifted : Nat → ClosureRecord → Prop := fun j q => s.recordAt j = some q ∧ q.own = false ∧ q.state = .lifted
      let other : Nat → ClosureRecord → Prop := fun j q =>
        s.recordAt j = some q ∧ q.own = false ∧ q.state = .announced ∧ s.relevant q = false
      let c := s.config.chainage
      let gap : ClosureRecord → Nat := fun q => q.separation c
      (∀ i, s.evictIndex new = some i →
          (∃ r, lifted i r ∧ ∀ j q, lifted j q → r.display < q.display ∨ (r.display = q.display ∧ i ≤ j))
          ∨ ((∀ j q, ¬ lifted j q) ∧ ¬ (new.state = .announced ∧ s.relevant new = false)
              ∧ ∃ r, other i r ∧ ∀ j q, other j q → gap q < gap r ∨ (gap q = gap r ∧ i ≤ j)))
        ∧ (∀ q : ClosureRecord, q.scopeLo ≤ q.scopeHi →
            gap q = (if c < q.scopeLo then q.scopeLo - c else if q.scopeHi < c then c - q.scopeHi else 0))
        ∧ (∀ q : ClosureRecord, s.relevant q = true ↔
            (q.scopeLo ≤ c ∧ c ≤ q.scopeHi)
              ∨ (∃ n : Sign, s.config.signRoles.get n = .eastApproach ∧ c ≤ q.scopeHi
                  ∧ q.scopeLo ≤ c + s.config.lookAheads.get n)
              ∨ (∃ n : Sign, s.config.signRoles.get n = .westApproach ∧ q.scopeLo ≤ c
                  ∧ c ≤ q.scopeHi + s.config.lookAheads.get n)
              ∨ (s.config.fitted.east = true ∧ c ≤ q.scopeHi ∧ q.scopeLo ≤ c + s.config.reach)
              ∨ (s.config.fitted.west = true ∧ q.scopeLo ≤ c ∧ c ≤ q.scopeHi + s.config.reach))
        ∧ ((∃ j q, lifted j q) → s.evictIndex new ≠ none)
        ∧ ((∃ j q, other j q) → ¬ (new.state = .announced ∧ s.relevant new = false) → s.evictIndex new ≠ none))
  ∧ (∀ (s : State) (h : FrameHeader) (b : ClosureBody) (c : ClosureContent), s.phase.operating = true → Heard h s →
      closureContent false b = some c → s.authorised h.source c.id.origin = true →
      s.kindAllowed c.id.origin c.kind = true → s.findRecord c.id = none → c.state ≠ .lifted →
      freeIndex 0 s.register.slots = none →
      (s.evictIndex (s.newRecord c) = none →
        Completes (.closureReceived h b) s (fun t =>
          t.register = { s.register with full := true }
            ∧ (s.register.full = false → Bulletin.status ∈ t.line.queue ∨ 12 ≤ t.line.queue.length)))
      ∧ (∀ i, s.evictIndex (s.newRecord c) = some i →
        Completes (.closureReceived h b) s (fun t =>
          t.recordAt i = some (s.newRecord c).settled ∧ t.register.full = s.register.full
            ∧ ∀ j, j ≠ i → t.recordAt j = s.recordAt j)))

/-- R19, R20, R110: the slide contact's table, and the SLIDE event of a confirmed closure: deferred in JOINING, and in
SETTLING and RUNNING a new own SLIDE record IN-FORCE with its ALERT, or the standing one re-confirmed. R109: the serial that a
new own record takes is the first from the serial counter on, modulo 256, that no record of the station's own address holds.
R111: with no room the event waits and REGISTER-FULL is set, and no serial is spent (log entry 16); while it waits a further
one is merged with it, also where an own SLIDE record stands by then (log entry 15). -/
def Obligations.SlideContactIsConfirmedAndRearmed : Prop :=
  (∀ (s : State), s.phase.operating = true →
    (∀ closed ∈ [false, true], s.pins.contact ≠ closed →
      Completes (.slideContactChange closed) s (fun t =>
        t.pins.contact = closed
          ∧ t.slide = (match s.slide.state, closed with
            | .armed, true => { s.slide with state := .confirming, confirm := some 0 }
            | .confirming, false => { s.slide with state := .armed, confirm := none }
            | .tripped, false => { s.slide with rearm := some 0 }
            | .tripped, true => { s.slide with rearm := none }
            | _, _ => s.slide)))
    ∧ (s.slide.state = .tripped → s.pins.contact = false → 500000 ≤ s.slide.rearm.getD 0 →
      exec .rearmTimerExpiry s = .next (s.withSlide { s.slide with state := .armed, rearm := none }))
    ∧ (s.slide.state = .confirming → s.pins.contact = true → 20000 ≤ s.slide.confirm.getD 0 →
      (s.phase = .joining → Completes .slideConfirmationExpiry s (fun t =>
        t.slide.state = .tripped ∧ t.slide.deferred = true ∧ t.register = s.register))
      ∧ (s.phase.serving = true → s.register.slidePending = false → s.standingSlide = none →
        ∀ i : Nat, freeIndex 0 s.register.slots = some i → Completes .slideConfirmationExpiry s (fun t =>
          t.slide.state = .tripped ∧ t.recordAt i = some (s.ownRecord .slide s.config.slideHalf .inForce 0)
            ∧ t.retained.ownSerial = s.nextSerial + 1
            ∧ (s.line.queue.length ≤ 9 → Bulletin.alert (s.ownId s.nextSerial) ∈ t.line.queue)))
      ∧ (s.phase.serving = true → s.register.slidePending = false →
        ∀ (i : Nat) (r : ClosureRecord), s.recordAt i = some r → r.own = true → r.kind = .slide → r.state ≠ .lifted →
          (∀ j q, s.recordAt j = some q → q.own = true → q.kind = .slide → q.state ≠ .lifted → i ≤ j) →
          Completes .slideConfirmationExpiry s (fun t =>
            t.slide.state = .tripped
              ∧ t.register.slots = s.register.slots.set i
                  (some { r with revision := r.revision + 1, state := .inForce, lead := 0 })
              ∧ t.retained.ownSerial = s.retained.ownSerial ∧ t.register.slidePending = false
              ∧ (s.line.queue.length ≤ 9 → Bulletin.alert r.id ∈ t.line.queue)))
      ∧ (s.phase.serving = true → s.register.slidePending = false → s.standingSlide = none →
        freeIndex 0 s.register.slots = none → s.evictIndex (s.ownRecord .slide s.config.slideHalf .inForce 0) = none →
        Completes .slideConfirmationExpiry s (fun t =>
          t.slide.state = .tripped ∧ t.register = { s.register with full := true, slidePending := true }
            ∧ t.retained.ownSerial = s.retained.ownSerial
            ∧ ∀ id, Bulletin.alert id ∈ t.line.queue → Bulletin.alert id ∈ s.line.queue))
      ∧ (s.phase.serving = true → s.register.slidePending = true →
        Completes .slideConfirmationExpiry s (fun t =>
          t.slide.state = .tripped ∧ t.register = s.register ∧ t.line = s.line))))
  ∧ (∀ (s : State), s.register.slots.length = 16 →
      let held : Nat → Prop := fun n =>
        ∃ i r, s.recordAt i = some r ∧ r.id = ⟨s.startup.address, s.retained.ownSerial + BitVec.ofNat 8 n⟩
      ∃ k ≤ 16, s.nextSerial = s.retained.ownSerial + BitVec.ofNat 8 k ∧ ¬ held k ∧ (∀ n < k, held n)
        ∧ s.ownId s.nextSerial = ⟨s.startup.address, s.nextSerial⟩)

/-! ## Signs -/

/-- R126, R127: what the candidates of a fitted sign are (R124). R128: they stand in strict order of class, then distance,
then register index or channel number. R151, R152: which signs are eligible and with what, the turn after each sign last
served, and the arbiter's choice: it has the lowest class of the eligible signs, and among those the first in turn. On an idle
link in SETTLING or RUNNING the transfer to it begins (R142), which empties its pending page set, and stops the timer of a
probe (log entry 43); elsewhere, and where no sign is eligible, nothing changes. -/
def Obligations.BestContentGoesFirst : Prop :=
  ∀ (s : State) (n : Sign),
    let g := s.signs.get n
    let c := s.config.chainage
    (g.role ≠ .notFitted → ∀ x : Candidate, x ∈ s.candidates n ↔
        (∃ i r, s.recordAt i = some r ∧ x.source = .record i r.id
          ∧ ((r.state = .inForce ∧ x.cls = (if r.kind = .slide then 1 else 2)) ∨ (r.state = .announced ∧ x.cls = 3))
          ∧ ((g.role = .eastApproach ∧ c ≤ r.scopeHi ∧ r.scopeLo ≤ c + g.lookAhead ∧ x.distance = r.scopeLo - c)
            ∨ (g.role = .westApproach ∧ r.scopeLo ≤ c ∧ c ≤ r.scopeHi + g.lookAhead ∧ x.distance = c - r.scopeHi)
            ∨ (g.role = .panel ∧ r.scopeLo ≤ c ∧ c ≤ r.scopeHi ∧ x.distance = 0)))
        ∨ (x = ⟨4, 0, .hazard⟩ ∧ 4 ≤ s.hazard.effective)
        ∨ (∃ ch, x = ⟨5, 0, .alert ch⟩ ∧ (s.channels.get ch).alert = true ∧ (s.channels.get ch).role ≠ .none)
        ∨ (x = ⟨6, 0, .hazard⟩ ∧ s.hazard.effective = 3)
        ∨ (x = ⟨7, 0, .data⟩ ∧ (s.hazard.degraded = true ∨ s.hazard.neighbourSilent = true))
        ∨ (x = ⟨8, 0, .weather⟩ ∧ g.role = .panel))
      ∧ (s.candidates n).Pairwise (fun a b => a.cls < b.cls ∨ (a.cls = b.cls ∧ (a.distance < b.distance
          ∨ (a.distance = b.distance ∧ (match a.source, b.source with
            | .record i _, .record j _ => i < j
            | .alert x, .alert y => Chan.order.idxOf x < Chan.order.idxOf y
            | _, _ => False)))))
      ∧ (∀ m p ps, bestSign s (turnOrder s.link.lastServed) = some (m, p, ps) →
          s.eligible m = some (p, ps)
            ∧ ∀ q qs, s.eligible n = some (q, qs) → ps.cls ≤ qs.cls
              ∧ (qs.cls = ps.cls →
                  (turnOrder s.link.lastServed).idxOf m ≤ (turnOrder s.link.lastServed).idxOf n))
      ∧ (bestSign s (turnOrder s.link.lastServed) = none → s.eligible n = none)
      ∧ (turnOrder .s1 = [.s2, .s3, .s1] ∧ turnOrder .s2 = [.s3, .s1, .s2] ∧ turnOrder .s3 = [.s1, .s2, .s3])
      ∧ (∀ (p : Bool) (ps : PageSet), s.eligible n = some (p, ps) ↔
          (p = false ∧ (s.health n = .untried ∨ s.health n = .ok) ∧ (s.link.signs.get n).waiting = some ps)
            ∨ (p = true ∧ s.health n = .fault ∧ (s.link.signs.get n).probe = .due ∧ g.offered = some ps))
      ∧ (s.phase.serving = false ∨ s.link.state ≠ .idle ∨ bestSign s (turnOrder s.link.lastServed) = none →
          arbitrate s = s)
      ∧ (∀ m p ps, bestSign s (turnOrder s.link.lastServed) = some (m, p, ps) → s.phase.serving = true →
          s.link.state = .idle →
          let t := arbitrate s
          t = s.withLink t.link
            ∧ t.link = { s.link with
                state := if s.link.held then .pausedSending else .sending, transfer := some ⟨m, ps, p, 0, 0, 0⟩,
                lastServed := m, signs := t.link.signs }
            ∧ t.link.signs.get m = { s.link.signs.get m with
                waiting := none, probe := if p then .stopped else (s.link.signs.get m).probe }
            ∧ ∀ k : Sign, k ≠ m → t.link.signs.get k = s.link.signs.get k)

/-- R129: the page set built for a sign: blank in QUIET and of an empty list, else page A of the first candidate and page B of
the second when its class is 5 or less. R130 to R132: the pages: the template chosen past the refused ones, the parameters,
and the blank page where no template is left. R134: an evaluation hands a fitted sign the built page set where a page of it
differs from the page set last handed, in RUNNING always and in SETTLING for classes 1 and 2 alone, and else leaves the page
set last handed, its refresh timer and the link as they are; R125: after MINUTE_CLOSE, RUNNING_ENTRY, LEAD_EXPIRY,
DURATION_EXPIRY and RECORD_STALE every fitted sign has been handed what is built for it then. R135: REFRESH_TIMER_EXPIRY hands
the built page set even if it equals the offered one. R173 to R175, R136: QUIET_ENTRY judges the eight conditions at its own
instant (log entry 28): where all hold it sets QUIET and hands every fitted sign the blank page set, and otherwise it stops
the entry timer. -/
def Obligations.RefreshAndQuietEntryHandPages : Prop :=
  (∀ (s : State) (n : Sign), s.phase = .running →
    let clear : Prop :=
      s.hazard.effective = 0
        ∧ (∀ ch : Chan, (s.channels.get ch).alert = false)
        ∧ (∀ i r, s.recordAt i = some r → r.state = .lifted ∨ s.relevant r = false)
        ∧ (∀ i r, s.recordAt i = some r → r.state = .lifted ∨ r.own = false)
        ∧ (∀ g : Gate, s.config.fitted.get g = true → (s.gates.units.get g).state = .opened)
        ∧ (∀ m : Sign, s.health m ≠ .fault)
        ∧ (∀ p ∈ s.peers.entries, s.isNeighbour p = true → p.presence = .heard)
        ∧ s.hazard.degraded = false
    ((s.signs.get n).role ≠ .notFitted → (s.signs.get n).refresh = some 300 →
      Completes (.refreshTimerExpiry n) s (fun t =>
        (t.signs.get n).offered = some (s.buildPageSet n) ∧ (t.signs.get n).built = some (s.buildPageSet n)
          ∧ (t.signs.get n).refresh = s.refreshStart n
          ∧ ((t.link.signs.get n).waiting = some (s.buildPageSet n)
              ∨ (t.link.transfer.map Transfer.sign) = some n)))
    ∧ (s.startup.quiet = false → s.startup.entryTimer = some 300 →
      Completes .quietEntry s (fun t =>
        t.startup.entryTimer = none
          ∧ (clear → t.startup.quiet = true ∧ t.line.queue = enqueue .status s.line.queue
              ∧ ((t.signs.get n).role ≠ .notFitted →
                  (t.signs.get n).offered = some .blank ∧ (t.signs.get n).refresh = none))
          ∧ (¬ clear → t.startup.quiet = false ∧ t.line.queue = s.line.queue ∧ t.signs = s.signs))))
  ∧ (∀ (s : State) (n : Sign),
    let refused := (s.signs.get n).refused
    (s.startup.quiet = true → s.buildPageSet n = ⟨⟨0#8, 0, 0, 0, 0, none⟩, none, 9⟩)
      ∧ (s.candidates n = [] → s.buildPageSet n = ⟨⟨0#8, 0, 0, 0, 0, none⟩, none, 9⟩)
      ∧ (∀ a rest, s.startup.quiet = false → s.candidates n = a :: rest →
          let ps := s.buildPageSet n
          ps.cls = a.cls ∧ ps.pageA = s.pageOf refused a
            ∧ (rest = [] → ps.pageB = none)
            ∧ (∀ b, rest.head? = some b → 5 < b.cls → ps.pageB = none)
            ∧ (∀ b, rest.head? = some b → b.cls ≤ 5 →
                ps.pageB = (if ps.pageA = ⟨0#8, 0, 0, 0, 0, none⟩ ∧ s.pageOf refused b = ⟨0#8, 0, 0, 0, 0, none⟩ then none
                  else some (s.pageOf refused b)))))
  ∧ (∀ (s : State) (refused : List Byte) (c : Candidate),
    let d := s.config.templates.forClass c.cls
    let p := s.pageOf refused c
    let own : Byte := match c.source with
      | .record i _ => ((s.recordAt i).map ClosureRecord.template).getD 0#8
      | _ => 0#8
    let held : Prop := ∀ i id, c.source = .record i id → s.recordAt i ≠ none
    (held → own ≠ 0#8 → own ∉ refused → p.template = own)
      ∧ (held → own = 0#8 ∨ own ∈ refused → d ∉ refused → p.template = d)
      ∧ (own = 0#8 ∨ own ∈ refused → d ∈ refused → p.template = 0#8)
      ∧ (p.template = 0#8 → p = ⟨0#8, 0, 0, 0, 0, none⟩)
      ∧ (p.template ≠ 0#8 →
          (∀ i id r, c.source = .record i id → s.recordAt i = some r →
            p = ⟨p.template, ((c.distance + 99) / 100 : Nat),
              if r.state = .announced then ((r.lead + 59) / 60 : Nat) else 0,
              (match r.kind with
                | .slide => 1
                | .avalanche => 2
                | .operator => 3
                | .season => 4), if r.stale then 1 else 0, some r.id⟩)
          ∧ (c.source = .hazard → p = ⟨p.template, s.hazard.effective, 0, 0, 0, none⟩)
          ∧ (∀ ch, c.source = .alert ch → p = ⟨p.template, (s.channels.get ch).latest.getD (-32768),
              (match (s.channels.get ch).role with
                | .wind => 1
                | .temp => 2
                | .depth => 3
                | .precip => 4
                | .none => 0), (s.channelConfig ch).limit, 0, none⟩)
          ∧ (c.source = .data → p = ⟨p.template, s.hazard.effective, if s.hazard.degraded then 1 else 0,
              if s.hazard.neighbourSilent then 1 else 0, 0, none⟩)
          ∧ (c.source = .weather → p = ⟨p.template, (s.latestOf .wind).getD (-32768), (s.peakOf .wind).getD (-32768),
              (s.latestOf .temp).getD (-32768), (s.latestOf .depth).getD (-32768), none⟩)))
  ∧ (∀ (s : State) (n : Sign),
    let g := s.signs.get n
    let ps := s.buildPageSet n
    let t := evaluateSign n s
    let d := t.signs.get n
    let hands : Prop := (∀ o : PageSet, g.offered = some o → ps.pageA ≠ o.pageA ∨ ps.pageB ≠ o.pageB)
      ∧ (s.phase = .running ∨ ps.cls = 1 ∨ ps.cls = 2)
    (s.phase.serving = false ∨ g.role = .notFitted → t = s)
      ∧ (s.phase.serving = true → g.role ≠ .notFitted →
          d.candidates = s.candidates n ∧ d.built = some ps
            ∧ (hands → d.offered = some ps
                ∧ d.refresh = (if s.startup.quiet = true ∨ s.health n = .fault then none else some 0)
                ∧ ((t.link.signs.get n).waiting = some ps
                  ∨ ∃ x, t.link.transfer = some x ∧ x.sign = n ∧ x.pages = ps))
            ∧ (¬ hands → d.offered = g.offered ∧ d.refresh = g.refresh ∧ t.link = s.link)))
  ∧ (∀ (s : State) (n : Sign), s.phase.serving = true → (s.signs.get n).role ≠ .notFitted →
    let handed : State → Prop := fun t =>
      t.phase = .running ∨ (t.buildPageSet n).cls = 1 ∨ (t.buildPageSet n).cls = 2 →
        ∃ o, (t.signs.get n).offered = some o ∧ o.pageA = (t.buildPageSet n).pageA ∧ o.pageB = (t.buildPageSet n).pageB
    (s.minuteDue = true → Completes .minuteClose s handed)
      ∧ (s.phase = .settling → 70 ≤ s.now → Completes .runningEntry s handed)
      ∧ (∀ i r, s.recordAt i = some r →
          (r.state = .announced → r.lead = 0 → Completes (.leadExpiry i) s handed)
            ∧ (r.state = .inForce → r.duration = some 0 → Completes (.durationExpiry i) s handed)
            ∧ (r.own = false → r.stale = false → 900 < r.age → Completes (.recordStale i) s handed)))

/-- R142, R144: PAGE_SET_SENT starts the reply timer, in PAUSED when an XOFF has come during the last character. XOFF_RECEIVED
and XON_RECEIVED set the flow state in every link state: an XOFF in SENDING lets the present character complete, and the tick of
its stop bit enters PAUSED (to the tick, log entry 6); an XON returns a paused link to the state it came from; on an IDLE link
nothing else changes. R141: a character of the reply pair is flow control, or joins the reply, which two character times of idle
end; a reply with a framing error is discarded; elsewhere than in JOINING, SETTLING and RUNNING every character is (R140). How
characters come onto the pair is log entry 9. -/
def Obligations.SendingPausesAndResumes : Prop :=
  (∀ (s : State), s.phase.operating = true →
    (∀ x : Transfer, s.link.transfer = some x → s.link.state = .sending → messageLength x.pages * 1000000 ≤ x.progress →
      exec .pageSetSent s = .next (s.withLink { s.link with
        state := (if s.link.held then .pausedAwaiting else .awaiting), transfer := some { x with reply := 200000 } }))
    ∧ (s.link.state ≠ .awaiting → exec .xoffReceived s = .next (s.withLink { s.link with held := true }))
    ∧ (s.link.state = .awaiting →
      exec .xoffReceived s = .next (s.withLink { s.link with state := .pausedAwaiting, held := true }))
    ∧ (s.link.state = .pausedSending →
      exec .xonReceived s = .next (s.withLink { s.link with state := .sending, held := false }))
    ∧ (s.link.state = .pausedAwaiting →
      exec .xonReceived s = .next (s.withLink { s.link with state := .awaiting, held := false }))
    ∧ (s.link.state ≠ .pausedSending → s.link.state ≠ .pausedAwaiting →
      exec .xonReceived s = .next (s.withLink { s.link with held := false })))
  ∧ (∀ (s : State) (x : Transfer), s.phase.operating = true → s.link.transfer = some x →
    let t := advance s
    let p := x.progress + 9600
    (s.link.state = .sending →
        (s.link.held = false ∨ p / 1000000 = x.progress / 1000000 ∨ messageLength x.pages ≤ p / 1000000) →
        t.link.state = .sending ∧ t.link.transfer = some { x with progress := p })
      ∧ (s.link.state = .sending → s.link.held = true → x.progress / 1000000 < p / 1000000 →
        p / 1000000 < messageLength x.pages →
        t.link.state = .pausedSending ∧ t.link.transfer = some { x with progress := p / 1000000 * 1000000 })
      ∧ (s.link.state = .awaiting → t.link.state = .awaiting ∧ t.link.transfer = some { x with reply := x.reply - 1 })
      ∧ (s.link.state = .pausedSending ∨ s.link.state = .pausedAwaiting →
        t.link.state = s.link.state ∧ t.link.transfer = some { x with pause := x.pause + 1 }))
  ∧ (∀ (s : State),
    let q := s.replyPair
    let t := advance s
    let ends : Prop := q.onPair = none ∧ q.arriving = [] ∧ 2000000 ≤ q.elapsed + 9600
    (s.phase = .configRead → t = s)
      ∧ (s.phase = .configFault → t.replyPair = ReplyPair.reset ∧ t.pending = s.pending)
      ∧ (∀ c : ReplyChar, s.phase.operating = true → q.onPair = some c → 1000000 ≤ q.elapsed + 9600 →
        t.replyPair.onPair = q.arriving.head? ∧ t.replyPair.arriving = q.arriving.tail
          ∧ (c.framingError = false → c.char = 0x11#8 →
              t.pending = s.pending ++ [.xonReceived] ∧ t.replyPair.reply = q.reply
                ∧ t.replyPair.framingError = q.framingError)
          ∧ (c.framingError = false → c.char = 0x13#8 →
              t.pending = s.pending ++ [.xoffReceived] ∧ t.replyPair.reply = q.reply
                ∧ t.replyPair.framingError = q.framingError)
          ∧ (c.framingError = true ∨ (c.char ≠ 0x11#8 ∧ c.char ≠ 0x13#8) →
              t.pending = s.pending ∧ t.replyPair.reply = q.reply ++ [c.char]
                ∧ t.replyPair.framingError = (q.framingError || c.framingError)))
      ∧ (s.phase.operating = true → ends → q.reply ≠ [] →
        t.replyPair.reply = [] ∧ t.replyPair.framingError = false
          ∧ t.pending = s.pending ++ (if q.framingError then [] else (checkReply q.reply).toList))
      ∧ (s.phase.operating = true → q.onPair = none → ¬ ends →
        t.pending = s.pending ∧ t.replyPair.reply = q.reply ∧ t.replyPair.framingError = q.framingError))

/-- R143, R147, R137: ACK_RECEIVED that echoes the check value sent makes the sign OK and brings its displayed-since map into
line with the page set acknowledged: a record that a page of it carries keeps the time at which it was entered, or is entered at
the present station time if the register holds it; every other entry leaves the map. -/
def Obligations.MatchingAckIsASuccess : Prop :=
  ∀ (s : State) (x : Transfer) (a : BitVec 4), s.link.transfer = some x →
    (s.link.state = .awaiting ∨ s.link.state = .pausedAwaiting) → a.toNat = signAddress x.sign →
    Completes (.ackReceived a (checkValue x.sign x.pages)) s (fun t =>
      t.health x.sign = .ok ∧ (t.link.signs.get x.sign).failures = 0 ∧ (t.link.signs.get x.sign).probe = .stopped
        ∧ (t.signs.get x.sign).acknowledged = some x.pages
        ∧ (t.signs.get x.sign).displayed = alignDisplayed (s.signs.get x.sign).displayed x.pages.carried
            (s.records.map (fun p => p.2.id)) s.now
        ∧ t.register = s.register
        ∧ ∀ (id : RecId) (at_ : Nat),
          t.displayedSince x.sign id = some at_ ↔
            ((x.pages.pageA.carries = some id ∨ ∃ b, x.pages.pageB = some b ∧ b.carries = some id)
              ∧ (s.displayedSince x.sign id = some at_
                ∨ (s.displayedSince x.sign id = none ∧ (∃ i r, s.recordAt i = some r ∧ r.id = id) ∧ at_ = s.now))))

/-- R143, R146: a wrong check value, NAK_BAD_FORMAT, REPLY_TIMEOUT and PAUSE_LIMIT each count one failure of the sign. Below
three in a row the failed page set is pending again, or chosen again at once, unless a newer one was handed meanwhile; the
third brings the sign to FAULT with its displayed-since map empty and its probe timer at 0; a failed probe leaves FAULT and
restarts that timer. Of both the page set does not become pending again. -/
def Obligations.FailedTransfersCountTowardFault : Prop :=
  ∀ (s : State) (x : Transfer) (a page : BitVec 4) (check : Word16), s.link.transfer = some x →
    s.health x.sign ≠ .notFitted →
    let k := s.link.signs.get x.sign
    let claim : State → Prop := fun t =>
      let k' := t.link.signs.get x.sign
      (s.health x.sign ≠ .fault → k'.failures = min (k.failures + 1) 3)
        ∧ (s.health x.sign ≠ .fault → k.failures < 2 →
            t.health x.sign = s.health x.sign ∧ (t.signs.get x.sign).displayed = (s.signs.get x.sign).displayed
              ∧ (t.signs.get x.sign).acknowledged = (s.signs.get x.sign).acknowledged
              ∧ (k'.waiting = some (k.waiting.getD x.pages)
                ∨ ∃ y, t.link.transfer = some y ∧ y.sign = x.sign ∧ y.pages = k.waiting.getD x.pages))
        ∧ (s.health x.sign ≠ .fault → 2 ≤ k.failures →
            t.health x.sign = .fault ∧ k'.probe = .counting 0
              ∧ (t.signs.get x.sign).displayed = [] ∧ (t.signs.get x.sign).acknowledged = none
              ∧ (s.startup.quiet = false → k'.waiting = k.waiting))
        ∧ (s.health x.sign = .fault →
            t.health x.sign = .fault ∧ k'.failures = 3 ∧ k'.probe = .counting 0 ∧ k'.waiting = k.waiting
              ∧ t.signs = s.signs)
    ((s.link.state = .awaiting ∨ s.link.state = .pausedAwaiting) → a.toNat = signAddress x.sign →
        Completes (.nakBadFormat a page) s claim
          ∧ (check ≠ checkValue x.sign x.pages → Completes (.ackReceived a check) s claim))
      ∧ (s.link.state = .awaiting → x.reply = 0 → Completes .replyTimeout s claim)
      ∧ ((s.link.state = .pausedSending ∨ s.link.state = .pausedAwaiting) → 1000000 < x.pause →
          Completes .pauseLimit s claim)

/-- R148, R133: NAK_UNKNOWN_TEMPLATE counts nothing against the sign and adds the template it names to its refused set: the
one of the page set's page 1 or 2, unless it is 0 or in the set, at the end, the oldest of 8 leaving. R148: where it ends a
probe of a sign in FAULT the sign's probe is due at once, or begun by the arbiter's choice with the page set then offered. -/
def Obligations.RefusedTemplateIsNoFailure : Prop :=
  ∀ (s : State) (x : Transfer) (a page : BitVec 4), s.link.transfer = some x →
    (s.link.state = .awaiting ∨ s.link.state = .pausedAwaiting) → a.toNat = signAddress x.sign →
    Completes (.nakUnknownTemplate a page) s (fun t =>
      t.health x.sign = s.health x.sign ∧ (t.link.signs.get x.sign).failures = (s.link.signs.get x.sign).failures
        ∧ (t.signs.get x.sign).refused
            = refuseTemplate (refusedTemplate x.pages page) (s.signs.get x.sign).refused
        ∧ (t.signs.get x.sign).displayed = (s.signs.get x.sign).displayed
        ∧ (t.signs.get x.sign).acknowledged = (s.signs.get x.sign).acknowledged
        ∧ (let old := (s.signs.get x.sign).refused
          let new := (t.signs.get x.sign).refused
          let joins : Byte → Prop := fun a =>
            (a = 0#8 ∨ a ∈ old → new = old)
              ∧ (a ≠ 0#8 → a ∉ old → new = (if old.length < 8 then old else old.tail) ++ [a])
          (page = 1#4 → joins x.pages.pageA.template)
            ∧ (∀ b : Page, page = 2#4 → x.pages.pageB = some b → joins b.template)
            ∧ (page = 2#4 → x.pages.pageB = none → new = old)
            ∧ (page ≠ 1#4 → page ≠ 2#4 → new = old))
        ∧ (x.probe = true → s.health x.sign = .fault →
            (t.link.signs.get x.sign).probe = .due
              ∨ ∃ ps, (t.signs.get x.sign).offered = some ps ∧ (t.link.signs.get x.sign).probe = .stopped
                ∧ t.link.transfer = some ⟨x.sign, ps, true, 0, 0, 0⟩))

/-- R149, R142: the probe timer of a sign in FAULT counts in SETTLING and RUNNING, from its start, in ticks of 10 microseconds
(a tick is the model's resolution, log entry 1). At 60 s PROBE_DUE makes the probe due; on an idle link with no other sign
eligible it begins at once, with the offered page set, its timer stopped until the probe ends (log entry 43). -/
def Obligations.ProbeBeginsWhenDue : Prop :=
  ∀ (s : State) (n : Sign) (k : Nat), s.health n = .fault → (s.link.signs.get n).probe = .counting k →
    ((advance s).link.signs.get n).probe = .counting (if s.phase.serving then k + 1 else k)
    ∧ (s.phase.serving = true → k < 6000000 → exec (.probeDue n) s = .next s)
    ∧ (s.phase.serving = true → 6000000 ≤ k → s.link.state ≠ .idle →
      exec (.probeDue n) s = .next (s.setSignLink n { s.link.signs.get n with probe := .due }))
    ∧ (∀ ps : PageSet, s.phase.serving = true → 6000000 ≤ k → (s.signs.get n).offered = some ps → s.link.state = .idle →
      (∀ m : Sign, m ≠ n → s.eligible m = none) →
      Completes (.probeDue n) s (fun t =>
        t.link.transfer = some ⟨n, ps, true, 0, 0, 0⟩ ∧ (t.link.signs.get n).probe = .stopped
          ∧ t.link.state = (if s.link.held then .pausedSending else .sending) ∧ t.link.lastServed = n))

/-! ## Gates -/

/-- R160, R166, R167: a full travel that reaches its limit comes to rest there, its duration enters the history of its
direction, in whole 0.1 s rounded down (log entry 12), and SLOW-TRAVEL is judged against the history as it stood. R164, R165,
R172, R157: both limits lock a gate out; in JOINING a gate follows its limits; a gate at rest that loses its limit is driven
back where that is permitted, which is no full travel; an UNPOSITIONED or STALLED gate that gains a limit comes to rest there
and is evaluated; a gate in CLOSE-PENDING that gains the closed limit is CLOSED; before JOINING and in CONFIG-FAULT only the
pin moves (log entry 4). -/
def Obligations.LimitInputsMoveTheGates : Prop :=
  (∀ (s : State) (g : Gate),
      let u := s.gates.units.get g
      let d := u.travel.getD 0 / 10000
      s.phase.serving = true → s.config.fitted.get g = true → s.pins.openLimit.get g = false →
      s.pins.closedLimit.get g = false →
      (u.state = .closing → Completes (.limitInputChange g .closedLimit true) s (fun t =>
        (t.gates.units.get g).state = .closed ∧ (t.gates.units.get g).stalls = 0 ∧ (t.gates.units.get g).travel = none
          ∧ t.pins.closedLimit.get g = true
          ∧ (let h := s.retained.closing.get g
            (u.fullTravel = true → t.retained = { s.retained with closing := s.retained.closing.set g ((d :: h).take 8) }
              ∧ (t.gates.units.get g).slow = (decide (4 ≤ h.length) && decide (2 * h.sum < d * h.length))))
          ∧ (u.fullTravel = false → t.retained = s.retained ∧ (t.gates.units.get g).slow = u.slow)))
      ∧ (u.state = .opening → Completes (.limitInputChange g .openLimit true) s (fun t =>
        (t.gates.units.get g).state = .opened ∧ (t.gates.units.get g).stalls = 0 ∧ (t.gates.units.get g).travel = none
          ∧ t.pins.openLimit.get g = true
          ∧ (let h := s.retained.opening.get g
            (u.fullTravel = true → t.retained = { s.retained with opening := s.retained.opening.set g ((d :: h).take 8) }
              ∧ (t.gates.units.get g).slow = (decide (4 ≤ h.length) && decide (2 * h.sum < d * h.length))))
          ∧ (u.fullTravel = false → t.retained = s.retained ∧ (t.gates.units.get g).slow = u.slow)))
      ∧ (u.state = .unpositioned ∨ u.state = .stalled →
        Completes (.limitInputChange g .openLimit true) s (fun t =>
          (t.gates.units.get g).stalls = 0
            ∧ (s.demandNow g ≠ some .closed → (t.gates.units.get g).state = .opened)
            ∧ (s.demandNow g = some .closed → (t.gates.units.get g).state = .closing
                ∨ ((t.gates.units.get g).state = .closePending ∧ s.gates.keyLocal = false
                  ∧ (t.gates.units.get g).pendingEntry = some s.now)))
        ∧ Completes (.limitInputChange g .closedLimit true) s (fun t =>
          (t.gates.units.get g).stalls = 0
            ∧ (t.gates.units.get g).state
              = (if s.demandNow g = some .opened ∧ s.phase = .running then .opening else .closed)))
      ∧ (u.state = .closePending → Completes (.limitInputChange g .closedLimit true) s (fun t =>
          (t.gates.units.get g).state = .closed ∧ (t.gates.units.get g).stalls = 0
            ∧ (t.gates.units.get g).travel = none ∧ t.retained = s.retained)))
  ∧ (∀ (s : State) (g : Gate) (active : Bool),
      let u := s.gates.units.get g
      (s.config.fitted.get g = false ∨ s.phase.operating = false → s.pins.openLimit.get g ≠ active →
          exec (.limitInputChange g .openLimit active) s
            = .next (s.withPins { s.pins with openLimit := s.pins.openLimit.set g active }))
        ∧ (s.config.fitted.get g = true → s.phase.serving = true → s.pins.openLimit.get g = false →
            s.pins.closedLimit.get g = true → Completes (.limitInputChange g .openLimit true) s (fun t =>
              (t.gates.units.get g).state = .lockedOut ∧ (t.gates.units.get g).travel = none
                ∧ (t.gates.units.get g).dwell = none ∧ (t.gates.units.get g).stallWait = none ∨ u.state = .lockedOut))
        ∧ (s.config.fitted.get g = true → s.phase = .joining → u.state ≠ .lockedOut → s.pins.openLimit.get g ≠ active →
            Completes (.limitInputChange g .openLimit active) s (fun t =>
              (t.gates.units.get g).state = limitsState active (s.pins.closedLimit.get g)))
        ∧ (s.config.fitted.get g = true → s.phase.serving = true → u.state = .opened → s.pins.openLimit.get g = true →
            s.pins.closedLimit.get g = false → Completes (.limitInputChange g .openLimit false) s (fun t =>
              (t.gates.units.get g).state
                = (if u.demand = some .opened ∧ s.phase = .running then .opening else .unpositioned)
              ∧ (t.gates.units.get g).fullTravel = false))
        ∧ (s.config.fitted.get g = true → s.phase.serving = true → u.state = .closed → s.pins.closedLimit.get g = true →
            s.pins.openLimit.get g = false → Completes (.limitInputChange g .closedLimit false) s (fun t =>
              (t.gates.units.get g).state = (if u.demand = some .closed then .closing else .unpositioned)
                ∧ (t.gates.units.get g).fullTravel = false)))
  ∧ (∀ (s : State) (g : Gate), s.limitsShow g =
      (if s.pins.openLimit.get g = true ∧ s.pins.closedLimit.get g = true then .lockedOut
        else if s.pins.openLimit.get g = true then .opened
        else if s.pins.closedLimit.get g = true then .closed
        else .unpositioned))

/-- R158, R160: GATE_LEAD_ELAPSED moves a gate out of CLOSE-PENDING exactly when the lead test holds: displayed for the lead
on an OK facing sign, or twice the lead after the pending entry without one. R158, the device's law for the lead: a gate that
any command brings from CLOSE-PENDING to CLOSING in REMOTE has met it, with the kind of the record that demands it. The lead
is the slide lead where the demanding record is of kind SLIDE, and else the gate lead. R155: the demanding record is the one
displayed earliest on the facing sign of the IN-FORCE records over the gate's range (R153, R96), and the one at the lowest
index among equals or where none is displayed; a turn of the key sets it so, or to none in LOCAL. R156: the lamp is lit for
half of each second, the first half by the model's choice (log entry 27). The facing sign of a gate is the one with the gate's
approach role, at the lowest address of several (chapter 09). -/
def Obligations.LeadIsHeldBeforeClosing : Prop :=
  (∀ (s : State) (g : Gate),
    let u := s.gates.units.get g
    s.phase.serving = true → s.config.fitted.get g = true → s.gates.keyLocal = false → u.state = .closePending →
    (s.leadTest g = false → exec (.gateLeadElapsed g) s = .next s)
      ∧ (s.leadTest g = true → Completes (.gateLeadElapsed g) s (fun t =>
          (t.gates.units.get g).state = (if s.pins.closedLimit.get g then .closed else .closing)
            ∧ (s.pins.closedLimit.get g = false → (t.gates.units.get g).travel = some 0)))
      ∧ (∀ n : Sign, s.facingSign g = some n → s.health n = .ok →
          (s.leadTest g = true ↔ ∃ id at_, u.demanding = some id ∧ s.displayedSince n id = some at_
            ∧ at_ + s.leadOf u ≤ s.now))
      ∧ ((∀ n : Sign, s.facingSign g = some n → s.health n ≠ .ok) →
          (s.leadTest g = true ↔ ∃ at_, u.pendingEntry = some at_ ∧ at_ + 2 * s.leadOf u ≤ s.now)))
  ∧ (∀ (c : Instr) (s t : State) (g : Gate), RegisterLaw s → 0 < s.config.gateLead → 0 < s.config.slideLead →
    exec c s = .next t → (s.gates.units.get g).state = .closePending → (t.gates.units.get g).state = .closing →
    t.gates.keyLocal = false →
    ∃ (d : Option RecId) (x : State), (x = s ∨ x = t)
      ∧ (d = (s.gates.units.get g).demanding
        ∨ ∃ r, (r ∈ s.demandingRecords g ∨ r ∈ t.demandingRecords g) ∧ d = some r.id)
      ∧ (let lead := x.leadOf { s.gates.units.get g with demanding := d }
        (∃ n id at_, s.facingSign g = some n ∧ t.health n = .ok ∧ d = some id ∧ s.displayedSince n id = some at_
            ∧ at_ + lead ≤ s.now)
          ∨ ((∀ n : Sign, s.facingSign g = some n → t.health n ≠ .ok)
            ∧ ∃ at_, (s.gates.units.get g).pendingEntry = some at_ ∧ at_ + 2 * lead ≤ s.now)))
  ∧ (∀ (s : State) (u : GateUnit),
    let slide : Prop := ∃ id i r, u.demanding = some id ∧ s.findRecord id = some (i, r) ∧ r.kind = .slide
    (slide → s.leadOf u = s.config.slideLead) ∧ (¬ slide → s.leadOf u = s.config.gateLead))
  ∧ (∀ (s : State) (g : Gate),
    let c := s.config.chainage
    let demands : Nat → ClosureRecord → Prop := fun i r => s.recordAt i = some r ∧ r.state = .inForce
      ∧ (match g with
        | .e => r.scopeLo ≤ c + s.config.reach ∧ c ≤ r.scopeHi
        | .w => r.scopeLo ≤ c ∧ c ≤ r.scopeHi + s.config.reach)
    let since : ClosureRecord → Option Nat := fun r => (s.facingSign g).bind (fun n => s.displayedSince n r.id)
    ((∀ i r, ¬ demands i r) → s.demandingRecord g = none)
      ∧ (∀ r, s.demandingRecord g = some r → ∃ i, demands i r ∧ ∀ j q, demands j q →
          (∀ y, since q = some y → ∃ x, since r = some x ∧ (x < y ∨ (x = y ∧ i ≤ j)))
            ∧ (since q = none → since r = none → i ≤ j))
      ∧ ((∃ i r, demands i r) → s.demandingRecord g ≠ none)
      ∧ (s.phase.serving = true → s.config.fitted.get g = true →
          (s.gates.keyLocal = true → Completes .keyToRemote s (fun t =>
            (t.gates.units.get g).demanding = (t.demandingRecord g).map ClosureRecord.id))
          ∧ (s.gates.keyLocal = false → Completes .keyToLocal s (fun t => (t.gates.units.get g).demanding = none))))
  ∧ (∀ (s : State) (g : Gate),
    s.lampLit g = true ↔ s.clock.tick < 50000
      ∧ ((s.gates.units.get g).state = .closePending ∨ (s.gates.units.get g).state = .closing
        ∨ (s.gates.units.get g).state = .reversing))
  ∧ (∀ (s : State) (g : Gate) (n : Sign),
    let approach : Sign → Prop := fun m => (s.signs.get m).role = (match g with
      | .e => .eastApproach
      | .w => .westApproach)
    s.facingSign g = some n ↔ approach n ∧ ∀ m : Sign, approach m → Sign.order.idxOf n ≤ Sign.order.idxOf m)

/-- R155, R157, R158, R161, R162, R165, R170: what a gate does about its demand at each evaluation: demand CLOSED brings an
OPEN or UNPOSITIONED gate into CLOSE-PENDING with the station time as its pending entry, or, with the lead already met and in
LOCAL, into CLOSING at once; demand OPEN returns a gate in CLOSE-PENDING to what its limits show and opens a CLOSED or
UNPOSITIONED one in RUNNING alone; a demand against the travel reverses it; every other gate stays. The ends of a lead and of
another station's duration evaluate the gates with the record as it then stands, and RUNNING_ENTRY opens the gates whose
demand is OPEN. R162, R163, R161: DWELL_END and STALL_RETRY travel toward the demand as it stands, neither a full travel
(R165); in SETTLING with demand OPEN the gate takes the state its limits show (CLOSED too, log entry 47). TRAVEL_STALL gives
STALLED at the first stall and LOCKED-OUT at the second. -/
def Obligations.StallsAndReversalsResume : Prop :=
  (∀ (s : State) (g : Gate),
    let u := s.gates.units.get g
    let moved : State → Prop := fun t =>
      (u.demand = some .closed → s.pins.closedLimit.get g = false → (t.gates.units.get g).state = .closing)
        ∧ (u.demand = some .opened → s.pins.openLimit.get g = false → s.phase = .running →
            (t.gates.units.get g).state = .opening)
        ∧ (u.demand = some .opened → s.pins.openLimit.get g = false → s.phase ≠ .running →
            (t.gates.units.get g).state = s.limitsShow g ∧ (t.gates.units.get g).stalls = u.stalls)
        ∧ (u.demand = some .closed → s.pins.closedLimit.get g = true → (t.gates.units.get g).state = .closed)
        ∧ (t.gates.units.get g).fullTravel = false
    (u.state = .reversing → 200000 ≤ u.dwell.getD 0 → Completes (.dwellEnd g) s moved)
      ∧ (u.state = .stalled → 1000000 ≤ u.stallWait.getD 0 → Completes (.stallRetry g) s moved)
      ∧ ((u.state = .closing ∨ u.state = .opening) → s.config.travelLimit ≤ u.travel.getD 0 / 10000 →
          Completes (.travelStall g) s (fun t =>
            if u.stalls = 0 then (t.gates.units.get g).state = .stalled ∧ (t.gates.units.get g).stalls = 1
                ∧ (t.gates.units.get g).stallWait = some 0 ∧ (t.gates.units.get g).travel = none
              else (t.gates.units.get g).state = .lockedOut ∧ (t.gates.units.get g).travel = none)))
  ∧ (∀ (s : State) (g : Gate), s.phase.serving = true → s.config.fitted.get g = true → 0 < s.config.gateLead →
    0 < s.config.slideLead →
    let u := s.gates.units.get g
    let key := s.gates.keyLocal
    let t := evaluateGate g s
    let v := t.gates.units.get g
    let first := (s.demandingRecord g).map ClosureRecord.id
    let lead := s.leadOf { u with demanding := first }
    let displayed : Prop := ∃ n id at_, s.facingSign g = some n ∧ s.health n = .ok ∧ first = some id
      ∧ s.displayedSince n id = some at_ ∧ at_ + lead ≤ s.now
    let waited : Prop := (∀ n : Sign, s.facingSign g = some n → s.health n ≠ .ok)
      ∧ ∃ at_, u.pendingEntry = some at_ ∧ at_ + 2 * lead ≤ s.now
    let closes : Prop := v.state = (if s.pins.closedLimit.get g then .closed else .closing)
      ∧ (s.pins.closedLimit.get g = false → v.travel = some 0 ∧ v.fullTravel = s.pins.openLimit.get g)
    let opens : Prop := v.state = (if s.pins.openLimit.get g then .opened else .opening)
      ∧ (s.pins.openLimit.get g = false → v.travel = some 0 ∧ v.fullTravel = s.pins.closedLimit.get g)
    let turns : Prop := v.state = .reversing ∧ v.dwell = some 0 ∧ v.travel = none ∧ v.fullTravel = false
      ∧ v.stalls = u.stalls
    let stays : Prop := v = { u with demand := v.demand, demanding := v.demanding }
    (key = true → v.demand = s.gates.localDemand)
      ∧ (key = false → (s.demandingRecords g ≠ [] → v.demand = some .closed)
          ∧ (s.demandingRecords g = [] → v.demand = some .opened) ∧ v.demanding = first)
      ∧ t.retained = s.retained ∧ (∀ k : Gate, k ≠ g → t.gates.units.get k = s.gates.units.get k)
      ∧ (v.demand = none → stays)
      ∧ (v.demand = some .closed →
          (u.state = .opened ∨ u.state = .unpositioned →
            (key = true ∨ displayed → closes)
              ∧ (key = false → ¬ displayed → v.state = .closePending ∧ v.pendingEntry = some s.now ∧ v.travel = none))
          ∧ (u.state = .closePending → key = false →
            (displayed ∨ waited → closes) ∧ (¬ displayed → ¬ waited → stays))
          ∧ (u.state = .opening → turns)
          ∧ (u.state = .closing ∨ u.state = .closed ∨ u.state = .reversing ∨ u.state = .stalled ∨ u.state = .lockedOut →
            stays))
      ∧ (v.demand = some .opened →
          (u.state = .closed ∨ u.state = .unpositioned → (s.phase = .running → opens) ∧ (s.phase ≠ .running → stays))
          ∧ (u.state = .closePending →
            v.state = (if s.pins.openLimit.get g then .opened else .unpositioned) ∧ v.travel = none)
          ∧ (u.state = .closing → turns)
          ∧ (u.state = .opened ∨ u.state = .opening ∨ u.state = .reversing ∨ u.state = .stalled ∨ u.state = .lockedOut →
            stays)))
  ∧ (∀ (s : State) (g : Gate), s.phase.serving = true → s.config.fitted.get g = true →
    (∀ i r, s.recordAt i = some r →
        let acts : ClosureRecord → State → Prop := fun q t =>
          t.gates.units.get g = (evaluateGate g (s.setSlot i (some q))).gates.units.get g
        (r.state = .announced → r.lead = 0 → Completes (.leadExpiry i) s (acts { r with state := .inForce }))
          ∧ (r.own = false → r.state = .inForce → r.duration = some 0 →
              Completes (.durationExpiry i) s (acts { r with state := .lifted, duration := none, display := 600 })))
      ∧ (s.phase = .settling → 70 ≤ s.now →
        (s.gates.units.get g).state = .closed ∨ (s.gates.units.get g).state = .unpositioned →
        Completes .runningEntry s (fun t => t.demandNow g = some .opened →
          (t.gates.units.get g).state = (if s.pins.openLimit.get g then .opened else .opening)
            ∧ (s.pins.openLimit.get g = false → (t.gates.units.get g).travel = some 0))))

/-- R169 to R171, R161: the key and the buttons: a turn of the key to LOCAL stops every gate in motion, and leaves no gate a
demand until a button is pressed (log entry 11); a turn to REMOTE stops every gate in motion too, brings a LOCKED-OUT gate to
the state its limits show, with stall count 0 (log entry 13), and evaluates it against the register, but in JOINING does not;
in LOCAL, CLOSE closes without a lead and OPEN opens in RUNNING alone, and a press against a travel reverses it (R162);
buttons are disregarded in REMOTE, and OPEN while CLOSE is held (the command says whether it is, log entry 10). -/
def Obligations.KeyAndButtonsCommandTheGates : Prop :=
  (∀ (s : State) (g : Gate),
    let u := s.gates.units.get g
    let calls : Bool := !(s.demandingRecords g).isEmpty
    s.phase.serving = true → s.config.fitted.get g = true →
    (s.gates.keyLocal = false → Completes .keyToLocal s (fun t =>
        t.gates.keyLocal = true ∧ t.gates.localDemand = none ∧ (t.gates.units.get g).demand = none
          ∧ (t.gates.units.get g).state.acting = false
          ∧ (u.state = .closing ∨ u.state = .opening ∨ u.state = .reversing ∨ u.state = .stalled →
              (t.gates.units.get g).state = s.limitsShow g ∧ (t.gates.units.get g).stalls = 0
                ∧ (t.gates.units.get g).travel = none ∧ (t.gates.units.get g).dwell = none
                ∧ (t.gates.units.get g).stallWait = none)
          ∧ t.retained = s.retained))
      ∧ (s.gates.keyLocal = true → Completes .keyToRemote s (fun t =>
        t.gates.keyLocal = false ∧ t.gates.localDemand = none ∧ (t.gates.units.get g).demand = t.demandNow g
          ∧ t.retained = s.retained
          ∧ (u.state = .closing ∨ u.state = .opening ∨ u.state = .reversing ∨ u.state = .stalled ∨ u.state = .lockedOut →
              (t.gates.units.get g).stalls = 0
              ∧ (match s.limitsShow g with
                | .opened =>
                  if calls then (t.gates.units.get g).state = .closing
                    ∨ ((t.gates.units.get g).state = .closePending ∧ (t.gates.units.get g).pendingEntry = some s.now)
                  else (t.gates.units.get g).state = .opened
                | .closed => (t.gates.units.get g).state
                    = (if calls then .closed else if s.phase = .running then .opening else .closed)
                | .unpositioned =>
                  if calls then (t.gates.units.get g).state = .closing
                    ∨ ((t.gates.units.get g).state = .closePending ∧ (t.gates.units.get g).pendingEntry = some s.now)
                  else (t.gates.units.get g).state = (if s.phase = .running then .opening else .unpositioned)
                | x => (t.gates.units.get g).state = x))))
      ∧ (s.gates.keyLocal = true → u.state = .opened → s.pins.closedLimit.get g = false →
          Completes .closeButtonPress s (fun t =>
            t.gates.localDemand = some .closed ∧ (t.gates.units.get g).state = .closing))
      ∧ (s.gates.keyLocal = true → u.state = .closed → s.pins.openLimit.get g = false →
          Completes (.openButtonPress false) s (fun t => t.gates.localDemand = some .opened
            ∧ (t.gates.units.get g).state = (if s.phase = .running then .opening else .closed)))
      ∧ exec (.openButtonPress true) s = .next s
      ∧ (s.gates.keyLocal = false → exec .closeButtonPress s = .next s ∧ exec (.openButtonPress false) s = .next s))
  ∧ (∀ (s : State) (g : Gate),
    let u := s.gates.units.get g
    s.phase = .joining → s.config.fitted.get g = true → s.gates.keyLocal = true →
    Completes .keyToRemote s (fun t => t.gates.keyLocal = false
      ∧ (u.state = .closing ∨ u.state = .opening ∨ u.state = .reversing ∨ u.state = .stalled ∨ u.state = .lockedOut →
          (t.gates.units.get g).state = s.limitsShow g)))
  ∧ (∀ (s : State) (g : Gate),
    let u := s.gates.units.get g
    s.phase.serving = true → s.config.fitted.get g = true → s.gates.keyLocal = true →
    Completes .closeButtonPress s (fun t =>
      let v := t.gates.units.get g
      t.gates.localDemand = some .closed ∧ v.demand = some .closed
        ∧ (u.state = .opened ∨ u.state = .unpositioned →
            v.state = (if s.pins.closedLimit.get g then .closed else .closing))
        ∧ (u.state = .opening → v.state = .reversing ∧ v.dwell = some 0 ∧ v.travel = none)
        ∧ (u.state = .closing ∨ u.state = .closed ∨ u.state = .reversing ∨ u.state = .stalled ∨ u.state = .lockedOut →
            v.state = u.state))
      ∧ Completes (.openButtonPress false) s (fun t =>
        let v := t.gates.units.get g
        t.gates.localDemand = some .opened ∧ v.demand = some .opened
          ∧ (u.state = .closed ∨ u.state = .unpositioned →
              v.state = (if s.phase = .running then (if s.pins.openLimit.get g then .opened else .opening) else u.state))
          ∧ (u.state = .closing → v.state = .reversing ∧ v.dwell = some 0 ∧ v.travel = none)
          ∧ (u.state = .opened ∨ u.state = .opening ∨ u.state = .reversing ∨ u.state = .stalled ∨ u.state = .lockedOut →
              v.state = u.state)))

/-! ## The byte layouts -/

/-- R188, R189, R61: a frame formed by the layout of a bulletin is read back as that bulletin, for every kind and every
field. R61, R188: the characters that pass the five checks, of size, length, CRC, kind and source, and the header they give. -/
def Obligations.FramesReadBackAsTheirBulletins : Prop :=
  (∀ (h : FrameHeader), goodSource h.source = true →
    (∀ b, checkFrame (encodeFrame 1#8 h.source h.sequence (encodeAnnounce b)) = some (.announceReceived h b))
      ∧ (∀ b, checkFrame (encodeFrame 2#8 h.source h.sequence (encodeStatus b)) = some (.statusReceived h b))
      ∧ (∀ b, checkFrame (encodeFrame 3#8 h.source h.sequence (encodeClosure b)) = some (.closureReceived h b))
      ∧ (∀ b, checkFrame (encodeFrame 4#8 h.source h.sequence (encodeClosure b)) = some (.alertReceived h b))
      ∧ (∀ b, checkFrame (encodeFrame 5#8 h.source h.sequence (encodeFloor b)) = some (.floorReceived h b))
      ∧ (∀ t, checkFrame (encodeFrame 6#8 h.source h.sequence [t]) = some (.queryReceived h t))
      ∧ (∀ t, checkFrame (encodeFrame 7#8 h.source h.sequence [t]) = some (.recapReceived h t)))
  ∧ (∀ (cs : List Byte),
      let at_ := fun i => cs.getD i 0#8
      let len := (at_ 3).toNat
      ((∃ c, checkFrame cs = some c) ↔
        6 ≤ cs.length ∧ cs.length = len + 6 ∧ crc (cs.take (len + 4)) = joinBytes (at_ (len + 4)) (at_ (len + 5))
          ∧ ((at_ 0 = 1#8 ∧ len = 7) ∨ (at_ 0 = 2#8 ∧ len = 26) ∨ ((at_ 0 = 3#8 ∨ at_ 0 = 4#8) ∧ len = 14)
            ∨ (at_ 0 = 5#8 ∧ len = 4) ∨ ((at_ 0 = 6#8 ∨ at_ 0 = 7#8) ∧ len = 1))
          ∧ 1 ≤ (at_ 1).toNat ∧ (at_ 1).toNat ≤ 31)
        ∧ ∀ c, checkFrame cs = some c → frameHeader c = some ⟨at_ 1, at_ 2⟩)

/-- R190: the replies a panel forms are read back, and a page set's message has the length of its layout and ends in its check
value, the sum of the characters before, against which an ACK is compared (R143). -/
def Obligations.SignLinkMessagesReadBack : Prop :=
  ∀ (a page : BitVec 4) (check : Word16) (n : Sign) (ps : PageSet),
    checkReply (encodeAck a check) = some (.ackReceived a check)
      ∧ checkReply (encodeNak a 1#4 page) = some (.nakUnknownTemplate a page)
      ∧ checkReply (encodeNak a 2#4 page) = some (.nakBadFormat a page)
      ∧ (∀ r : BitVec 4, r ≠ 1#4 → r ≠ 2#4 → checkReply (encodeNak a r page) = none)
      ∧ (pageSetMessage n ps).length = messageLength ps
      ∧ ((pageSetMessage n ps).take (messageLength ps - 2)).foldl (fun s b => s + b.setWidth 16) 0#16 = checkValue n ps
      ∧ checkValue n ps
          = joinBytes ((pageSetMessage n ps).getD (messageLength ps - 2) 0#8)
              ((pageSetMessage n ps).getD (messageLength ps - 1) 0#8)
end

