-- ==== Sys2Proof/Laws/State.lean ====
section
/-! SUPPORT. What each named update of the state leaves and sets, one lemma per field per update, and the lemmas of the
per-channel, per-sign and per-gate items. Every one holds by `rfl` or by a case on the index. -/

namespace Sys2Proof.Machine

open Sys2Proof

variable (s : State)

/-! ## Updates of a block -/

@[simp] theorem State.withPending_pending (x : List Instr) : (s.withPending x).pending = x := rfl
@[simp] theorem State.withPending_pins (x : List Instr) : (s.withPending x).pins = s.pins := rfl
@[simp] theorem State.withPending_startup (x : List Instr) : (s.withPending x).startup = s.startup := rfl
@[simp] theorem State.withPending_clock (x : List Instr) : (s.withPending x).clock = s.clock := rfl
@[simp] theorem State.withPending_channels (x : List Instr) : (s.withPending x).channels = s.channels := rfl
@[simp] theorem State.withPending_slide (x : List Instr) : (s.withPending x).slide = s.slide := rfl
@[simp] theorem State.withPending_retained (x : List Instr) : (s.withPending x).retained = s.retained := rfl
@[simp] theorem State.withPending_partialPending (x : List Instr) : (s.withPending x).partialPending = s.partialPending := rfl
@[simp] theorem State.withPending_hazard (x : List Instr) : (s.withPending x).hazard = s.hazard := rfl
@[simp] theorem State.withPending_line (x : List Instr) : (s.withPending x).line = s.line := rfl
@[simp] theorem State.withPending_peers (x : List Instr) : (s.withPending x).peers = s.peers := rfl
@[simp] theorem State.withPending_register (x : List Instr) : (s.withPending x).register = s.register := rfl
@[simp] theorem State.withPending_signs (x : List Instr) : (s.withPending x).signs = s.signs := rfl
@[simp] theorem State.withPending_link (x : List Instr) : (s.withPending x).link = s.link := rfl
@[simp] theorem State.withPending_replyPair (x : List Instr) : (s.withPending x).replyPair = s.replyPair := rfl
@[simp] theorem State.withPending_gates (x : List Instr) : (s.withPending x).gates = s.gates := rfl
@[simp] theorem State.withPending_phase (x : List Instr) : (s.withPending x).phase = s.phase := rfl
@[simp] theorem State.withPending_config (x : List Instr) : (s.withPending x).config = s.config := rfl
@[simp] theorem State.withPending_now (x : List Instr) : (s.withPending x).now = s.now := rfl
@[simp] theorem State.withPending_self : s.withPending s.pending = s := rfl

@[simp] theorem State.withPins_pending (x : Pins) : (s.withPins x).pending = s.pending := rfl
@[simp] theorem State.withPins_pins (x : Pins) : (s.withPins x).pins = x := rfl
@[simp] theorem State.withPins_startup (x : Pins) : (s.withPins x).startup = s.startup := rfl
@[simp] theorem State.withPins_clock (x : Pins) : (s.withPins x).clock = s.clock := rfl
@[simp] theorem State.withPins_channels (x : Pins) : (s.withPins x).channels = s.channels := rfl
@[simp] theorem State.withPins_slide (x : Pins) : (s.withPins x).slide = s.slide := rfl
@[simp] theorem State.withPins_retained (x : Pins) : (s.withPins x).retained = s.retained := rfl
@[simp] theorem State.withPins_partialPending (x : Pins) : (s.withPins x).partialPending = s.partialPending := rfl
@[simp] theorem State.withPins_hazard (x : Pins) : (s.withPins x).hazard = s.hazard := rfl
@[simp] theorem State.withPins_line (x : Pins) : (s.withPins x).line = s.line := rfl
@[simp] theorem State.withPins_peers (x : Pins) : (s.withPins x).peers = s.peers := rfl
@[simp] theorem State.withPins_register (x : Pins) : (s.withPins x).register = s.register := rfl
@[simp] theorem State.withPins_signs (x : Pins) : (s.withPins x).signs = s.signs := rfl
@[simp] theorem State.withPins_link (x : Pins) : (s.withPins x).link = s.link := rfl
@[simp] theorem State.withPins_replyPair (x : Pins) : (s.withPins x).replyPair = s.replyPair := rfl
@[simp] theorem State.withPins_gates (x : Pins) : (s.withPins x).gates = s.gates := rfl
@[simp] theorem State.withPins_phase (x : Pins) : (s.withPins x).phase = s.phase := rfl
@[simp] theorem State.withPins_config (x : Pins) : (s.withPins x).config = s.config := rfl
@[simp] theorem State.withPins_now (x : Pins) : (s.withPins x).now = s.now := rfl
@[simp] theorem State.withPins_self : s.withPins s.pins = s := rfl

@[simp] theorem State.withStartup_pending (x : Startup) : (s.withStartup x).pending = s.pending := rfl
@[simp] theorem State.withStartup_pins (x : Startup) : (s.withStartup x).pins = s.pins := rfl
@[simp] theorem State.withStartup_startup (x : Startup) : (s.withStartup x).startup = x := rfl
@[simp] theorem State.withStartup_clock (x : Startup) : (s.withStartup x).clock = s.clock := rfl
@[simp] theorem State.withStartup_channels (x : Startup) : (s.withStartup x).channels = s.channels := rfl
@[simp] theorem State.withStartup_slide (x : Startup) : (s.withStartup x).slide = s.slide := rfl
@[simp] theorem State.withStartup_retained (x : Startup) : (s.withStartup x).retained = s.retained := rfl
@[simp] theorem State.withStartup_partialPending (x : Startup) : (s.withStartup x).partialPending = s.partialPending := rfl
@[simp] theorem State.withStartup_hazard (x : Startup) : (s.withStartup x).hazard = s.hazard := rfl
@[simp] theorem State.withStartup_line (x : Startup) : (s.withStartup x).line = s.line := rfl
@[simp] theorem State.withStartup_peers (x : Startup) : (s.withStartup x).peers = s.peers := rfl
@[simp] theorem State.withStartup_register (x : Startup) : (s.withStartup x).register = s.register := rfl
@[simp] theorem State.withStartup_signs (x : Startup) : (s.withStartup x).signs = s.signs := rfl
@[simp] theorem State.withStartup_link (x : Startup) : (s.withStartup x).link = s.link := rfl
@[simp] theorem State.withStartup_replyPair (x : Startup) : (s.withStartup x).replyPair = s.replyPair := rfl
@[simp] theorem State.withStartup_gates (x : Startup) : (s.withStartup x).gates = s.gates := rfl
@[simp] theorem State.withStartup_phase (x : Startup) : (s.withStartup x).phase = x.phase := rfl
@[simp] theorem State.withStartup_config (x : Startup) : (s.withStartup x).config = x.config := rfl
@[simp] theorem State.withStartup_now (x : Startup) : (s.withStartup x).now = s.now := rfl
@[simp] theorem State.withStartup_self : s.withStartup s.startup = s := rfl

@[simp] theorem State.withClock_pending (x : Clock) : (s.withClock x).pending = s.pending := rfl
@[simp] theorem State.withClock_pins (x : Clock) : (s.withClock x).pins = s.pins := rfl
@[simp] theorem State.withClock_startup (x : Clock) : (s.withClock x).startup = s.startup := rfl
@[simp] theorem State.withClock_clock (x : Clock) : (s.withClock x).clock = x := rfl
@[simp] theorem State.withClock_channels (x : Clock) : (s.withClock x).channels = s.channels := rfl
@[simp] theorem State.withClock_slide (x : Clock) : (s.withClock x).slide = s.slide := rfl
@[simp] theorem State.withClock_retained (x : Clock) : (s.withClock x).retained = s.retained := rfl
@[simp] theorem State.withClock_partialPending (x : Clock) : (s.withClock x).partialPending = s.partialPending := rfl
@[simp] theorem State.withClock_hazard (x : Clock) : (s.withClock x).hazard = s.hazard := rfl
@[simp] theorem State.withClock_line (x : Clock) : (s.withClock x).line = s.line := rfl
@[simp] theorem State.withClock_peers (x : Clock) : (s.withClock x).peers = s.peers := rfl
@[simp] theorem State.withClock_register (x : Clock) : (s.withClock x).register = s.register := rfl
@[simp] theorem State.withClock_signs (x : Clock) : (s.withClock x).signs = s.signs := rfl
@[simp] theorem State.withClock_link (x : Clock) : (s.withClock x).link = s.link := rfl
@[simp] theorem State.withClock_replyPair (x : Clock) : (s.withClock x).replyPair = s.replyPair := rfl
@[simp] theorem State.withClock_gates (x : Clock) : (s.withClock x).gates = s.gates := rfl
@[simp] theorem State.withClock_phase (x : Clock) : (s.withClock x).phase = s.phase := rfl
@[simp] theorem State.withClock_config (x : Clock) : (s.withClock x).config = s.config := rfl
@[simp] theorem State.withClock_now (x : Clock) : (s.withClock x).now = x.time := rfl
@[simp] theorem State.withClock_self : s.withClock s.clock = s := rfl

@[simp] theorem State.withChannels_pending (x : PerChan Channel) : (s.withChannels x).pending = s.pending := rfl
@[simp] theorem State.withChannels_pins (x : PerChan Channel) : (s.withChannels x).pins = s.pins := rfl
@[simp] theorem State.withChannels_startup (x : PerChan Channel) : (s.withChannels x).startup = s.startup := rfl
@[simp] theorem State.withChannels_clock (x : PerChan Channel) : (s.withChannels x).clock = s.clock := rfl
@[simp] theorem State.withChannels_channels (x : PerChan Channel) : (s.withChannels x).channels = x := rfl
@[simp] theorem State.withChannels_slide (x : PerChan Channel) : (s.withChannels x).slide = s.slide := rfl
@[simp] theorem State.withChannels_retained (x : PerChan Channel) : (s.withChannels x).retained = s.retained := rfl
@[simp] theorem State.withChannels_partialPending (x : PerChan Channel) : (s.withChannels x).partialPending = s.partialPending := rfl
@[simp] theorem State.withChannels_hazard (x : PerChan Channel) : (s.withChannels x).hazard = s.hazard := rfl
@[simp] theorem State.withChannels_line (x : PerChan Channel) : (s.withChannels x).line = s.line := rfl
@[simp] theorem State.withChannels_peers (x : PerChan Channel) : (s.withChannels x).peers = s.peers := rfl
@[simp] theorem State.withChannels_register (x : PerChan Channel) : (s.withChannels x).register = s.register := rfl
@[simp] theorem State.withChannels_signs (x : PerChan Channel) : (s.withChannels x).signs = s.signs := rfl
@[simp] theorem State.withChannels_link (x : PerChan Channel) : (s.withChannels x).link = s.link := rfl
@[simp] theorem State.withChannels_replyPair (x : PerChan Channel) : (s.withChannels x).replyPair = s.replyPair := rfl
@[simp] theorem State.withChannels_gates (x : PerChan Channel) : (s.withChannels x).gates = s.gates := rfl
@[simp] theorem State.withChannels_phase (x : PerChan Channel) : (s.withChannels x).phase = s.phase := rfl
@[simp] theorem State.withChannels_config (x : PerChan Channel) : (s.withChannels x).config = s.config := rfl
@[simp] theorem State.withChannels_now (x : PerChan Channel) : (s.withChannels x).now = s.now := rfl
@[simp] theorem State.withChannels_self : s.withChannels s.channels = s := rfl

@[simp] theorem State.withSlide_pending (x : Slide) : (s.withSlide x).pending = s.pending := rfl
@[simp] theorem State.withSlide_pins (x : Slide) : (s.withSlide x).pins = s.pins := rfl
@[simp] theorem State.withSlide_startup (x : Slide) : (s.withSlide x).startup = s.startup := rfl
@[simp] theorem State.withSlide_clock (x : Slide) : (s.withSlide x).clock = s.clock := rfl
@[simp] theorem State.withSlide_channels (x : Slide) : (s.withSlide x).channels = s.channels := rfl
@[simp] theorem State.withSlide_slide (x : Slide) : (s.withSlide x).slide = x := rfl
@[simp] theorem State.withSlide_retained (x : Slide) : (s.withSlide x).retained = s.retained := rfl
@[simp] theorem State.withSlide_partialPending (x : Slide) : (s.withSlide x).partialPending = s.partialPending := rfl
@[simp] theorem State.withSlide_hazard (x : Slide) : (s.withSlide x).hazard = s.hazard := rfl
@[simp] theorem State.withSlide_line (x : Slide) : (s.withSlide x).line = s.line := rfl
@[simp] theorem State.withSlide_peers (x : Slide) : (s.withSlide x).peers = s.peers := rfl
@[simp] theorem State.withSlide_register (x : Slide) : (s.withSlide x).register = s.register := rfl
@[simp] theorem State.withSlide_signs (x : Slide) : (s.withSlide x).signs = s.signs := rfl
@[simp] theorem State.withSlide_link (x : Slide) : (s.withSlide x).link = s.link := rfl
@[simp] theorem State.withSlide_replyPair (x : Slide) : (s.withSlide x).replyPair = s.replyPair := rfl
@[simp] theorem State.withSlide_gates (x : Slide) : (s.withSlide x).gates = s.gates := rfl
@[simp] theorem State.withSlide_phase (x : Slide) : (s.withSlide x).phase = s.phase := rfl
@[simp] theorem State.withSlide_config (x : Slide) : (s.withSlide x).config = s.config := rfl
@[simp] theorem State.withSlide_now (x : Slide) : (s.withSlide x).now = s.now := rfl
@[simp] theorem State.withSlide_self : s.withSlide s.slide = s := rfl

@[simp] theorem State.withRetained_pending (x : Retained) : (s.withRetained x).pending = s.pending := rfl
@[simp] theorem State.withRetained_pins (x : Retained) : (s.withRetained x).pins = s.pins := rfl
@[simp] theorem State.withRetained_startup (x : Retained) : (s.withRetained x).startup = s.startup := rfl
@[simp] theorem State.withRetained_clock (x : Retained) : (s.withRetained x).clock = s.clock := rfl
@[simp] theorem State.withRetained_channels (x : Retained) : (s.withRetained x).channels = s.channels := rfl
@[simp] theorem State.withRetained_slide (x : Retained) : (s.withRetained x).slide = s.slide := rfl
@[simp] theorem State.withRetained_retained (x : Retained) : (s.withRetained x).retained = x := rfl
@[simp] theorem State.withRetained_partialPending (x : Retained) : (s.withRetained x).partialPending = s.partialPending := rfl
@[simp] theorem State.withRetained_hazard (x : Retained) : (s.withRetained x).hazard = s.hazard := rfl
@[simp] theorem State.withRetained_line (x : Retained) : (s.withRetained x).line = s.line := rfl
@[simp] theorem State.withRetained_peers (x : Retained) : (s.withRetained x).peers = s.peers := rfl
@[simp] theorem State.withRetained_register (x : Retained) : (s.withRetained x).register = s.register := rfl
@[simp] theorem State.withRetained_signs (x : Retained) : (s.withRetained x).signs = s.signs := rfl
@[simp] theorem State.withRetained_link (x : Retained) : (s.withRetained x).link = s.link := rfl
@[simp] theorem State.withRetained_replyPair (x : Retained) : (s.withRetained x).replyPair = s.replyPair := rfl
@[simp] theorem State.withRetained_gates (x : Retained) : (s.withRetained x).gates = s.gates := rfl
@[simp] theorem State.withRetained_phase (x : Retained) : (s.withRetained x).phase = s.phase := rfl
@[simp] theorem State.withRetained_config (x : Retained) : (s.withRetained x).config = s.config := rfl
@[simp] theorem State.withRetained_now (x : Retained) : (s.withRetained x).now = s.now := rfl
@[simp] theorem State.withRetained_self : s.withRetained s.retained = s := rfl

@[simp] theorem State.withPartialPending_pending (x : Bool) : (s.withPartialPending x).pending = s.pending := rfl
@[simp] theorem State.withPartialPending_pins (x : Bool) : (s.withPartialPending x).pins = s.pins := rfl
@[simp] theorem State.withPartialPending_startup (x : Bool) : (s.withPartialPending x).startup = s.startup := rfl
@[simp] theorem State.withPartialPending_clock (x : Bool) : (s.withPartialPending x).clock = s.clock := rfl
@[simp] theorem State.withPartialPending_channels (x : Bool) : (s.withPartialPending x).channels = s.channels := rfl
@[simp] theorem State.withPartialPending_slide (x : Bool) : (s.withPartialPending x).slide = s.slide := rfl
@[simp] theorem State.withPartialPending_retained (x : Bool) : (s.withPartialPending x).retained = s.retained := rfl
@[simp] theorem State.withPartialPending_partialPending (x : Bool) : (s.withPartialPending x).partialPending = x := rfl
@[simp] theorem State.withPartialPending_hazard (x : Bool) : (s.withPartialPending x).hazard = s.hazard := rfl
@[simp] theorem State.withPartialPending_line (x : Bool) : (s.withPartialPending x).line = s.line := rfl
@[simp] theorem State.withPartialPending_peers (x : Bool) : (s.withPartialPending x).peers = s.peers := rfl
@[simp] theorem State.withPartialPending_register (x : Bool) : (s.withPartialPending x).register = s.register := rfl
@[simp] theorem State.withPartialPending_signs (x : Bool) : (s.withPartialPending x).signs = s.signs := rfl
@[simp] theorem State.withPartialPending_link (x : Bool) : (s.withPartialPending x).link = s.link := rfl
@[simp] theorem State.withPartialPending_replyPair (x : Bool) : (s.withPartialPending x).replyPair = s.replyPair := rfl
@[simp] theorem State.withPartialPending_gates (x : Bool) : (s.withPartialPending x).gates = s.gates := rfl
@[simp] theorem State.withPartialPending_phase (x : Bool) : (s.withPartialPending x).phase = s.phase := rfl
@[simp] theorem State.withPartialPending_config (x : Bool) : (s.withPartialPending x).config = s.config := rfl
@[simp] theorem State.withPartialPending_now (x : Bool) : (s.withPartialPending x).now = s.now := rfl
@[simp] theorem State.withPartialPending_self : s.withPartialPending s.partialPending = s := rfl

@[simp] theorem State.withHazard_pending (x : Hazard) : (s.withHazard x).pending = s.pending := rfl
@[simp] theorem State.withHazard_pins (x : Hazard) : (s.withHazard x).pins = s.pins := rfl
@[simp] theorem State.withHazard_startup (x : Hazard) : (s.withHazard x).startup = s.startup := rfl
@[simp] theorem State.withHazard_clock (x : Hazard) : (s.withHazard x).clock = s.clock := rfl
@[simp] theorem State.withHazard_channels (x : Hazard) : (s.withHazard x).channels = s.channels := rfl
@[simp] theorem State.withHazard_slide (x : Hazard) : (s.withHazard x).slide = s.slide := rfl
@[simp] theorem State.withHazard_retained (x : Hazard) : (s.withHazard x).retained = s.retained := rfl
@[simp] theorem State.withHazard_partialPending (x : Hazard) : (s.withHazard x).partialPending = s.partialPending := rfl
@[simp] theorem State.withHazard_hazard (x : Hazard) : (s.withHazard x).hazard = x := rfl
@[simp] theorem State.withHazard_line (x : Hazard) : (s.withHazard x).line = s.line := rfl
@[simp] theorem State.withHazard_peers (x : Hazard) : (s.withHazard x).peers = s.peers := rfl
@[simp] theorem State.withHazard_register (x : Hazard) : (s.withHazard x).register = s.register := rfl
@[simp] theorem State.withHazard_signs (x : Hazard) : (s.withHazard x).signs = s.signs := rfl
@[simp] theorem State.withHazard_link (x : Hazard) : (s.withHazard x).link = s.link := rfl
@[simp] theorem State.withHazard_replyPair (x : Hazard) : (s.withHazard x).replyPair = s.replyPair := rfl
@[simp] theorem State.withHazard_gates (x : Hazard) : (s.withHazard x).gates = s.gates := rfl
@[simp] theorem State.withHazard_phase (x : Hazard) : (s.withHazard x).phase = s.phase := rfl
@[simp] theorem State.withHazard_config (x : Hazard) : (s.withHazard x).config = s.config := rfl
@[simp] theorem State.withHazard_now (x : Hazard) : (s.withHazard x).now = s.now := rfl
@[simp] theorem State.withHazard_self : s.withHazard s.hazard = s := rfl

@[simp] theorem State.withLine_pending (x : Line) : (s.withLine x).pending = s.pending := rfl
@[simp] theorem State.withLine_pins (x : Line) : (s.withLine x).pins = s.pins := rfl
@[simp] theorem State.withLine_startup (x : Line) : (s.withLine x).startup = s.startup := rfl
@[simp] theorem State.withLine_clock (x : Line) : (s.withLine x).clock = s.clock := rfl
@[simp] theorem State.withLine_channels (x : Line) : (s.withLine x).channels = s.channels := rfl
@[simp] theorem State.withLine_slide (x : Line) : (s.withLine x).slide = s.slide := rfl
@[simp] theorem State.withLine_retained (x : Line) : (s.withLine x).retained = s.retained := rfl
@[simp] theorem State.withLine_partialPending (x : Line) : (s.withLine x).partialPending = s.partialPending := rfl
@[simp] theorem State.withLine_hazard (x : Line) : (s.withLine x).hazard = s.hazard := rfl
@[simp] theorem State.withLine_line (x : Line) : (s.withLine x).line = x := rfl
@[simp] theorem State.withLine_peers (x : Line) : (s.withLine x).peers = s.peers := rfl
@[simp] theorem State.withLine_register (x : Line) : (s.withLine x).register = s.register := rfl
@[simp] theorem State.withLine_signs (x : Line) : (s.withLine x).signs = s.signs := rfl
@[simp] theorem State.withLine_link (x : Line) : (s.withLine x).link = s.link := rfl
@[simp] theorem State.withLine_replyPair (x : Line) : (s.withLine x).replyPair = s.replyPair := rfl
@[simp] theorem State.withLine_gates (x : Line) : (s.withLine x).gates = s.gates := rfl
@[simp] theorem State.withLine_phase (x : Line) : (s.withLine x).phase = s.phase := rfl
@[simp] theorem State.withLine_config (x : Line) : (s.withLine x).config = s.config := rfl
@[simp] theorem State.withLine_now (x : Line) : (s.withLine x).now = s.now := rfl
@[simp] theorem State.withLine_self : s.withLine s.line = s := rfl

@[simp] theorem State.withPeers_pending (x : PeerTable) : (s.withPeers x).pending = s.pending := rfl
@[simp] theorem State.withPeers_pins (x : PeerTable) : (s.withPeers x).pins = s.pins := rfl
@[simp] theorem State.withPeers_startup (x : PeerTable) : (s.withPeers x).startup = s.startup := rfl
@[simp] theorem State.withPeers_clock (x : PeerTable) : (s.withPeers x).clock = s.clock := rfl
@[simp] theorem State.withPeers_channels (x : PeerTable) : (s.withPeers x).channels = s.channels := rfl
@[simp] theorem State.withPeers_slide (x : PeerTable) : (s.withPeers x).slide = s.slide := rfl
@[simp] theorem State.withPeers_retained (x : PeerTable) : (s.withPeers x).retained = s.retained := rfl
@[simp] theorem State.withPeers_partialPending (x : PeerTable) : (s.withPeers x).partialPending = s.partialPending := rfl
@[simp] theorem State.withPeers_hazard (x : PeerTable) : (s.withPeers x).hazard = s.hazard := rfl
@[simp] theorem State.withPeers_line (x : PeerTable) : (s.withPeers x).line = s.line := rfl
@[simp] theorem State.withPeers_peers (x : PeerTable) : (s.withPeers x).peers = x := rfl
@[simp] theorem State.withPeers_register (x : PeerTable) : (s.withPeers x).register = s.register := rfl
@[simp] theorem State.withPeers_signs (x : PeerTable) : (s.withPeers x).signs = s.signs := rfl
@[simp] theorem State.withPeers_link (x : PeerTable) : (s.withPeers x).link = s.link := rfl
@[simp] theorem State.withPeers_replyPair (x : PeerTable) : (s.withPeers x).replyPair = s.replyPair := rfl
@[simp] theorem State.withPeers_gates (x : PeerTable) : (s.withPeers x).gates = s.gates := rfl
@[simp] theorem State.withPeers_phase (x : PeerTable) : (s.withPeers x).phase = s.phase := rfl
@[simp] theorem State.withPeers_config (x : PeerTable) : (s.withPeers x).config = s.config := rfl
@[simp] theorem State.withPeers_now (x : PeerTable) : (s.withPeers x).now = s.now := rfl
@[simp] theorem State.withPeers_self : s.withPeers s.peers = s := rfl

@[simp] theorem State.withRegister_pending (x : Register) : (s.withRegister x).pending = s.pending := rfl
@[simp] theorem State.withRegister_pins (x : Register) : (s.withRegister x).pins = s.pins := rfl
@[simp] theorem State.withRegister_startup (x : Register) : (s.withRegister x).startup = s.startup := rfl
@[simp] theorem State.withRegister_clock (x : Register) : (s.withRegister x).clock = s.clock := rfl
@[simp] theorem State.withRegister_channels (x : Register) : (s.withRegister x).channels = s.channels := rfl
@[simp] theorem State.withRegister_slide (x : Register) : (s.withRegister x).slide = s.slide := rfl
@[simp] theorem State.withRegister_retained (x : Register) : (s.withRegister x).retained = s.retained := rfl
@[simp] theorem State.withRegister_partialPending (x : Register) : (s.withRegister x).partialPending = s.partialPending := rfl
@[simp] theorem State.withRegister_hazard (x : Register) : (s.withRegister x).hazard = s.hazard := rfl
@[simp] theorem State.withRegister_line (x : Register) : (s.withRegister x).line = s.line := rfl
@[simp] theorem State.withRegister_peers (x : Register) : (s.withRegister x).peers = s.peers := rfl
@[simp] theorem State.withRegister_register (x : Register) : (s.withRegister x).register = x := rfl
@[simp] theorem State.withRegister_signs (x : Register) : (s.withRegister x).signs = s.signs := rfl
@[simp] theorem State.withRegister_link (x : Register) : (s.withRegister x).link = s.link := rfl
@[simp] theorem State.withRegister_replyPair (x : Register) : (s.withRegister x).replyPair = s.replyPair := rfl
@[simp] theorem State.withRegister_gates (x : Register) : (s.withRegister x).gates = s.gates := rfl
@[simp] theorem State.withRegister_phase (x : Register) : (s.withRegister x).phase = s.phase := rfl
@[simp] theorem State.withRegister_config (x : Register) : (s.withRegister x).config = s.config := rfl
@[simp] theorem State.withRegister_now (x : Register) : (s.withRegister x).now = s.now := rfl
@[simp] theorem State.withRegister_self : s.withRegister s.register = s := rfl

@[simp] theorem State.withSigns_pending (x : PerSign SignState) : (s.withSigns x).pending = s.pending := rfl
@[simp] theorem State.withSigns_pins (x : PerSign SignState) : (s.withSigns x).pins = s.pins := rfl
@[simp] theorem State.withSigns_startup (x : PerSign SignState) : (s.withSigns x).startup = s.startup := rfl
@[simp] theorem State.withSigns_clock (x : PerSign SignState) : (s.withSigns x).clock = s.clock := rfl
@[simp] theorem State.withSigns_channels (x : PerSign SignState) : (s.withSigns x).channels = s.channels := rfl
@[simp] theorem State.withSigns_slide (x : PerSign SignState) : (s.withSigns x).slide = s.slide := rfl
@[simp] theorem State.withSigns_retained (x : PerSign SignState) : (s.withSigns x).retained = s.retained := rfl
@[simp] theorem State.withSigns_partialPending (x : PerSign SignState) : (s.withSigns x).partialPending = s.partialPending := rfl
@[simp] theorem State.withSigns_hazard (x : PerSign SignState) : (s.withSigns x).hazard = s.hazard := rfl
@[simp] theorem State.withSigns_line (x : PerSign SignState) : (s.withSigns x).line = s.line := rfl
@[simp] theorem State.withSigns_peers (x : PerSign SignState) : (s.withSigns x).peers = s.peers := rfl
@[simp] theorem State.withSigns_register (x : PerSign SignState) : (s.withSigns x).register = s.register := rfl
@[simp] theorem State.withSigns_signs (x : PerSign SignState) : (s.withSigns x).signs = x := rfl
@[simp] theorem State.withSigns_link (x : PerSign SignState) : (s.withSigns x).link = s.link := rfl
@[simp] theorem State.withSigns_replyPair (x : PerSign SignState) : (s.withSigns x).replyPair = s.replyPair := rfl
@[simp] theorem State.withSigns_gates (x : PerSign SignState) : (s.withSigns x).gates = s.gates := rfl
@[simp] theorem State.withSigns_phase (x : PerSign SignState) : (s.withSigns x).phase = s.phase := rfl
@[simp] theorem State.withSigns_config (x : PerSign SignState) : (s.withSigns x).config = s.config := rfl
@[simp] theorem State.withSigns_now (x : PerSign SignState) : (s.withSigns x).now = s.now := rfl
@[simp] theorem State.withSigns_self : s.withSigns s.signs = s := rfl

@[simp] theorem State.withLink_pending (x : Link) : (s.withLink x).pending = s.pending := rfl
@[simp] theorem State.withLink_pins (x : Link) : (s.withLink x).pins = s.pins := rfl
@[simp] theorem State.withLink_startup (x : Link) : (s.withLink x).startup = s.startup := rfl
@[simp] theorem State.withLink_clock (x : Link) : (s.withLink x).clock = s.clock := rfl
@[simp] theorem State.withLink_channels (x : Link) : (s.withLink x).channels = s.channels := rfl
@[simp] theorem State.withLink_slide (x : Link) : (s.withLink x).slide = s.slide := rfl
@[simp] theorem State.withLink_retained (x : Link) : (s.withLink x).retained = s.retained := rfl
@[simp] theorem State.withLink_partialPending (x : Link) : (s.withLink x).partialPending = s.partialPending := rfl
@[simp] theorem State.withLink_hazard (x : Link) : (s.withLink x).hazard = s.hazard := rfl
@[simp] theorem State.withLink_line (x : Link) : (s.withLink x).line = s.line := rfl
@[simp] theorem State.withLink_peers (x : Link) : (s.withLink x).peers = s.peers := rfl
@[simp] theorem State.withLink_register (x : Link) : (s.withLink x).register = s.register := rfl
@[simp] theorem State.withLink_signs (x : Link) : (s.withLink x).signs = s.signs := rfl
@[simp] theorem State.withLink_link (x : Link) : (s.withLink x).link = x := rfl
@[simp] theorem State.withLink_replyPair (x : Link) : (s.withLink x).replyPair = s.replyPair := rfl
@[simp] theorem State.withLink_gates (x : Link) : (s.withLink x).gates = s.gates := rfl
@[simp] theorem State.withLink_phase (x : Link) : (s.withLink x).phase = s.phase := rfl
@[simp] theorem State.withLink_config (x : Link) : (s.withLink x).config = s.config := rfl
@[simp] theorem State.withLink_now (x : Link) : (s.withLink x).now = s.now := rfl
@[simp] theorem State.withLink_self : s.withLink s.link = s := rfl

@[simp] theorem State.withReplyPair_pending (x : ReplyPair) : (s.withReplyPair x).pending = s.pending := rfl
@[simp] theorem State.withReplyPair_pins (x : ReplyPair) : (s.withReplyPair x).pins = s.pins := rfl
@[simp] theorem State.withReplyPair_startup (x : ReplyPair) : (s.withReplyPair x).startup = s.startup := rfl
@[simp] theorem State.withReplyPair_clock (x : ReplyPair) : (s.withReplyPair x).clock = s.clock := rfl
@[simp] theorem State.withReplyPair_channels (x : ReplyPair) : (s.withReplyPair x).channels = s.channels := rfl
@[simp] theorem State.withReplyPair_slide (x : ReplyPair) : (s.withReplyPair x).slide = s.slide := rfl
@[simp] theorem State.withReplyPair_retained (x : ReplyPair) : (s.withReplyPair x).retained = s.retained := rfl
@[simp] theorem State.withReplyPair_partialPending (x : ReplyPair) : (s.withReplyPair x).partialPending = s.partialPending := rfl
@[simp] theorem State.withReplyPair_hazard (x : ReplyPair) : (s.withReplyPair x).hazard = s.hazard := rfl
@[simp] theorem State.withReplyPair_line (x : ReplyPair) : (s.withReplyPair x).line = s.line := rfl
@[simp] theorem State.withReplyPair_peers (x : ReplyPair) : (s.withReplyPair x).peers = s.peers := rfl
@[simp] theorem State.withReplyPair_register (x : ReplyPair) : (s.withReplyPair x).register = s.register := rfl
@[simp] theorem State.withReplyPair_signs (x : ReplyPair) : (s.withReplyPair x).signs = s.signs := rfl
@[simp] theorem State.withReplyPair_link (x : ReplyPair) : (s.withReplyPair x).link = s.link := rfl
@[simp] theorem State.withReplyPair_replyPair (x : ReplyPair) : (s.withReplyPair x).replyPair = x := rfl
@[simp] theorem State.withReplyPair_gates (x : ReplyPair) : (s.withReplyPair x).gates = s.gates := rfl
@[simp] theorem State.withReplyPair_phase (x : ReplyPair) : (s.withReplyPair x).phase = s.phase := rfl
@[simp] theorem State.withReplyPair_config (x : ReplyPair) : (s.withReplyPair x).config = s.config := rfl
@[simp] theorem State.withReplyPair_now (x : ReplyPair) : (s.withReplyPair x).now = s.now := rfl
@[simp] theorem State.withReplyPair_self : s.withReplyPair s.replyPair = s := rfl

@[simp] theorem State.withGates_pending (x : Gates) : (s.withGates x).pending = s.pending := rfl
@[simp] theorem State.withGates_pins (x : Gates) : (s.withGates x).pins = s.pins := rfl
@[simp] theorem State.withGates_startup (x : Gates) : (s.withGates x).startup = s.startup := rfl
@[simp] theorem State.withGates_clock (x : Gates) : (s.withGates x).clock = s.clock := rfl
@[simp] theorem State.withGates_channels (x : Gates) : (s.withGates x).channels = s.channels := rfl
@[simp] theorem State.withGates_slide (x : Gates) : (s.withGates x).slide = s.slide := rfl
@[simp] theorem State.withGates_retained (x : Gates) : (s.withGates x).retained = s.retained := rfl
@[simp] theorem State.withGates_partialPending (x : Gates) : (s.withGates x).partialPending = s.partialPending := rfl
@[simp] theorem State.withGates_hazard (x : Gates) : (s.withGates x).hazard = s.hazard := rfl
@[simp] theorem State.withGates_line (x : Gates) : (s.withGates x).line = s.line := rfl
@[simp] theorem State.withGates_peers (x : Gates) : (s.withGates x).peers = s.peers := rfl
@[simp] theorem State.withGates_register (x : Gates) : (s.withGates x).register = s.register := rfl
@[simp] theorem State.withGates_signs (x : Gates) : (s.withGates x).signs = s.signs := rfl
@[simp] theorem State.withGates_link (x : Gates) : (s.withGates x).link = s.link := rfl
@[simp] theorem State.withGates_replyPair (x : Gates) : (s.withGates x).replyPair = s.replyPair := rfl
@[simp] theorem State.withGates_gates (x : Gates) : (s.withGates x).gates = x := rfl
@[simp] theorem State.withGates_phase (x : Gates) : (s.withGates x).phase = s.phase := rfl
@[simp] theorem State.withGates_config (x : Gates) : (s.withGates x).config = s.config := rfl
@[simp] theorem State.withGates_now (x : Gates) : (s.withGates x).now = s.now := rfl
@[simp] theorem State.withGates_self : s.withGates s.gates = s := rfl

/-! ## Updates of one item of a block -/

@[simp] theorem State.setChannel_pending (c : Chan) (x : Channel) :
    (s.setChannel c x).pending = s.pending := rfl
@[simp] theorem State.setChannel_pins (c : Chan) (x : Channel) :
    (s.setChannel c x).pins = s.pins := rfl
@[simp] theorem State.setChannel_startup (c : Chan) (x : Channel) :
    (s.setChannel c x).startup = s.startup := rfl
@[simp] theorem State.setChannel_clock (c : Chan) (x : Channel) :
    (s.setChannel c x).clock = s.clock := rfl
@[simp] theorem State.setChannel_channels (c : Chan) (x : Channel) :
    (s.setChannel c x).channels = s.channels.set c x := rfl
@[simp] theorem State.setChannel_slide (c : Chan) (x : Channel) :
    (s.setChannel c x).slide = s.slide := rfl
@[simp] theorem State.setChannel_retained (c : Chan) (x : Channel) :
    (s.setChannel c x).retained = s.retained := rfl
@[simp] theorem State.setChannel_partialPending (c : Chan) (x : Channel) :
    (s.setChannel c x).partialPending = s.partialPending := rfl
@[simp] theorem State.setChannel_hazard (c : Chan) (x : Channel) :
    (s.setChannel c x).hazard = s.hazard := rfl
@[simp] theorem State.setChannel_line (c : Chan) (x : Channel) :
    (s.setChannel c x).line = s.line := rfl
@[simp] theorem State.setChannel_peers (c : Chan) (x : Channel) :
    (s.setChannel c x).peers = s.peers := rfl
@[simp] theorem State.setChannel_register (c : Chan) (x : Channel) :
    (s.setChannel c x).register = s.register := rfl
@[simp] theorem State.setChannel_signs (c : Chan) (x : Channel) :
    (s.setChannel c x).signs = s.signs := rfl
@[simp] theorem State.setChannel_link (c : Chan) (x : Channel) :
    (s.setChannel c x).link = s.link := rfl
@[simp] theorem State.setChannel_replyPair (c : Chan) (x : Channel) :
    (s.setChannel c x).replyPair = s.replyPair := rfl
@[simp] theorem State.setChannel_gates (c : Chan) (x : Channel) :
    (s.setChannel c x).gates = s.gates := rfl
@[simp] theorem State.setChannel_phase (c : Chan) (x : Channel) :
    (s.setChannel c x).phase = s.phase := rfl
@[simp] theorem State.setChannel_config (c : Chan) (x : Channel) :
    (s.setChannel c x).config = s.config := rfl
@[simp] theorem State.setChannel_now (c : Chan) (x : Channel) :
    (s.setChannel c x).now = s.now := rfl

@[simp] theorem State.setSign_pending (n : Sign) (x : SignState) :
    (s.setSign n x).pending = s.pending := rfl
@[simp] theorem State.setSign_pins (n : Sign) (x : SignState) :
    (s.setSign n x).pins = s.pins := rfl
@[simp] theorem State.setSign_startup (n : Sign) (x : SignState) :
    (s.setSign n x).startup = s.startup := rfl
@[simp] theorem State.setSign_clock (n : Sign) (x : SignState) :
    (s.setSign n x).clock = s.clock := rfl
@[simp] theorem State.setSign_channels (n : Sign) (x : SignState) :
    (s.setSign n x).channels = s.channels := rfl
@[simp] theorem State.setSign_slide (n : Sign) (x : SignState) :
    (s.setSign n x).slide = s.slide := rfl
@[simp] theorem State.setSign_retained (n : Sign) (x : SignState) :
    (s.setSign n x).retained = s.retained := rfl
@[simp] theorem State.setSign_partialPending (n : Sign) (x : SignState) :
    (s.setSign n x).partialPending = s.partialPending := rfl
@[simp] theorem State.setSign_hazard (n : Sign) (x : SignState) :
    (s.setSign n x).hazard = s.hazard := rfl
@[simp] theorem State.setSign_line (n : Sign) (x : SignState) :
    (s.setSign n x).line = s.line := rfl
@[simp] theorem State.setSign_peers (n : Sign) (x : SignState) :
    (s.setSign n x).peers = s.peers := rfl
@[simp] theorem State.setSign_register (n : Sign) (x : SignState) :
    (s.setSign n x).register = s.register := rfl
@[simp] theorem State.setSign_signs (n : Sign) (x : SignState) :
    (s.setSign n x).signs = s.signs.set n x := rfl
@[simp] theorem State.setSign_link (n : Sign) (x : SignState) :
    (s.setSign n x).link = s.link := rfl
@[simp] theorem State.setSign_replyPair (n : Sign) (x : SignState) :
    (s.setSign n x).replyPair = s.replyPair := rfl
@[simp] theorem State.setSign_gates (n : Sign) (x : SignState) :
    (s.setSign n x).gates = s.gates := rfl
@[simp] theorem State.setSign_phase (n : Sign) (x : SignState) :
    (s.setSign n x).phase = s.phase := rfl
@[simp] theorem State.setSign_config (n : Sign) (x : SignState) :
    (s.setSign n x).config = s.config := rfl
@[simp] theorem State.setSign_now (n : Sign) (x : SignState) :
    (s.setSign n x).now = s.now := rfl

@[simp] theorem State.setSignLink_pending (n : Sign) (x : SignLink) :
    (s.setSignLink n x).pending = s.pending := rfl
@[simp] theorem State.setSignLink_pins (n : Sign) (x : SignLink) :
    (s.setSignLink n x).pins = s.pins := rfl
@[simp] theorem State.setSignLink_startup (n : Sign) (x : SignLink) :
    (s.setSignLink n x).startup = s.startup := rfl
@[simp] theorem State.setSignLink_clock (n : Sign) (x : SignLink) :
    (s.setSignLink n x).clock = s.clock := rfl
@[simp] theorem State.setSignLink_channels (n : Sign) (x : SignLink) :
    (s.setSignLink n x).channels = s.channels := rfl
@[simp] theorem State.setSignLink_slide (n : Sign) (x : SignLink) :
    (s.setSignLink n x).slide = s.slide := rfl
@[simp] theorem State.setSignLink_retained (n : Sign) (x : SignLink) :
    (s.setSignLink n x).retained = s.retained := rfl
@[simp] theorem State.setSignLink_partialPending (n : Sign) (x : SignLink) :
    (s.setSignLink n x).partialPending = s.partialPending := rfl
@[simp] theorem State.setSignLink_hazard (n : Sign) (x : SignLink) :
    (s.setSignLink n x).hazard = s.hazard := rfl
@[simp] theorem State.setSignLink_line (n : Sign) (x : SignLink) :
    (s.setSignLink n x).line = s.line := rfl
@[simp] theorem State.setSignLink_peers (n : Sign) (x : SignLink) :
    (s.setSignLink n x).peers = s.peers := rfl
@[simp] theorem State.setSignLink_register (n : Sign) (x : SignLink) :
    (s.setSignLink n x).register = s.register := rfl
@[simp] theorem State.setSignLink_signs (n : Sign) (x : SignLink) :
    (s.setSignLink n x).signs = s.signs := rfl
@[simp] theorem State.setSignLink_link (n : Sign) (x : SignLink) :
    (s.setSignLink n x).link = { s.link with signs := s.link.signs.set n x } := rfl
@[simp] theorem State.setSignLink_replyPair (n : Sign) (x : SignLink) :
    (s.setSignLink n x).replyPair = s.replyPair := rfl
@[simp] theorem State.setSignLink_gates (n : Sign) (x : SignLink) :
    (s.setSignLink n x).gates = s.gates := rfl
@[simp] theorem State.setSignLink_phase (n : Sign) (x : SignLink) :
    (s.setSignLink n x).phase = s.phase := rfl
@[simp] theorem State.setSignLink_config (n : Sign) (x : SignLink) :
    (s.setSignLink n x).config = s.config := rfl
@[simp] theorem State.setSignLink_now (n : Sign) (x : SignLink) :
    (s.setSignLink n x).now = s.now := rfl

@[simp] theorem State.setGate_pending (g : Gate) (x : GateUnit) :
    (s.setGate g x).pending = s.pending := rfl
@[simp] theorem State.setGate_pins (g : Gate) (x : GateUnit) :
    (s.setGate g x).pins = s.pins := rfl
@[simp] theorem State.setGate_startup (g : Gate) (x : GateUnit) :
    (s.setGate g x).startup = s.startup := rfl
@[simp] theorem State.setGate_clock (g : Gate) (x : GateUnit) :
    (s.setGate g x).clock = s.clock := rfl
@[simp] theorem State.setGate_channels (g : Gate) (x : GateUnit) :
    (s.setGate g x).channels = s.channels := rfl
@[simp] theorem State.setGate_slide (g : Gate) (x : GateUnit) :
    (s.setGate g x).slide = s.slide := rfl
@[simp] theorem State.setGate_retained (g : Gate) (x : GateUnit) :
    (s.setGate g x).retained = s.retained := rfl
@[simp] theorem State.setGate_partialPending (g : Gate) (x : GateUnit) :
    (s.setGate g x).partialPending = s.partialPending := rfl
@[simp] theorem State.setGate_hazard (g : Gate) (x : GateUnit) :
    (s.setGate g x).hazard = s.hazard := rfl
@[simp] theorem State.setGate_line (g : Gate) (x : GateUnit) :
    (s.setGate g x).line = s.line := rfl
@[simp] theorem State.setGate_peers (g : Gate) (x : GateUnit) :
    (s.setGate g x).peers = s.peers := rfl
@[simp] theorem State.setGate_register (g : Gate) (x : GateUnit) :
    (s.setGate g x).register = s.register := rfl
@[simp] theorem State.setGate_signs (g : Gate) (x : GateUnit) :
    (s.setGate g x).signs = s.signs := rfl
@[simp] theorem State.setGate_link (g : Gate) (x : GateUnit) :
    (s.setGate g x).link = s.link := rfl
@[simp] theorem State.setGate_replyPair (g : Gate) (x : GateUnit) :
    (s.setGate g x).replyPair = s.replyPair := rfl
@[simp] theorem State.setGate_gates (g : Gate) (x : GateUnit) :
    (s.setGate g x).gates = { s.gates with units := s.gates.units.set g x } := rfl
@[simp] theorem State.setGate_phase (g : Gate) (x : GateUnit) :
    (s.setGate g x).phase = s.phase := rfl
@[simp] theorem State.setGate_config (g : Gate) (x : GateUnit) :
    (s.setGate g x).config = s.config := rfl
@[simp] theorem State.setGate_now (g : Gate) (x : GateUnit) :
    (s.setGate g x).now = s.now := rfl

@[simp] theorem State.setSlot_pending (i : Nat) (x : Option ClosureRecord) :
    (s.setSlot i x).pending = s.pending := rfl
@[simp] theorem State.setSlot_pins (i : Nat) (x : Option ClosureRecord) :
    (s.setSlot i x).pins = s.pins := rfl
@[simp] theorem State.setSlot_startup (i : Nat) (x : Option ClosureRecord) :
    (s.setSlot i x).startup = s.startup := rfl
@[simp] theorem State.setSlot_clock (i : Nat) (x : Option ClosureRecord) :
    (s.setSlot i x).clock = s.clock := rfl
@[simp] theorem State.setSlot_channels (i : Nat) (x : Option ClosureRecord) :
    (s.setSlot i x).channels = s.channels := rfl
@[simp] theorem State.setSlot_slide (i : Nat) (x : Option ClosureRecord) :
    (s.setSlot i x).slide = s.slide := rfl
@[simp] theorem State.setSlot_retained (i : Nat) (x : Option ClosureRecord) :
    (s.setSlot i x).retained = s.retained := rfl
@[simp] theorem State.setSlot_partialPending (i : Nat) (x : Option ClosureRecord) :
    (s.setSlot i x).partialPending = s.partialPending := rfl
@[simp] theorem State.setSlot_hazard (i : Nat) (x : Option ClosureRecord) :
    (s.setSlot i x).hazard = s.hazard := rfl
@[simp] theorem State.setSlot_line (i : Nat) (x : Option ClosureRecord) :
    (s.setSlot i x).line = s.line := rfl
@[simp] theorem State.setSlot_peers (i : Nat) (x : Option ClosureRecord) :
    (s.setSlot i x).peers = s.peers := rfl
@[simp] theorem State.setSlot_register (i : Nat) (x : Option ClosureRecord) :
    (s.setSlot i x).register = { s.register with slots := s.register.slots.set i x } := rfl
@[simp] theorem State.setSlot_signs (i : Nat) (x : Option ClosureRecord) :
    (s.setSlot i x).signs = s.signs := rfl
@[simp] theorem State.setSlot_link (i : Nat) (x : Option ClosureRecord) :
    (s.setSlot i x).link = s.link := rfl
@[simp] theorem State.setSlot_replyPair (i : Nat) (x : Option ClosureRecord) :
    (s.setSlot i x).replyPair = s.replyPair := rfl
@[simp] theorem State.setSlot_gates (i : Nat) (x : Option ClosureRecord) :
    (s.setSlot i x).gates = s.gates := rfl
@[simp] theorem State.setSlot_phase (i : Nat) (x : Option ClosureRecord) :
    (s.setSlot i x).phase = s.phase := rfl
@[simp] theorem State.setSlot_config (i : Nat) (x : Option ClosureRecord) :
    (s.setSlot i x).config = s.config := rfl
@[simp] theorem State.setSlot_now (i : Nat) (x : Option ClosureRecord) :
    (s.setSlot i x).now = s.now := rfl

/-! ## Items -/

@[simp] theorem PerChan.get_set_same {α : Type} (v : PerChan α) (c : Chan) (a : α) : (v.set c a).get c = a := by
  cases c <;> rfl

@[simp] theorem PerChan.get_set_other {α : Type} (v : PerChan α) (c d : Chan) (a : α) (h : d ≠ c) :
    (v.set c a).get d = v.get d := by
  cases c <;> cases d <;> first | rfl | exact absurd rfl h

@[simp] theorem PerChan.get_fill {α : Type} (a : α) (c : Chan) : (PerChan.fill a).get c = a := by
  cases c <;> rfl

theorem PerChan.ext_get {α : Type} {v w : PerChan α} (h : ∀ c, v.get c = w.get c) : v = w := by
  cases v; cases w
  simp only [PerChan.mk.injEq]
  exact ⟨h .c1, h .c2, h .c3, h .c4⟩

@[simp] theorem PerSign.get_set_same {α : Type} (v : PerSign α) (c : Sign) (a : α) : (v.set c a).get c = a := by
  cases c <;> rfl

@[simp] theorem PerSign.get_set_other {α : Type} (v : PerSign α) (c d : Sign) (a : α) (h : d ≠ c) :
    (v.set c a).get d = v.get d := by
  cases c <;> cases d <;> first | rfl | exact absurd rfl h

@[simp] theorem PerSign.get_fill {α : Type} (a : α) (c : Sign) : (PerSign.fill a).get c = a := by
  cases c <;> rfl

theorem PerSign.ext_get {α : Type} {v w : PerSign α} (h : ∀ c, v.get c = w.get c) : v = w := by
  cases v; cases w
  simp only [PerSign.mk.injEq]
  exact ⟨h .s1, h .s2, h .s3⟩

@[simp] theorem PerGate.get_set_same {α : Type} (v : PerGate α) (c : Gate) (a : α) : (v.set c a).get c = a := by
  cases c <;> rfl

@[simp] theorem PerGate.get_set_other {α : Type} (v : PerGate α) (c d : Gate) (a : α) (h : d ≠ c) :
    (v.set c a).get d = v.get d := by
  cases c <;> cases d <;> first | rfl | exact absurd rfl h

@[simp] theorem PerGate.get_fill {α : Type} (a : α) (c : Gate) : (PerGate.fill a).get c = a := by
  cases c <;> rfl

theorem PerGate.ext_get {α : Type} {v w : PerGate α} (h : ∀ c, v.get c = w.get c) : v = w := by
  cases v; cases w
  simp only [PerGate.mk.injEq]
  exact ⟨h .e, h .w⟩

end Sys2Proof.Machine
end

