-- ==== Sys2Proof/Laws/Frames.lean ====
section
/-! SUPPORT. The frame of each shared operation: one lemma says which parts of the state it may write, so that a proof
about a command cites it and never unfolds the operation. `Frame` composes by `Frame.trans` and widens by `Frame.mono`. -/

namespace Sys2Proof.Machine

open Sys2Proof

/-! ## Frames compose -/

theorem Part.agree_refl (s : State) (p : Part) : p.agree s s := by
  cases p <;> simp [Part.agree]

theorem Part.agree_trans {s t u : State} {p : Part} (h : p.agree s t) (k : p.agree t u) : p.agree s u := by
  cases p <;> simp_all [Part.agree]

theorem Frame.refl (ps : List Part) (s : State) : Frame ps s s := fun p _ => Part.agree_refl s p

theorem Frame.trans {ps : List Part} {s t u : State} (h : Frame ps s t) (k : Frame ps t u) : Frame ps s u :=
  fun p hp => Part.agree_trans (h p hp) (k p hp)

theorem Frame.mono {ps qs : List Part} {s t : State} (h : Frame ps s t) (k : ∀ p ∈ ps, p ∈ qs) : Frame qs s t :=
  fun p hp => h p (fun hm => hp (k p hm))

/-- Whether every part of one list is in another, as a computation. -/
def Part.within (ps qs : List Part) : Bool := ps.all (fun p => qs.any (fun q => Nat.beq p.ctorIdx q.ctorIdx))

theorem Part.eq_of_ctorIdx {p q : Part} (h : p.ctorIdx = q.ctorIdx) : p = q := by
  cases p <;> cases q <;> first | rfl | exact absurd h (by decide)

/-- `Frame.mono` with the inclusion computed. -/
theorem Frame.widen {ps qs : List Part} {s t : State} (h : Frame ps s t) (k : Part.within ps qs = true) :
    Frame qs s t := by
  refine h.mono (fun p hp => ?_)
  have h1 := List.all_eq_true.mp k p hp
  obtain ⟨q, hq, h2⟩ := List.any_eq_true.mp h1
  rw [Part.eq_of_ctorIdx (Nat.eq_of_beq_eq_true h2)]
  exact hq

/-! ## Updates of a block -/

theorem frame_queue_wait (s : State) (q : List Bulletin) (w : Option Wait) (d : Nat) :
    Frame Part.ofPresent s (s.withLine { s.line with queue := q, wait := w, draws := d }) := by
  intro p hp
  cases p <;> simp_all [Part.agree, Part.ofPresent]

theorem frame_withSigns (s : State) (x : PerSign SignState) : Frame [.signs] s (s.withSigns x) := by
  intro p hp
  cases p <;> simp_all [Part.agree]

theorem frame_withGates_units (s : State) (g : Gate) (x : GateUnit) : Frame [.gateUnits] s (s.setGate g x) := by
  intro p hp
  cases p <;> simp_all [Part.agree]

theorem frame_setSignLink (s : State) (n : Sign) (x : SignLink) : Frame [.signLinks] s (s.setSignLink n x) := by
  intro p hp
  cases p <;> simp_all [Part.agree]

theorem frame_setSign (s : State) (n : Sign) (x : SignState) : Frame [.signs] s (s.setSign n x) := by
  intro p hp
  cases p <;> simp_all [Part.agree]

theorem frame_setChannel (s : State) (c : Chan) (x : Channel) : Frame [.channels] s (s.setChannel c x) := by
  intro p hp
  cases p <;> simp_all [Part.agree]

theorem frame_setSlot (s : State) (i : Nat) (r : Option ClosureRecord) : Frame [.slots] s (s.setSlot i r) := by
  intro p hp
  cases p <;> simp_all [Part.agree]

theorem frame_withLink (s : State) (x : Link) : Frame [.linkState, .signLinks] s (s.withLink x) := by
  intro p hp
  cases p <;> simp_all [Part.agree]

theorem frame_quiet (s : State) (q : Bool) (e : Option Nat) :
    Frame [.quiet] s (s.withStartup { s.startup with quiet := q, entryTimer := e }) := by
  intro p hp
  cases p <;> simp_all [Part.agree]

theorem frame_peerEntries (s : State) (x : List Peer) :
    Frame [.peerEntries] s (s.withPeers { s.peers with entries := x }) := by
  intro p hp
  cases p <;> simp_all [Part.agree]

theorem frame_effective (s : State) (n : Nat) :
    Frame [.effective] s (s.withHazard { s.hazard with effective := n }) := by
  intro p hp
  cases p <;> simp_all [Part.agree]

/-! ## The line unit -/

theorem followHead_eq (l : Line) : ∃ w d, l.followHead = { l with wait := w, draws := d } := by
  unfold Line.followHead Line.beginWait
  split
  · exact ⟨_, _, rfl⟩
  · split
    · exact ⟨_, _, rfl⟩
    · split
      · exact ⟨l.wait, l.draws, rfl⟩
      · exact ⟨_, _, rfl⟩
    · exact ⟨l.wait, l.draws, rfl⟩

theorem restartWait_eq (l : Line) : ∃ w d, l.restartWait = { l with wait := w, draws := d } := by
  unfold Line.restartWait Line.beginWait
  split
  · split
    · exact ⟨_, _, rfl⟩
    · split
      · exact ⟨_, _, rfl⟩
      · exact ⟨_, _, rfl⟩
  · exact ⟨l.wait, l.draws, rfl⟩

/-- Whatever else the queue becomes, `followQueue` leaves it and moves the wait alone. -/
theorem followQueue_eq (s : State) :
    ∃ w d, followQueue s = s.withLine { s.line with wait := w, draws := d } := by
  unfold followQueue
  split
  · obtain ⟨w, d, h⟩ := followHead_eq s.line
    exact ⟨w, d, by rw [h]⟩
  · exact ⟨s.line.wait, s.line.draws, rfl⟩

@[simp] theorem followQueue_queue (s : State) : (followQueue s).line.queue = s.line.queue := by
  obtain ⟨w, d, h⟩ := followQueue_eq s
  rw [h]; rfl

/-- All that `present` can do: nothing in CONFIG-READ, nothing to a STATUS in CONFIG-FAULT, and otherwise the entry is
queued and the wait follows. -/
theorem present_eq (e : Bulletin) (s : State) :
    ∃ w d, present e s = s.withLine { s.line with
      queue := if s.phase = .configRead ∨ (s.phase = .configFault ∧ e = .status) then s.line.queue
        else enqueue e s.line.queue,
      wait := w, draws := d } := by
  unfold present
  by_cases h1 : s.phase = .configRead
  · exact ⟨s.line.wait, s.line.draws, by simp only [h1, true_or, if_true]; rfl⟩
  · by_cases h2 : s.phase = .configFault ∧ e = .status
    · refine ⟨s.line.wait, s.line.draws, ?_⟩
      simp only [h2.1, h2.2, if_true, and_self, or_true, decide_true, Bool.and_self]
      rfl
    · obtain ⟨w, d, h⟩ := followQueue_eq (s.withLine { s.line with queue := enqueue e s.line.queue })
      refine ⟨w, d, ?_⟩
      have h3 : (decide (s.phase = .configFault) && decide (e = .status)) = false := by
        simpa using h2
      simp only [h1, h3, h2, if_false, or_self, Bool.false_eq_true]
      exact h

theorem frame_followQueue (s : State) : Frame [.wait] s (followQueue s) := by
  obtain ⟨w, d, h⟩ := followQueue_eq s
  rw [h]
  intro p hp
  cases p <;> simp_all [Part.agree]

theorem frame_present (e : Bulletin) (s : State) : Frame Part.ofPresent s (present e s) := by
  obtain ⟨w, d, h⟩ := present_eq e s
  rw [h]
  exact frame_queue_wait s _ _ _

theorem frame_dropEntries (id : RecId) (s : State) : Frame Part.ofPresent s (dropEntries id s) := by
  unfold dropEntries
  refine (frame_queue_wait s _ s.line.wait s.line.draws).trans ((frame_followQueue _).mono ?_)
  decide

theorem frame_endFrame (s : State) : Frame Part.ofFrameEnd s (endFrame s) := by
  unfold endFrame
  split
  · exact Frame.refl _ s
  · obtain ⟨w, d, h⟩ := restartWait_eq { s.line with receiver := .hunting, echo := false }
    rw [h]
    intro p hp
    cases p <;> simp_all [Part.agree, Part.ofFrameEnd]

theorem frame_addressConflict (s : State) :
    Frame (.lineFlags :: Part.ofPresent) s (addressConflict s) := by
  have h : ∀ e : Bulletin, Frame (.lineFlags :: Part.ofPresent) s
      (present e (s.withLine { s.line with addressConflict := true })) := fun e =>
    Frame.trans (t := s.withLine { s.line with addressConflict := true })
      (by intro p hp; cases p <;> simp_all [Part.agree]) ((frame_present e _).widen rfl)
  unfold addressConflict
  split
  · exact Frame.refl _ s
  · dsimp only
    split
    · split
      · intro p hp
        cases p <;> simp_all [Part.agree]
      · exact h _
    · exact h _

/-! ## Signs -/

theorem frame_beginTransfer (s : State) (n : Sign) (b : Bool) (ps : PageSet) :
    Frame [.linkState, .signLinks] s (beginTransfer s n b ps) := frame_withLink s _

theorem frame_arbitrate (s : State) : Frame [.linkState, .signLinks] s (arbitrate s) := by
  unfold arbitrate
  split
  · split
    · exact frame_beginTransfer s _ _ _
    · exact Frame.refl _ s
  · exact Frame.refl _ s

theorem frame_handPageSet (n : Sign) (ps : PageSet) (s : State) : Frame Part.ofSigns s (handPageSet n ps s) :=
  ((frame_setSign s n _).widen rfl).trans
    (((frame_setSignLink _ n _).widen rfl).trans ((frame_arbitrate _).widen rfl))

theorem frame_rebuildSign (n : Sign) (s : State) : Frame [.signs] s (rebuildSign n s) := frame_setSign s n _

theorem frame_evaluateSign (n : Sign) (s : State) : Frame Part.ofSigns s (evaluateSign n s) := by
  have h : Frame Part.ofSigns s (rebuildSign n s) := (frame_rebuildSign n s).widen rfl
  unfold evaluateSign
  split
  · dsimp only
    split
    · exact h.trans (frame_handPageSet n _ _)
    · exact h
  · exact Frame.refl _ s

theorem frame_refreshSign (n : Sign) (s : State) : Frame Part.ofSigns s (refreshSign n s) := by
  have h : Frame Part.ofSigns s (rebuildSign n s) := (frame_rebuildSign n s).widen rfl
  unfold refreshSign
  split
  · dsimp only
    split
    · exact h.trans (frame_handPageSet n _ _)
    · exact h.trans ((frame_setSign _ n _).widen rfl)
  · exact Frame.refl _ s

/-- What is done to every sign in turn writes what each turn writes. -/
theorem frame_forSigns {ps : List Part} {f : Sign → State → State} (h : ∀ n s, Frame ps s (f n s)) (s : State) :
    Frame ps s (forSigns f s) := (h .s1 s).trans ((h .s2 _).trans (h .s3 _))

theorem frame_forGates {ps : List Part} {f : Gate → State → State} (h : ∀ g s, Frame ps s (f g s)) (s : State) :
    Frame ps s (forGates f s) := (h .e s).trans (h .w _)

theorem frame_forChannels {ps : List Part} {f : Chan → State → State} (h : ∀ c s, Frame ps s (f c s)) (s : State) :
    Frame ps s (forChannels f s) := (h .c1 s).trans ((h .c2 _).trans ((h .c3 _).trans (h .c4 _)))

theorem frame_foldl {α : Type} {ps : List Part} {f : State → α → State} (h : ∀ s a, Frame ps s (f s a)) :
    ∀ (as : List α) (s : State), Frame ps s (as.foldl f s)
  | [], s => Frame.refl ps s
  | a :: as, s => (h s a).trans (frame_foldl h as (f s a))

theorem frame_evaluateSigns (s : State) : Frame Part.ofSigns s (evaluateSigns s) :=
  frame_forSigns frame_evaluateSign s

theorem frame_acknowledge (n : Sign) (ps : PageSet) (s : State) : Frame [.signs] s (acknowledge n ps s) :=
  frame_setSign s n _

theorem frame_dropDisplayed (id : RecId) (s : State) : Frame [.signs] s (dropDisplayed id s) :=
  frame_forSigns (fun n s => frame_setSign s n _) s

theorem frame_forgetDisplayed (n : Sign) (s : State) : Frame [.signs] s (forgetDisplayed n s) := frame_setSign s n _

/-! ## QUIET -/

theorem frame_restartRefresh (s : State) : Frame [.signs] s (restartRefresh s) :=
  frame_forSigns (fun n s => by
    dsimp only
    split
    · exact Frame.refl _ s
    · exact frame_setSign s n _) s

theorem frame_leaveQuiet (s : State) : Frame Part.ofQuiet s (leaveQuiet s) :=
  ((frame_quiet s false none).widen rfl).trans
    (((frame_present .status _).widen rfl).trans
      (((frame_restartRefresh _).widen rfl).trans ((frame_evaluateSigns _).widen rfl)))

theorem frame_judgeQuiet (s : State) : Frame Part.ofQuiet s (judgeQuiet s) := by
  have h : ∀ e, Frame Part.ofQuiet s (s.withStartup { s.startup with entryTimer := e }) := fun e =>
    (frame_quiet s s.startup.quiet e).widen rfl
  unfold judgeQuiet
  split
  · split
    · split
      · exact Frame.refl _ s
      · exact frame_leaveQuiet s
    · split
      · split
        · exact Frame.refl _ s
        · exact h _
      · exact h _
  · exact Frame.refl _ s

theorem frame_enterQuiet (s : State) : Frame Part.ofQuiet s (enterQuiet s) :=
  ((frame_quiet s true none).widen rfl).trans
    (((frame_present .status _).widen rfl).trans
      ((frame_forSigns frame_refreshSign _).widen rfl))

end Sys2Proof.Machine
end

