-- ==== Sys2Proof/Laws/GateFrames.lean ====
section
/-! SUPPORT. The frames of the gate controller's, the sign link's and the observation unit's shared operations. -/

namespace Sys2Proof.Machine

open Sys2Proof

/-! ## Gates -/

theorem frame_putGate (g : Gate) (u : GateUnit) (s : State) : Frame Part.ofGates s (putGate g u s) := by
  have h1 : Frame Part.ofGates s (s.setGate g u) := (frame_withGates_units s g u).widen rfl
  have h2 : Frame Part.ofGates s (present .status (s.setGate g u)) :=
    h1.trans ((frame_present .status _).widen rfl)
  unfold putGate
  dsimp only
  split
  · split
    · exact h2.trans ((frame_judgeQuiet _).widen rfl)
    · exact h1.trans ((frame_judgeQuiet _).widen rfl)
  · split
    · exact h2
    · exact h1

theorem frame_lockOut (g : Gate) (s : State) : Frame Part.ofGates s (lockOut g s) := frame_putGate g _ s

theorem frame_beginTravel (fresh : Bool) (g : Gate) (d : Demand) (s : State) :
    Frame Part.ofGates s (beginTravel fresh g d s) := by
  unfold beginTravel
  dsimp only
  split <;> exact frame_putGate g _ s

theorem frame_recordTravel (g : Gate) (d : Demand) (n : Nat) (s : State) :
    Frame [.histories] s (recordTravel g d n s) := by
  intro p hp
  cases d <;> cases p <;> simp_all [Part.agree, recordTravel]

theorem frame_completeTravel (g : Gate) (d : Demand) (s : State) :
    Frame (.histories :: Part.ofGates) s (completeTravel g d s) := by
  unfold completeTravel
  dsimp only
  split
  · exact ((frame_recordTravel g d _ s).widen rfl).trans ((frame_putGate g _ _).widen rfl)
  · exact (frame_putGate g _ s).widen rfl

theorem frame_reverse (g : Gate) (s : State) : Frame Part.ofGates s (reverse g s) := frame_putGate g _ s

theorem frame_resumeTravel (g : Gate) (s : State) : Frame Part.ofGates s (resumeTravel g s) := by
  unfold resumeTravel
  dsimp only
  split
  · split
    · exact frame_beginTravel _ g _ s
    · exact frame_putGate g _ s
  · exact frame_putGate g _ s

theorem frame_enterClosePending (g : Gate) (s : State) : Frame Part.ofGates s (enterClosePending g s) := by
  unfold enterClosePending
  dsimp only
  split
  · exact (frame_putGate g _ s).trans (frame_beginTravel _ g _ _)
  · exact frame_putGate g _ s

theorem frame_actOnDemand (g : Gate) (s : State) : Frame Part.ofGates s (actOnDemand g s) := by
  unfold actOnDemand
  dsimp only
  repeat' split
  all_goals first
    | exact Frame.refl _ s
    | exact frame_beginTravel _ g _ s
    | exact frame_enterClosePending g s
    | exact frame_reverse g s
    | exact frame_putGate g _ s

theorem frame_refreshDemand (g : Gate) (s : State) : Frame [.gateUnits] s (refreshDemand g s) :=
  frame_withGates_units s g _

theorem frame_evaluateGate (g : Gate) (s : State) : Frame Part.ofGates s (evaluateGate g s) := by
  unfold evaluateGate
  split
  · exact ((frame_refreshDemand g s).widen rfl).trans (frame_actOnDemand g _)
  · exact Frame.refl _ s

theorem frame_evaluateGates (s : State) : Frame Part.ofGates s (evaluateGates s) := frame_forGates frame_evaluateGate s

theorem frame_signReport (n : Sign) (s : State) : Frame Part.ofGates s (signReport n s) := by
  unfold signReport
  split
  · exact frame_evaluateGates s
  · exact Frame.refl _ s

theorem frame_limitEvent (g : Gate) (l : Limit) (a : Bool) (s : State) :
    Frame (.histories :: Part.ofGates) s (limitEvent g l a s) := by
  have hp : ∀ u, Frame (.histories :: Part.ofGates) s (putGate g u s) := fun u => (frame_putGate g u s).widen rfl
  unfold limitEvent
  dsimp only
  split
  · exact Frame.refl _ s
  · split
    · exact (frame_lockOut g s).widen rfl
    · repeat' split
      all_goals first
        | exact Frame.refl _ s
        | exact frame_completeTravel g _ s
        | exact (frame_beginTravel _ g _ s).widen rfl
        | exact hp _
        | exact (hp _).trans ((frame_evaluateGate g _).widen rfl)

theorem frame_followLimits (g : Gate) (s : State) : Frame Part.ofGates s (followLimits g s) := by
  unfold followLimits
  dsimp only
  split
  · exact Frame.refl _ s
  · exact frame_putGate g _ s

theorem frame_stopGate (g : Gate) (s : State) : Frame Part.ofGates s (stopGate g s) := by
  unfold stopGate
  dsimp only
  split <;> first | exact frame_putGate g _ s | exact Frame.refl _ s

theorem frame_gateToLocal (g : Gate) (s : State) : Frame Part.ofGates s (gateToLocal g s) := by
  unfold gateToLocal
  dsimp only
  split
  · split
    · exact frame_putGate g _ s
    · exact frame_stopGate g s
  · exact Frame.refl _ s

theorem frame_gateToRemote (g : Gate) (s : State) : Frame Part.ofGates s (gateToRemote g s) := by
  unfold gateToRemote
  dsimp only
  split
  · split
    · exact frame_putGate g _ s
    · exact frame_stopGate g s
  · exact Frame.refl _ s

theorem frame_clearDemand (g : Gate) (s : State) : Frame [.gateUnits] s (clearDemand g s) := frame_withGates_units s g _

theorem frame_remoteDemand (g : Gate) (s : State) : Frame [.gateUnits] s (remoteDemand g s) :=
  frame_withGates_units s g _

theorem frame_key (s : State) (k : Bool) (d : Option Demand) :
    Frame [.key] s (s.withGates { s.gates with keyLocal := k, localDemand := d }) := by
  intro p hp
  cases p <;> simp_all [Part.agree]

theorem frame_withPins (s : State) (x : Pins) : Frame [.pins] s (s.withPins x) := by
  intro p hp
  cases p <;> simp_all [Part.agree]

theorem frame_setLocalDemand (d : Demand) (s : State) : Frame (.key :: Part.ofGates) s (setLocalDemand d s) :=
  ((frame_key s s.gates.keyLocal (some d)).widen rfl).trans ((frame_evaluateGates _).widen rfl)

/-! ## The sign link -/

theorem frame_endTransfer (s : State) : Frame [.linkState] s (endTransfer s) := by
  intro p hp
  cases p <;> simp_all [Part.agree, endTransfer]

theorem frame_reportFault (n : Sign) (s : State) : Frame Part.ofTransfer s (reportFault n s) :=
  ((frame_forgetDisplayed n s).widen rfl).trans
    (((frame_signReport n _).widen rfl).trans
      (((frame_present .status _).widen rfl).trans ((frame_judgeQuiet _).widen rfl)))

theorem frame_countFailure (t : Transfer) (s : State) : Frame Part.ofTransfer s (countFailure t s) := by
  have h : ∀ x, Frame Part.ofTransfer s (s.setSignLink t.sign x) := fun x =>
    (frame_setSignLink s t.sign x).widen rfl
  unfold countFailure
  dsimp only
  repeat' split
  all_goals first
    | exact Frame.refl _ s
    | exact h _
    | exact (h _).trans (frame_reportFault t.sign _)

theorem frame_reportOk (n : Sign) (b : Bool) (s : State) : Frame Part.ofTransfer s (reportOk n b s) := by
  have h : Frame Part.ofTransfer s (judgeQuiet (present .status (signReport n s))) :=
    ((frame_signReport n s).widen rfl).trans
      (((frame_present .status _).widen rfl).trans ((frame_judgeQuiet _).widen rfl))
  unfold reportOk
  dsimp only
  split
  · exact h.trans ((frame_setSign _ n _).widen rfl)
  · exact h

theorem frame_reportAck (t : Transfer) (s : State) : Frame Part.ofTransfer s (reportAck t s) := by
  have h : Frame Part.ofTransfer s (acknowledge t.sign t.pages s) := (frame_acknowledge _ _ s).widen rfl
  unfold reportAck
  dsimp only
  split
  · exact h
  · exact h.trans (frame_signReport t.sign _)

theorem frame_countSuccessful (t : Transfer) (s : State) : Frame Part.ofTransfer s (countSuccessful t s) := by
  have h : ∀ x, Frame Part.ofTransfer s (s.setSignLink t.sign x) := fun x =>
    (frame_setSignLink s t.sign x).widen rfl
  unfold countSuccessful
  dsimp only
  split
  · exact (h _).trans (frame_reportAck t _)
  · exact (h _).trans ((frame_reportOk t.sign _ _).trans (frame_reportAck t _))

theorem frame_countRefusal (t : Transfer) (p : BitVec 4) (s : State) : Frame Part.ofSigns s (countRefusal t p s) := by
  have h : ∀ x, Frame Part.ofSigns s (evaluateSign t.sign (s.setSign t.sign x)) := fun x =>
    ((frame_setSign s t.sign x).widen rfl).trans (frame_evaluateSign t.sign _)
  unfold countRefusal
  dsimp only
  split
  · exact (h _).trans ((frame_setSignLink _ t.sign _).widen rfl)
  · exact h _

theorem frame_failTransfer (t : Transfer) (s : State) : Frame Part.ofTransfer s (failTransfer t s) :=
  ((frame_endTransfer s).widen rfl).trans
    ((frame_countFailure t _).trans ((frame_arbitrate _).widen rfl))

/-! ## Observation -/

theorem frame_reportAlert (s : State) : Frame Part.ofQuiet s (reportAlert s) :=
  ((frame_present .status s).widen rfl).trans
    (((frame_evaluateSigns _).widen rfl).trans (frame_judgeQuiet _))

theorem frame_presentSample (c : Chan) (v : Value) (s : State) : Frame Part.ofSample s (presentSample c v s) := by
  have h : ∀ x, Frame Part.ofSample s (s.setChannel c x) := fun x => (frame_setChannel s c x).widen rfl
  unfold presentSample
  dsimp only
  split
  · exact h _
  · exact (h _).trans ((frame_reportAlert _).widen rfl)

theorem frame_widthSample (c : Chan) (raw : Option Nat) (s : State) : Frame Part.ofSample s (widthSample c raw s) :=
  ((frame_setChannel s c _).widen rfl).trans (frame_presentSample c _ _)

theorem frame_silentSample (c : Chan) (s : State) : Frame Part.ofSample s (silentSample c s) :=
  ((frame_setChannel s c _).widen rfl).trans (frame_presentSample c _ _)

theorem frame_endWindow (c : Chan) (s : State) : Frame Part.ofSample s (endWindow c s) :=
  ((frame_setChannel s c _).widen rfl).trans (frame_presentSample c _ _)

theorem frame_closeMinute (c : Chan) (s : State) : Frame Part.ofSample s (closeMinute c s) := by
  have h : ∀ x, Frame Part.ofSample s (s.setChannel c x) := fun x => (frame_setChannel s c x).widen rfl
  unfold closeMinute
  dsimp only
  split
  · exact (h _).trans (frame_presentSample c _ _)
  · exact h _

/-! ## The reply pair -/

/-- A tick of the reply pair brings no command but flow control and what the reply, free of framing errors, reads as. -/
theorem replyPair_tick_command (p : ReplyPair) (i : Instr) (h : p.tick.2 = some i) :
    i = .xonReceived ∨ i = .xoffReceived ∨ (p.framingError = false ∧ checkReply p.reply = some i) := by
  unfold ReplyPair.tick at h
  dsimp only at h
  split at h
  · split at h
    · next c _ _ =>
      unfold ReplyPair.take ReplyChar.flow at h
      split at h
      · next j hj =>
        have e : j = i := Option.some.inj h
        subst e
        split at hj
        · exact nomatch hj
        · split at hj
          · exact .inl (Option.some.inj hj).symm
          · split at hj
            · exact .inr (.inl (Option.some.inj hj).symm)
            · exact nomatch hj
      · exact nomatch h
    · exact nomatch h
  · split at h
    · exact nomatch h
    · split at h
      · split at h
        · exact nomatch h
        · unfold ReplyPair.endReply at h
          dsimp only at h
          split at h
          · exact nomatch h
          · next hf => exact .inr (.inr ⟨by simpa using hf, h⟩)
      · exact nomatch h

/-- What a tick of the reply pair makes of the state: the pair, and at most one command more that waits. -/
theorem hearReplyPair_eq (s : State) : ∃ (p : ReplyPair) (more : List Instr),
    hearReplyPair s = (s.withReplyPair p).withPending (s.pending ++ more) ∧ more.length ≤ 1 := by
  unfold hearReplyPair
  split
  · refine ⟨_, _, rfl, ?_⟩
    cases s.replyPair.tick.2 <;> simp
  · exact ⟨.reset, [], by rw [List.append_nil]; rfl, by simp⟩

theorem frame_hearReplyPair (s : State) : Frame [.replyPair, .pending] s (hearReplyPair s) := by
  obtain ⟨p, more, h, -⟩ := hearReplyPair_eq s
  rw [h]
  intro q hq
  cases q <;> simp_all [Part.agree]

end Sys2Proof.Machine
end

