-- ==== Sys2Proof/Laws/Operations.lean ====
section
/-! SUPPORT. What the plain operations over lists do: the transmit queue, the register's places, the peer table and the
history of travels. -/

namespace Sys2Proof.Machine

open Sys2Proof

/-! ## The transmit queue (R65 to R68) -/

/-- What R66 and R65 ask of a queue. -/
def QueueOk (q : List Bulletin) : Prop :=
  q.length ≤ 12 ∧ q.Pairwise (fun a b => a.cls ≤ b.cls) ∧ q.Nodup

theorem insertEntry_perm (e : Bulletin) : ∀ q, (insertEntry e q).Perm (e :: q)
  | [] => .refl _
  | x :: rest => by
    unfold insertEntry
    split
    · exact ((insertEntry_perm e rest).cons x).trans (.swap e x rest)
    · exact .refl _

theorem insertEntry_sorted (e : Bulletin) : ∀ q, q.Pairwise (fun a b => a.cls ≤ b.cls) →
    (insertEntry e q).Pairwise (fun a b => a.cls ≤ b.cls)
  | [], _ => List.pairwise_singleton _ _
  | x :: rest, h => by
    rw [List.pairwise_cons] at h
    unfold insertEntry
    split
    · next hx =>
      rw [List.pairwise_cons]
      refine ⟨fun y hy => ?_, insertEntry_sorted e rest h.2⟩
      rcases List.mem_cons.mp ((insertEntry_perm e rest).mem_iff.mp hy) with rfl | hy
      · exact hx
      · exact h.1 y hy
    · next hx =>
      rw [List.pairwise_cons]
      refine ⟨fun y hy => ?_, List.pairwise_cons.mpr h⟩
      rcases List.mem_cons.mp hy with rfl | hy
      · omega
      · exact Nat.le_trans (by omega) (h.1 y hy)

theorem insertEntry_ok {e : Bulletin} {q : List Bulletin} (h : QueueOk q) (hl : q.length < 12) (he : e ∉ q) :
    QueueOk (insertEntry e q) := by
  have p := insertEntry_perm e q
  refine ⟨by rw [p.length_eq, List.length_cons]; omega, insertEntry_sorted e q h.2.1, ?_⟩
  exact p.nodup_iff.mpr (List.nodup_cons.mpr ⟨he, h.2.2⟩)

theorem queueOk_sublist {q r : List Bulletin} (h : QueueOk q) (k : r.Sublist q) : QueueOk r :=
  ⟨Nat.le_trans k.length_le h.1, h.2.1.sublist k, h.2.2.sublist k⟩

/-- Presenting an entry keeps the law of the queue, whatever is replaced, evicted or discarded. -/
theorem enqueue_ok (e : Bulletin) {q : List Bulletin} (h : QueueOk q) : QueueOk (enqueue e q) := by
  unfold enqueue
  split
  · exact h
  · next he =>
    split
    · next hl => exact insertEntry_ok h hl he
    · next hl =>
      split
      · split
        · refine insertEntry_ok (queueOk_sublist h (List.dropLast_sublist q)) ?_ ?_
          · rw [List.length_dropLast]; have := h.1; omega
          · exact fun hm => he (List.mem_of_mem_dropLast hm)
        · exact h
      · next hn =>
        rw [List.getLast?_eq_none_iff] at hn
        rw [hn] at hl
        simp at hl

/-- An entry presented to a queue with room, or already in it, is in the queue afterwards, and nothing leaves. -/
theorem mem_enqueue {e : Bulletin} {q : List Bulletin} (h : e ∈ q ∨ q.length < 12) (x : Bulletin) :
    x ∈ enqueue e q ↔ x = e ∨ x ∈ q := by
  unfold enqueue
  split
  · next he => exact ⟨.inr, fun k => k.elim (fun k => k ▸ he) id⟩
  · next he =>
    rw [if_pos (h.resolve_left he), (insertEntry_perm e q).mem_iff, List.mem_cons]

/-! ## The register's places -/

theorem mem_indexed {i : Nat} {r : ClosureRecord} : ∀ {k : Nat} {l : List (Option ClosureRecord)},
    (i, r) ∈ indexed k l ↔ k ≤ i ∧ l[i - k]? = some (some r)
  | k, [] => by simp [indexed]
  | k, some x :: rest => by
    rw [indexed, List.mem_cons, mem_indexed (k := k + 1) (l := rest)]
    constructor
    · rintro (h | ⟨h1, h2⟩)
      · cases h; simp
      · refine ⟨by omega, ?_⟩
        rw [show i - k = (i - (k + 1)) + 1 by omega, List.getElem?_cons_succ]
        exact h2
    · rintro ⟨h1, h2⟩
      by_cases h : i = k
      · subst h
        simp at h2
        exact .inl (by rw [h2])
      · right
        refine ⟨by omega, ?_⟩
        rw [show i - k = (i - (k + 1)) + 1 by omega, List.getElem?_cons_succ] at h2
        exact h2
  | k, none :: rest => by
    rw [indexed, mem_indexed (k := k + 1) (l := rest)]
    constructor
    · rintro ⟨h1, h2⟩
      refine ⟨by omega, ?_⟩
      rw [show i - k = (i - (k + 1)) + 1 by omega, List.getElem?_cons_succ]
      exact h2
    · rintro ⟨h1, h2⟩
      by_cases h : i = k
      · subst h; simp at h2
      · refine ⟨by omega, ?_⟩
        rw [show i - k = (i - (k + 1)) + 1 by omega, List.getElem?_cons_succ] at h2
        exact h2

/-- The records are what the indices hold. -/
theorem mem_records {s : State} {i : Nat} {r : ClosureRecord} : (i, r) ∈ s.records ↔ s.recordAt i = some r := by
  unfold State.records State.recordAt
  rw [mem_indexed]
  simp only [Nat.zero_le, true_and, Nat.sub_zero]
  cases h : s.register.slots[i]? with
  | none => simp
  | some x => cases x <;> simp

theorem recordAt_setSlot (s : State) (i j : Nat) (x : Option ClosureRecord) (h : i < s.register.slots.length) :
    (s.setSlot i x).recordAt j = if j = i then x else s.recordAt j := by
  unfold State.recordAt
  rw [State.setSlot_register]
  by_cases hj : j = i
  · subst hj
    simp [h]
  · simp [hj, List.getElem?_set_ne (fun e => hj e.symm)]

theorem freeIndex_spec {i k : Nat} : ∀ {l : List (Option ClosureRecord)},
    freeIndex k l = some i → k ≤ i ∧ l[i - k]? = some none
  | none :: rest, h => by
    cases h; simp
  | some x :: rest, h => by
    obtain ⟨h1, h2⟩ := freeIndex_spec (l := rest) h
    refine ⟨by omega, ?_⟩
    rw [show i - k = (i - (k + 1)) + 1 by omega, List.getElem?_cons_succ]
    exact h2

/-! ## The peer table -/

theorem mem_putPeer {p x : Peer} : ∀ {ps : List Peer}, x ∈ putPeer p ps → x = p ∨ x ∈ ps
  | [], h => by simpa [putPeer] using h
  | q :: rest, h => by
    unfold putPeer at h
    split at h
    · exact List.mem_cons.mp h
    · split at h
      · rcases List.mem_cons.mp h with h | h
        · exact .inl h
        · exact .inr (List.mem_cons_of_mem _ h)
      · rcases List.mem_cons.mp h with h | h
        · exact .inr (h ▸ List.mem_cons_self)
        · exact (mem_putPeer h).imp id (List.mem_cons_of_mem _)

/-- Putting an entry keeps the table in strict address order. -/
theorem putPeer_sorted (p : Peer) : ∀ {ps : List Peer}, ps.Pairwise (fun a b => a.address.toNat < b.address.toNat) →
    (putPeer p ps).Pairwise (fun a b => a.address.toNat < b.address.toNat)
  | [], _ => List.pairwise_singleton _ _
  | q :: rest, h => by
    have h' := List.pairwise_cons.mp h
    unfold putPeer
    split
    · next hlt =>
      rw [List.pairwise_cons]
      refine ⟨fun y hy => ?_, h⟩
      rcases List.mem_cons.mp hy with rfl | hy
      · exact hlt
      · exact Nat.lt_trans hlt (h'.1 y hy)
    · next hge =>
      split
      · next he =>
        rw [List.pairwise_cons]
        exact ⟨fun y hy => he ▸ h'.1 y hy, h'.2⟩
      · next hne =>
        rw [List.pairwise_cons]
        refine ⟨fun y hy => ?_, putPeer_sorted p h'.2⟩
        rcases mem_putPeer hy with rfl | hy
        · have : q.address.toNat ≠ y.address.toNat := fun e => hne (BitVec.eq_of_toNat_eq e)
          omega
        · exact h'.1 y hy

end Sys2Proof.Machine
end

