-- ==== Sys2Proof/Laws/RegisterFrames.lean ====
section
/-! SUPPORT. The frames of the closure register's, the hazard unit's and the peer table's shared operations. -/

namespace Sys2Proof.Machine

open Sys2Proof

/-! ## The register -/

theorem frame_reportRecords (s : State) : Frame Part.ofGates s (reportRecords s) :=
  ((frame_evaluateSigns s).widen rfl).trans
    ((frame_evaluateGates _).trans ((frame_judgeQuiet _).widen rfl))

theorem frame_full (s : State) (b : Bool) : Frame [.registerFull] s (s.withRegister { s.register with full := b }) := by
  intro p hp
  cases p <;> simp_all [Part.agree]

theorem frame_slidePending (s : State) (b : Bool) :
    Frame [.slidePending] s (s.withRegister { s.register with slidePending := b }) := by
  intro p hp
  cases p <;> simp_all [Part.agree]

theorem frame_walker (s : State) (i : Nat) (f : Bool) (t : Option Nat) :
    Frame [.walker] s (s.withRegister { s.register with walkerIndex := i, walkerFast := f, walkerTimer := t }) := by
  intro p hp
  cases p <;> simp_all [Part.agree]

theorem frame_ownSerial (s : State) (x : Byte) : Frame [.ownSerial] s (s.withRetained { s.retained with ownSerial := x }) := by
  intro p hp
  cases p <;> simp_all [Part.agree]

theorem frame_slide (s : State) (x : Slide) : Frame [.slide] s (s.withSlide x) := by
  intro p hp
  cases p <;> simp_all [Part.agree]

theorem frame_setFull (b : Bool) (s : State) : Frame Part.ofRecords s (setFull b s) := by
  unfold setFull
  split
  · exact Frame.refl _ s
  · exact ((frame_full s b).widen rfl).trans ((frame_present .status _).widen rfl)

theorem frame_vacate (i : Nat) (s : State) : Frame Part.ofRecords s (vacate i s) := by
  unfold vacate
  split
  · exact ((frame_setSlot s i none).widen rfl).trans
      (((frame_dropEntries _ _).widen rfl).trans
        (((frame_dropDisplayed _ _).widen rfl).trans ((frame_reportRecords _).widen rfl)))
  · exact Frame.refl _ s

/-- Storing a record writes its place and what the report of it brings. -/
theorem frame_storeRecord (i : Nat) (r : ClosureRecord) (s : State) :
    Frame (.slots :: Part.ofGates) s (storeRecord i r s) :=
  ((frame_setSlot s i (some r)).widen rfl).trans ((frame_reportRecords _).widen rfl)

theorem frame_admitRecord (r : ClosureRecord) (s : State) : Frame Part.ofRecords s (admitRecord r s).1 := by
  unfold admitRecord
  split
  · exact (frame_storeRecord _ r.settled s).widen rfl
  · split
    · exact (frame_vacate _ s).trans ((frame_storeRecord _ r.settled _).widen rfl)
    · exact frame_setFull true s

theorem frame_takeSerial (b : Byte) (s : State) : Frame [.ownSerial] s (takeSerial b s) := frame_ownSerial s _

theorem frame_queueOwn (r : ClosureRecord) (s : State) : Frame Part.ofPresent s (queueOwn r s) := by
  unfold queueOwn
  split
  · exact frame_present _ s
  · exact Frame.refl _ s

theorem frame_carrySlide (s : State) : Frame Part.ofRecords s (carrySlide s) := by
  unfold carrySlide
  split
  · exact ((frame_storeRecord _ _ s).widen rfl).trans ((frame_present _ _).widen rfl)
  · dsimp only
    have h := frame_admitRecord (s.ownRecord .slide s.config.slideHalf .inForce 0) s
    split
    · next e =>
      rw [e] at h
      exact h.trans (((frame_takeSerial _ _).widen rfl).trans ((frame_present _ _).widen rfl))
    · next e =>
      rw [e] at h
      exact h.trans ((frame_slidePending _ true).widen rfl)

theorem frame_slideEvent (s : State) : Frame Part.ofRecords s (slideEvent s) := by
  unfold slideEvent
  split
  · exact Frame.refl _ s
  · exact frame_carrySlide s

theorem frame_walkerAdvance (s : State) : Frame (.walker :: Part.ofPresent) s (walkerAdvance s) := by
  unfold walkerAdvance
  dsimp only
  split
  · split
    · exact ((frame_present _ s).widen rfl).trans ((frame_walker _ _ _ _).widen rfl)
    · exact (frame_walker s _ _ _).widen rfl
  · exact (frame_walker s _ _ _).widen rfl

theorem frame_restartWalker (s : State) : Frame (.walker :: Part.ofPresent) s (restartWalker s) := by
  unfold restartWalker
  split
  · exact ((frame_walker s 0 true s.register.walkerTimer).widen rfl).trans (frame_walkerAdvance _)
  · exact Frame.refl _ s

theorem frame_deliverSlide (s : State) : Frame (.slide :: Part.ofRecords) s (deliverSlide s) := by
  unfold deliverSlide
  split
  · exact (frame_slide s _).widen rfl
  · exact (frame_slideEvent s).widen rfl

/-! ## Hazard -/

theorem frame_recomputeEffective (s : State) : Frame (.effective :: Part.ofQuiet) s (recomputeEffective s) := by
  unfold recomputeEffective
  split
  · exact Frame.refl _ s
  · exact ((frame_effective s _).widen rfl).trans
      (((frame_present .status _).widen rfl).trans
        (((frame_evaluateSigns _).widen rfl).trans ((frame_judgeQuiet _).widen rfl)))

theorem frame_bringForwardAt (i : Nat) (s : State) : Frame Part.ofRecords s (bringForwardAt i s) := by
  unfold bringForwardAt
  split
  · split
    · exact ((frame_queueOwn _ s).widen rfl).trans ((frame_storeRecord _ _ _).widen rfl)
    · exact Frame.refl _ s
  · exact Frame.refl _ s

theorem frame_forIndices {ps : List Part} {f : Nat → State → State} (h : ∀ i s, Frame ps s (f i s)) (s : State) :
    Frame ps s (forIndices f s) := frame_foldl (fun s i => h i s) _ s

theorem frame_bringForward (s : State) : Frame Part.ofRecords s (bringForward s) := by
  unfold bringForward
  split
  · exact frame_forIndices frame_bringForwardAt s
  · exact Frame.refl _ s

theorem frame_originate (s : State) : Frame Part.ofRecords s (originate s).1 := by
  unfold originate
  dsimp only
  have h := frame_admitRecord (s.ownRecord .avalanche s.config.segmentHalf .announced s.config.announceLead) s
  split
  · next e =>
    rw [e] at h
    exact h.trans (((frame_takeSerial _ _).widen rfl).trans ((frame_queueOwn _ _).widen rfl))
  · next e =>
    rw [e] at h
    exact h

theorem frame_autocloseTest (s : State) : Frame Part.ofRecords s (autocloseTest s) := by
  unfold autocloseTest
  have h := frame_originate s
  split
  · split
    · next e =>
      rw [e] at h
      exact h.trans (frame_bringForward _)
    · next e =>
      rw [e] at h
      exact h
  · exact Frame.refl _ s

theorem frame_liftAt (i : Nat) (s : State) : Frame Part.ofRecords s (liftAt i s) := by
  unfold liftAt
  split
  · split
    · exact ((frame_queueOwn _ s).widen rfl).trans
        (((frame_storeRecord _ _ _).widen rfl).trans (frame_autocloseTest _))
    · exact Frame.refl _ s
  · exact Frame.refl _ s

theorem frame_liftCounter (s : State) (n : Nat) :
    Frame [.liftCounter] s (s.withHazard { s.hazard with liftCounter := n }) := by
  intro p hp
  cases p <;> simp_all [Part.agree]

theorem frame_hold (s : State) (x : Option Nat) : Frame [.hold] s (s.withHazard { s.hazard with hold := x }) := by
  intro p hp
  cases p <;> simp_all [Part.agree]

theorem frame_floor (s : State) (l t : Nat) :
    Frame [.floor] s (s.withHazard { s.hazard with floorLevel := l, floorRemaining := t }) := by
  intro p hp
  cases p <;> simp_all [Part.agree]

theorem frame_countLift (s : State) : Frame (.liftCounter :: Part.ofRecords) s (countLift s) := by
  have h : ∀ n, Frame (.liftCounter :: Part.ofRecords) s (s.withHazard { s.hazard with liftCounter := n }) := fun n =>
    (frame_liftCounter s n).widen rfl
  unfold countLift
  dsimp only
  split
  · split
    · exact (h _).trans ((frame_forIndices frame_liftAt _).widen rfl)
    · exact h _
  · split
    · exact (h _).trans ((frame_forIndices frame_liftAt _).widen rfl)
    · exact h _

theorem frame_computation (s : State) (a b c d x : Nat) (g : Bool) (l : Nat) (o : Option Nat) (e : Nat) :
    Frame [.computation, .hold, .effective] s (s.withHazard { s.hazard with
      termA := a, termB := b, termC := c, termD := d, score := x, degraded := g, computed := l, hold := o,
      effective := e }) := by
  intro p hp
  cases p <;> simp_all [Part.agree]

theorem frame_publish (s : State) : Frame [.computation, .hold, .effective] s (publish s) :=
  frame_computation s _ _ _ _ _ _ _ _ _

theorem frame_reportEvaluation (old : Hazard) (s : State) : Frame Part.ofQuiet s (reportEvaluation old s) := by
  have h : Frame Part.ofQuiet s (present .status s) := (frame_present .status s).widen rfl
  have k : ∀ t, Frame Part.ofQuiet t (judgeQuiet (evaluateSigns t)) := fun t =>
    ((frame_evaluateSigns t).widen rfl).trans (frame_judgeQuiet _)
  unfold reportEvaluation
  dsimp only
  repeat' split
  all_goals first
    | exact h.trans (k _)
    | exact h
    | exact k s
    | exact Frame.refl _ s

theorem frame_evaluateHazard (b : Bool) (s : State) :
    Frame ([.computation, .hold, .liftCounter] ++ Part.ofHazard) s (evaluateHazard b s) := by
  have h1 : Frame ([.computation, .hold, .liftCounter] ++ Part.ofHazard) s (publish s) :=
    (frame_publish s).widen rfl
  have h2 : ∀ t, Frame ([.computation, .hold, .liftCounter] ++ Part.ofHazard) t (countLift t) := fun t =>
    (frame_countLift t).widen rfl
  have h3 : ∀ t, Frame ([.computation, .hold, .liftCounter] ++ Part.ofHazard) t (bringForward (autocloseTest t)) :=
    fun t => ((frame_autocloseTest t).widen rfl).trans ((frame_bringForward _).widen rfl)
  have h4 : ∀ o t, Frame ([.computation, .hold, .liftCounter] ++ Part.ofHazard) t (reportEvaluation o t) :=
    fun o t => (frame_reportEvaluation o t).widen rfl
  have h5 : Frame ([.computation, .hold, .liftCounter] ++ Part.ofHazard) s
      (if b && decide (s.phase = .running) then countLift (publish s) else publish s) := by
    split
    · exact h1.trans (h2 _)
    · exact h1
  have h6 : ∀ t u, Frame ([.computation, .hold, .liftCounter] ++ Part.ofHazard) s t →
      Frame ([.computation, .hold, .liftCounter] ++ Part.ofHazard) s
        (if State.phase u = .running then bringForward (autocloseTest t) else t) := by
    intro t u h
    split
    · exact h.trans (h3 _)
    · exact h
  unfold evaluateHazard
  exact (h6 _ s h5).trans (h4 s.hazard _)

theorem frame_applyFloor (l m : Nat) (s : State) : Frame (.floor :: Part.ofHazard) s (applyFloor l m s) := by
  have h : ∀ a b, Frame (.floor :: Part.ofHazard) s
      (s.withHazard { s.hazard with floorLevel := a, floorRemaining := b }) := fun a b =>
    (frame_floor s a b).widen rfl
  have k : ∀ t, Frame (.floor :: Part.ofHazard) t (autocloseTest (recomputeEffective t)) := fun t =>
    ((frame_recomputeEffective t).widen rfl).trans ((frame_autocloseTest _).widen rfl)
  unfold applyFloor
  dsimp only
  generalize (if decide (l = 0 ∨ m = 0) = true then 0 else min l 5) = a
  generalize (if decide (l = 0 ∨ m = 0) = true then 0 else min m 1440 * 60) = b
  split
  · exact h a b
  · exact (h a b).trans (k _)

theorem frame_controlLift (s : State) : Frame (.hold :: Part.ofRecords) s (controlLift s) := by
  have h : ∀ x, Frame (.hold :: Part.ofRecords) s (s.withHazard { s.hazard with hold := x }) := fun x =>
    (frame_hold s x).widen rfl
  unfold controlLift
  split
  · exact (h _).trans ((frame_autocloseTest _).widen rfl)
  · exact h _

theorem frame_neighbours (s : State) (n : Nat) (b : Bool) :
    Frame [.neighbours] s (s.withHazard { s.hazard with neighbourFloor := n, neighbourSilent := b }) := by
  intro p hp
  cases p <;> simp_all [Part.agree]

theorem frame_recomputeNeighbours (s : State) :
    Frame ([.neighbours, .effective] ++ Part.ofQuiet) s (recomputeNeighbours s) := by
  have h1 := (frame_neighbours s s.neighbourFloorNow s.neighbourSilentNow).mono
    (qs := [.neighbours, .effective] ++ Part.ofQuiet) (by decide)
  have h2 : ∀ t, Frame ([.neighbours, .effective] ++ Part.ofQuiet) t (recomputeEffective t) := fun t =>
    (frame_recomputeEffective t).widen rfl
  have h3 : ∀ t, Frame ([.neighbours, .effective] ++ Part.ofQuiet) t (judgeQuiet (evaluateSigns (present .status t))) :=
    fun t => (frame_reportAlert t).widen rfl
  unfold recomputeNeighbours
  dsimp only
  split
  · exact h1.trans (h2 _)
  · exact h1.trans ((h2 _).trans (h3 _))

/-! ## Closures -/

theorem frame_tellHazard (c : Bool) (a b : ClosureRecord) (s : State) :
    Frame (.hold :: Part.ofRecords) s (tellHazard c a b s) := by
  unfold tellHazard
  split
  · split
    · exact (frame_controlLift s).trans ((frame_autocloseTest _).widen rfl)
    · exact (frame_autocloseTest s).widen rfl
  · exact Frame.refl _ s

theorem frame_replaceRecord (c : Bool) (i : Nat) (a b : ClosureRecord) (s : State) :
    Frame (.hold :: Part.ofRecords) s (replaceRecord c i a b s) := by
  have h0 : ∀ t : State, Frame (.hold :: Part.ofRecords) t (t.setSlot i (some b)) := fun t =>
    (frame_setSlot t i _).widen rfl
  have h1 : ∀ t : State, Frame (.hold :: Part.ofRecords) t (tellHazard c a b t) := frame_tellHazard c a b
  have h2 : ∀ t : State, Frame (.hold :: Part.ofRecords) t (reportRecords t) := fun t =>
    (frame_reportRecords t).widen rfl
  have h3 : Frame (.hold :: Part.ofRecords) s (queueOwn b s) := (frame_queueOwn b s).widen rfl
  have h4 : ∀ t, Frame (.hold :: Part.ofRecords) s t → Frame (.hold :: Part.ofRecords) s
      (tellHazard c a b (if reportable a b then reportRecords (t.setSlot i (some b)) else t.setSlot i (some b))) := by
    intro t h
    refine Frame.trans ?_ (h1 _)
    split
    · exact h.trans ((h0 t).trans (h2 _))
    · exact h.trans (h0 t)
  unfold replaceRecord
  refine h4 _ ?_
  split
  · exact h3
  · exact Frame.refl _ s

theorem frame_createRecord (c : ClosureContent) (s : State) : Frame Part.ofRecords s (createRecord c s) := by
  unfold createRecord
  dsimp only
  have h := frame_admitRecord (s.newRecord c) s
  split
  · exact Frame.refl _ s
  · split
    · next e =>
      rw [e] at h
      split
      · exact h.trans ((frame_queueOwn _ _).widen rfl)
      · exact h
    · next e =>
      rw [e] at h
      exact h

theorem frame_takeClosure (a : Bool) (sender : Byte) (b : ClosureBody) (s : State) :
    Frame (.hold :: Part.ofRecords) s (takeClosure a sender b s) := by
  unfold takeClosure
  split
  · exact Frame.refl _ s
  · split
    · split
      · exact (frame_createRecord _ s).widen rfl
      · split
        · exact Frame.refl _ s
        · exact frame_replaceRecord _ _ _ _ s
    · exact Frame.refl _ s

theorem frame_servePendingSlide (s : State) : Frame Part.ofRecords s (servePendingSlide s) := by
  unfold servePendingSlide
  split
  · exact ((frame_slidePending s false).widen rfl).trans (frame_carrySlide _)
  · exact Frame.refl _ s

theorem frame_removeRecord (i : Nat) (r : ClosureRecord) (s : State) : Frame Part.ofRecords s (removeRecord i r s) := by
  have h : Frame Part.ofRecords s (servePendingSlide (setFull false (vacate i s))) :=
    (frame_vacate i s).trans ((frame_setFull false _).trans (frame_servePendingSlide _))
  unfold removeRecord
  dsimp only
  split
  · exact h.trans (frame_autocloseTest _)
  · exact h

/-! ## Peers -/

theorem frame_storePeer (p : Peer) (s : State) : Frame [.peerEntries] s (storePeer p s) := frame_peerEntries s _

theorem frame_reportPeers (s : State) : Frame ([.neighbours, .effective] ++ Part.ofQuiet) s (reportPeers s) := by
  unfold reportPeers
  split
  · exact (frame_recomputeNeighbours s).trans ((frame_judgeQuiet _).widen rfl)
  · exact Frame.refl _ s

theorem frame_noteGap (a : Byte) (s : State) : Frame (.peerEntries :: Part.ofPresent) s (noteGap a s) := by
  unfold noteGap
  repeat' split
  all_goals first
    | exact Frame.refl _ s
    | exact (frame_present _ s).widen rfl
    | exact (frame_storePeer _ s).widen rfl

theorem frame_servePeer (h : FrameHeader) (take : Peer → Peer) (s : State) :
    Frame Part.ofFrame s (servePeer h take s).1 := by
  have h1 : ∀ p, Frame Part.ofFrame s (storePeer p s) := fun p => (frame_storePeer p s).widen rfl
  have h2 : ∀ t, Frame Part.ofFrame t (reportPeers t) := fun t => (frame_reportPeers t).widen rfl
  have h3 : ∀ a t, Frame Part.ofFrame t (noteGap a t) := fun a t => (frame_noteGap a t).widen rfl
  unfold servePeer
  split
  · dsimp only
    split
    · exact (h1 _).trans (h2 _)
    · exact h1 _
  · split
    · exact h1 _
    · dsimp only
      repeat' split
      all_goals first
        | exact (h1 _).trans ((h2 _).trans (h3 _ _))
        | exact (h1 _).trans (h3 _ _)
        | exact (h1 _).trans (h2 _)
        | exact h1 _

/-- The end of a received frame writes what the end of a frame and the peer table write, and what its kind's service
writes. -/
theorem frame_receiveFrame {ps : List Part} {serve : State → State} (hs : ∀ t, Frame ps t (serve t))
    (hf : ∀ p ∈ Part.ofFrame, p ∈ ps) (h : FrameHeader) (take : Peer → Peer) (s : State) :
    Frame ps s (receiveFrame h take serve s) := by
  have h1 : Frame ps s (endFrame s) :=
    (frame_endFrame s).mono (fun p hp => hf p (by revert p; decide))
  unfold receiveFrame
  dsimp only
  split
  · exact Frame.refl _ s
  · split
    · exact h1
    · split
      · exact h1.trans ((frame_addressConflict _).mono (fun p hp => hf p (by revert p; decide)))
      · have k := (frame_servePeer h take (endFrame s)).mono hf
        split
        · next e =>
          rw [e] at k
          exact h1.trans (k.trans (hs _))
        · next e =>
          rw [e] at k
          exact h1.trans k

theorem frame_answerInFault (s : State) : Frame Part.ofPresent s (answerInFault s) := by
  unfold answerInFault
  split
  · exact Frame.refl _ s
  · exact frame_present _ s

theorem frame_returnRecords (a : Byte) (s : State) : Frame Part.ofPresent s (returnRecords a s) :=
  frame_foldl (fun s _ => frame_present _ s) _ s

theorem frame_serveRecap (a b : Byte) (s : State) : Frame (.walker :: Part.ofFrame) s (serveRecap a b s) := by
  have h : Frame (.walker :: Part.ofFrame) s (restartWalker (present .status (present .announce s))) :=
    ((frame_present _ s).widen rfl).trans
      (((frame_present _ _).widen rfl).trans ((frame_restartWalker _).widen rfl))
  unfold serveRecap
  split
  · split
    · exact (frame_answerInFault s).widen rfl
    · dsimp only
      split
      · exact h.trans ((frame_returnRecords a _).widen rfl)
      · exact h
  · exact Frame.refl _ s

theorem frame_serveQuery (a b : Byte) (s : State) : Frame Part.ofFrame s (serveQuery a b s) := by
  unfold serveQuery
  split
  · split
    · exact (frame_answerInFault s).widen rfl
    · exact ((frame_present _ s).widen rfl).trans ((frame_present _ _).widen rfl)
  · exact Frame.refl _ s

theorem frame_serveFloor (a : Byte) (b : FloorBody) (s : State) :
    Frame ([.floor] ++ Part.ofFrame ++ Part.ofRecords) s (serveFloor a b s) := by
  unfold serveFloor
  split
  · exact (frame_applyFloor _ _ s).widen rfl
  · exact Frame.refl _ s

theorem frame_serveClosure (x : Bool) (a : Byte) (b : ClosureBody) (s : State) :
    Frame ([.hold] ++ Part.ofFrame ++ Part.ofRecords) s (serveClosure x a b s) := by
  unfold serveClosure
  split
  · exact (frame_takeClosure x a b s).widen rfl
  · exact Frame.refl _ s

theorem frame_setPresence (p : Peer) (x : Presence) (s : State) :
    Frame ([.peerEntries, .neighbours, .effective] ++ Part.ofQuiet) s (setPresence p x s) := by
  unfold setPresence
  dsimp only
  split
  · exact ((frame_storePeer _ s).widen rfl).trans ((frame_reportPeers _).widen rfl)
  · exact (frame_storePeer _ s).widen rfl

end Sys2Proof.Machine
end

