-- ==== Sys2Proof/WellFormed.lean ====
section
/-! DEFINITION. Well-formed commands: the ranges the rules give an operand beyond its type. -/

namespace Sys2Proof

/-- R95: a register index is 0 to 15. -/
def indexOk (i : Nat) : Bool := decide (i < 16)

/-- R79: a peer's address is 1 to 31. -/
def addressOk (a : Byte) : Bool := decide (1 ≤ a.toNat ∧ a.toNat ≤ 31)

/-- R61: the source of a good frame is 1 to 31. -/
def FrameHeader.ok (h : FrameHeader) : Bool := addressOk h.source

/-- Well-formedness: record indices, peer addresses and frame sources in range, at most 128 configuration bytes (R179). -/
def Instr.wf : Instr → Bool
  | .configurationReadEnd arrived => decide (arrived.length ≤ 128)
  | .announceReceived h _ => h.ok
  | .statusReceived h _ => h.ok
  | .closureReceived h _ => h.ok
  | .alertReceived h _ => h.ok
  | .floorReceived h _ => h.ok
  | .queryReceived h _ => h.ok
  | .recapReceived h _ => h.ok
  | .peerLate a => addressOk a
  | .peerSilent a => addressOk a
  | .recapTimerExpiry a => addressOk a
  | .leadExpiry i => indexOk i
  | .durationExpiry i => indexOk i
  | .liftedDisplayExpiry i => indexOk i
  | .recordStale i => indexOk i
  | .powerOnReset _ _ => true
  | .warmReset _ _ => true
  | .settlingStart => true
  | .runningEntry => true
  | .pulseEdge _ _ => true
  | .senseLineChange _ _ => true
  | .widthOverrange _ => true
  | .silenceTimerExpiry _ => true
  | .rateWindowEnd _ => true
  | .minuteClose => true
  | .hourClose => true
  | .slideContactChange _ => true
  | .slideConfirmationExpiry => true
  | .rearmTimerExpiry => true
  | .operatorFloorExpiry => true
  | .overrideHoldExpiry => true
  | .receiverIdleReached => true
  | .characterReceived _ _ => true
  | .frameDiscarded => true
  | .attemptStart => true
  | .attemptSuccess => true
  | .attemptFailed => true
  | .statusTimerExpiry => true
  | .announceTimerExpiry => true
  | .walkerStep => true
  | .refreshTimerExpiry _ => true
  | .pageSetSent => true
  | .ackReceived _ _ => true
  | .nakUnknownTemplate _ _ => true
  | .nakBadFormat _ _ => true
  | .replyTimeout => true
  | .xoffReceived => true
  | .xonReceived => true
  | .pauseLimit => true
  | .probeDue _ => true
  | .limitInputChange _ _ _ => true
  | .gateLeadElapsed _ => true
  | .dwellEnd _ => true
  | .travelStall _ => true
  | .stallRetry _ => true
  | .keyToLocal => true
  | .keyToRemote => true
  | .closeButtonPress => true
  | .openButtonPress _ => true
  | .quietEntry => true

end Sys2Proof
end

