-- ==== Sys2Proof/Tests/Slice0.lean ====
section
/-! SUPPORT. The model's own tests: ill-formed commands refused, the manual's worked examples, one or two small steps per
command, and for each obligation with hypotheses a witness that meets them. -/

namespace Sys2Proof.Tests

open Sys2Proof Sys2Proof.Machine

/-! ## A small station -/

/-- A station at 10,000 m with four channels, two gates and three signs. -/
def config : StationConfig :=
  { StationConfig.defaults with
    chainage := 10000,
    channels := ⟨{ ChannelConfig.defaults with mode := .rate, role := .wind, gain := 1024, limit := 250, release := 30 },
      { ChannelConfig.defaults with mode := .rate, role := .temp, gain := 1024, window := 3 },
      { ChannelConfig.defaults with mode := .total, role := .precip, gain := 128 },
      { ChannelConfig.defaults with mode := .width, role := .depth, gain := -176, offset := 400 }⟩,
    fitted := .fill true, signRoles := ⟨.eastApproach, .westApproach, .panel⟩, templates := ⟨1, 2, 3, 4, 5, 6, 7, 8⟩ }

/-- The station in a phase, at station time 100 s, its gates open and its signs OK. -/
def station (p : Phase) : State :=
  { State.reset with
    startup := { Startup.reset with phase := p, address := 12#8, config := config },
    clock := { Clock.reset with time := 100, minutesClosed := 1 },
    pins := { Pins.low with sense := .fill true, openLimit := .fill true },
    channels := ⟨{ Channel.reset with mode := .rate, role := .wind, windowsEnded := 100 },
      { Channel.reset with mode := .rate, role := .temp, windowsEnded := 33 },
      { Channel.reset with mode := .total, role := .precip },
      { Channel.reset with mode := .width, role := .depth, silence := some 0 }⟩,
    line := { Line.reset 0 with receiver := .hunting },
    register := { Register.reset with walkerTimer := if p = .running then some 2 else none },
    signs := ⟨{ SignState.reset with role := .eastApproach, lookAhead := 3000 },
      { SignState.reset with role := .westApproach, lookAhead := 3000 }, { SignState.reset with role := .panel }⟩,
    link := { Link.reset with signs := .fill { SignLink.reset with health := .ok } },
    gates := { Gates.reset with units := .fill { GateUnit.reset with state := .opened } } }

/-- The state after a command; the state itself were the command to stop. -/
def after (c : Instr) (s : State) : State :=
  match exec c s with
  | .next t => t
  | _ => s

/-- A header of the control station 30. -/
def control : FrameHeader := ⟨30#8, 7#8⟩

/-- A record of a kind, in a state, over the station. -/
def record (serial : Byte) (kind : ClosureKind) (state : ClosureState) : ClosureRecord :=
  { id := ⟨12#8, serial⟩, revision := 1#8, kind := kind, scopeLo := 9000, scopeHi := 11000, state := state, lead := 0,
    duration := none, template := 0#8, age := 0, stale := false, display := 0, own := true }

/-- The station in a phase with one record at index 0. -/
def holding (p : Phase) (r : ClosureRecord) : State := (station p).setSlot 0 (some r)

/-- The station, its register full of records like this one. -/
def crowded (r : ClosureRecord) : State :=
  (station .running).withRegister { (station .running).register with
    slots := (List.range 16).map (fun n => some { r with id := ⟨r.id.origin, byte n⟩ }) }

/-- A register of sixteen free places holds no record. -/
theorem holds_nothing (s : State) (h : s.register.slots = List.replicate 16 none) (j : Nat) (q : ClosureRecord) :
    s.recordAt j ≠ some q := by
  simp only [State.recordAt, h, List.getElem?_replicate]
  split <;> simp

/-- The station that holds one record holds no other. -/
theorem holds_one (p : Phase) (r : ClosureRecord) (j : Nat) (q : ClosureRecord) (h : (holding p r).recordAt j = some q) :
    q = r := by
  cases j with
  | zero => exact (Option.some.inj h).symm
  | succ n => exact absurd h (by
      show ((List.replicate 15 none)[n]?).join ≠ some q
      simp only [List.getElem?_replicate]
      split <;> simp)

/-! ## Ill-formed commands are refused (R61, R79, R95, R179) -/

theorem test_wf_index : (Instr.leadExpiry 16).wf = false ∧ (Instr.leadExpiry 15).wf = true
    ∧ (Instr.durationExpiry 16).wf = false ∧ (Instr.liftedDisplayExpiry 16).wf = false
    ∧ (Instr.recordStale 16).wf = false := by decide
theorem test_wf_address : (Instr.peerLate 0#8).wf = false ∧ (Instr.peerLate 31#8).wf = true
    ∧ (Instr.peerSilent 32#8).wf = false ∧ (Instr.recapTimerExpiry 0#8).wf = false := by decide
theorem test_wf_source : (Instr.queryReceived ⟨32#8, 0#8⟩ 0#8).wf = false ∧ (Instr.queryReceived control 0#8).wf = true
    ∧ (Instr.recapReceived ⟨0#8, 0#8⟩ 0#8).wf = false ∧ (Instr.floorReceived ⟨0#8, 0#8⟩ ⟨0, 0, 0⟩).wf = false
    ∧ (Instr.announceReceived ⟨0#8, 0#8⟩ ⟨0, 0, 0, 0, 0, 0⟩).wf = false := by decide
set_option maxRecDepth 8000 in
theorem test_wf_image : (Instr.configurationReadEnd (List.replicate 129 0#8)).wf = false
    ∧ (Instr.configurationReadEnd (List.replicate 128 0#8)).wf = true := by decide
theorem test_no_word_spells_a_command : decodeTableWord 16 0 = none := by decide

/-! ## The manual's worked examples -/

set_option maxRecDepth 8000 in
/-- 12_bulletin_page_and_configuration_formats.md, R188: the CRC of "123456789". -/
theorem test_crc_check_value :
    crc [0x31#8, 0x32#8, 0x33#8, 0x34#8, 0x35#8, 0x36#8, 0x37#8, 0x38#8, 0x39#8] = 0x29B1#16 := by decide

/-- Worked scalings (chapter 01). -/
theorem test_worked_scalings :
    scale 48 7168 0 = 336 ∧ scale 1866 (-176) 400 = 79 ∧ scale 2532 1024 (-2732) = -200 ∧ scale 3 512 0 = 2
      ∧ scale 3 (-512) 0 = -2 ∧ scale 16777215 40 0 = 32767 ∧ scale 9 0 (-32768) = -32767 := by decide
theorem test_worked_scalings_clamped :
    scaleClamped 1866 (-176) 400 = false ∧ scaleClamped 16777215 40 0 = true ∧ scaleClamped 9 0 (-32768) = true := by
  decide

/-- Worked minute samples (chapter 01), and the fourth absent window. -/
theorem test_worked_minute_samples :
    rateMinute [some 120, none, some 131, some 128, none, some 126] = ⟨some 126, some 131⟩
      ∧ rateMinute (List.replicate 10 (some (-3)) ++ List.replicate 10 (some (-4))) = ⟨some (-4), some (-3)⟩
      ∧ rateMinute [some 120, none, none, some 128, none, none] = ⟨none, none⟩ := by decide

/-- The samples of a comparator, one after the other. -/
def runs (k : ChannelConfig) : Bool × Nat → List Value → List (Bool × Nat)
  | _, [] => []
  | p, v :: rest => Machine.compare k p.1 p.2 v :: runs k (Machine.compare k p.1 p.2 v) rest

/-- Worked comparator run (chapter 01). -/
theorem test_worked_comparator_run :
    runs config.channels.one (false, 0)
        [some 240, some 260, some 270, none, some 255, some 240, some 215, some 210, none, some 251, some 200, some 205,
         some 219]
      = [(false, 0), (false, 1), (false, 2), (false, 2), (true, 0), (true, 0), (true, 1), (true, 2), (true, 2), (true, 0),
         (true, 1), (true, 2), (false, 0)] := by decide

/-- The station of the worked record (chapter 02) at its hour close. -/
def workedHour : State :=
  let s := station .running
  let sample := fun (v : Int) => (⟨some v, none⟩ : MinuteSample)
  (((s.setChannel .c1 { s.channels.one with minutes := sample 142 :: List.replicate 43 (sample 120), hourPeak := some 287 }
    ).setChannel .c2 { s.channels.two with minutes := sample (-61) :: List.replicate 28 (sample (-118)) }
    ).setChannel .c3 { s.channels.three with minutes := List.replicate 58 (sample 7), hourCount := 412 }
    ).setChannel .c4 { s.channels.four with minutes := List.replicate 59 (sample 140) ++ [sample 143] }

theorem test_worked_record :
    ((workedHour.withRetained { workedHour.retained with hourSerial := 517#16 }).withPartialPending false).hourRecord
      = { serial := 517#16, isPartial := false, present := ⟨44, 29, 58, 60⟩, precipitation := some 52,
          meanWind := some 121, gust := some 287, tempMin := none, tempMax := none, depth := some 143 } := by decide

/-- An hourly record of the worked hazard case (chapter 03). -/
def workedRecord (i : Nat) : HourRecord :=
  { serial := 0#16, isPartial := false, present := .fill 60, precipitation := if i < 2 then none else some 13,
    meanWind := some (if i < 9 then 70 else 69), gust := none, tempMin := some (-62), tempMax := some 15,
    depth := some (if i < 6 then 143 else 118) }

set_option maxRecDepth 8000 in
/-- Worked hazard case: the four terms and the score. -/
theorem test_worked_hazard_case :
    (let m : Retained := { Retained.lost with records := (List.range 72).map workedRecord, count := 72 }
     let h := compute StationConfig.defaults m { Hazard.reset with computed := 2 }
     [h.termA, h.termB, h.termC, h.termD, h.score, h.computed]) = [62, 27, 15, 12, 116, 2] := by decide

/-- The table under R42 and the worked hour closes of chapter 03. -/
theorem test_worked_levels :
    (let f := nextLevel ⟨40, 80, 120, 160, 200⟩ 15
     [f 116 2, f 131 2, f 104 3, f 105 3, f 30 2, f 255 1, f 190 5]) = [2, 3, 2, 3, 1, 5, 5] := by decide

/-- R167's example. -/
theorem test_slow_travel_example :
    slowTravel [298, 304, 301, 297] 600 = false ∧ slowTravel [298, 304, 301, 297] 601 = true
      ∧ slowTravel [298, 304, 301] 900 = false := by decide

/-- The queue of the worked example of chapter 04, and its eight presentations. -/
theorem test_worked_queue :
    (let id := fun (n : Nat) => (⟨3#8, BitVec.ofNat 8 n⟩ : RecId)
     let start := (List.range 8).map (fun n => Bulletin.closure (id n)) ++ [.recap 9, .recap 17, .status, .announce]
     [Bulletin.closure (id 8), .status, .recap 4, .announce, .recap 9, .recap 20, .alert (id 9)].foldl
       (fun q e => enqueue e q) start)
      = Bulletin.alert ⟨3#8, 9#8⟩ :: (List.range 9).map (fun n => Bulletin.closure ⟨3#8, BitVec.ofNat 8 n⟩)
          ++ [.recap 9, .recap 17] := by decide

/-- Worked collision (chapter 04): a first wait with draw 5, a retry wait with draw 6, an ALERT's with draw 1. -/
theorem test_worked_waits :
    requiredIdle 3 0 5 = 15 ∧ requiredIdle 3 8 6 = 24 ∧ requiredIdle 0 0 1 = 5 := by decide

/-- Worked page set and reply (chapter 12). -/
theorem test_worked_page_set :
    pageSetMessage .s2 ⟨⟨21#8, 24, 0, 1, 1, none⟩, none, 1⟩
      = [0x02#8, 0x02#8, 0x01#8, 0x15#8, 0x00#8, 0x18#8, 0x00#8, 0x00#8, 0x00#8, 0x01#8, 0x00#8, 0x01#8, 0x00#8, 0x34#8] := by
  decide
theorem test_worked_ack :
    checkReply [0x06#8, 0x42#8, 0x40#8, 0x40#8, 0x43#8, 0x44#8] = some (.ackReceived 2#4 0x0034#16) := by decide

/-- Worked substitution (chapter 11): the image of the example, every other value in range. -/
def workedImage : List Byte :=
  let w := fun (n : Nat) => [hiByte (word n), loByte (word n)]
  let block := fun (hold : Nat) => [0#8, 0#8, 0#8] ++ w 0 ++ w 0 ++ w 5 ++ [0#8, byte hold] ++ w 0 ++ [1#8]
  w 10000 ++ w 1500 ++ w 400 ++ w 3000 ++ [28#8, 31#8] ++ block 3 ++ block 0 ++ block 3 ++ block 3
    ++ [40#8, 80#8, 80#8, 160#8, 200#8, 15#8] ++ w 70 ++ [4#8] ++ w 1800 ++ [3#8] ++ w 2000 ++ w 20 ++ [20#8] ++ w 450
    ++ [1#8, 2#8, 3#8] ++ w 3000 ++ w 3000 ++ w 3000 ++ List.replicate 32 0#8

set_option maxRecDepth 8000 in
theorem test_worked_substitution :
    (let k := configOf (substituteControlRange 28#8 (substituteValues workedImage)).1
     (k.thresholds, k.channels.two.hold, k.gateLead, k.controlFirst, k.controlLast))
      = (⟨40, 80, 120, 160, 200⟩, 3, 120, 29, 31)
    ∧ controlRangeUnusable 28#8 (substituteValues workedImage).1 = false
    ∧ controlRangeUnusable 30#8 (substituteValues workedImage).1 = true
    ∧ workedImage.length = 126 := by decide

/-- Worked arbitration (chapter 08): with last served 2, sign 3 is first among equals. -/
theorem test_worked_arbitration :
    (let ps : PageSet := ⟨blankPage, none, 5⟩
     let s := (station .running).withLink { Link.reset with
       lastServed := .s2,
       signs := ⟨SignLink.reset, { SignLink.reset with health := .ok, waiting := some ps },
         { SignLink.reset with health := .ok, waiting := some ps }⟩ }
     (arbitrate s).link.lastServed) = .s3 := by decide

/-- A record of the worked selection (chapter 07). -/
def selected (origin serial : Byte) (kind : ClosureKind) (state : ClosureState) (lo hi lead : Nat) (template : Byte)
    (stale : Bool) : Option ClosureRecord :=
  some { record serial kind state with
    id := ⟨origin, serial⟩, scopeLo := lo, scopeHi := hi, lead := lead, template := template, stale := stale,
    own := false }

/-- The station of the worked selection. -/
def workedSelection : State :=
  let s := station .running
  let k : StationConfig := { config with
    chainage := 12400, lookAheads := ⟨3000, 2000, 3000⟩, templates := ⟨21, 22, 23, 24, 25, 26, 27, 28⟩ }
  let slots :=
    [selected 7 40 .avalanche .inForce 13600 15000 0 0 false, selected 30 3 .season .announced 9000 10500 1500 40 false,
     selected 5 9 .slide .inForce 14800 15200 0 0 true, selected 11 2 .avalanche .announced 16000 18000 600 0 false]
  ((((s.withStartup { s.startup with config := k }).withHazard { s.hazard with effective := 3 }).setChannel .c1
    { s.channels.one with alert := true, latest := some 262 }).setSign .s2
    { s.signs.two with lookAhead := 2000 }).withRegister
      { s.register with slots := slots ++ List.replicate 12 none }

theorem test_worked_selection_pages :
    workedSelection.buildPageSet .s1
        = ⟨⟨21#8, 24, 0, 1, 1, some ⟨5, 9⟩⟩, some ⟨22#8, 12, 0, 2, 0, some ⟨7, 40⟩⟩, 1⟩
      ∧ workedSelection.buildPageSet .s2
        = ⟨⟨40#8, 19, 25, 4, 0, some ⟨30, 3⟩⟩, some ⟨25#8, 262, 1, 250, 0, none⟩, 3⟩
      ∧ workedSelection.buildPageSet .s3 = ⟨⟨25#8, 262, 1, 250, 0, none⟩, none, 5⟩ := by decide

/-! ## One small step per command (the rule each expected result is read from stands in the name's command) -/

/-- The station with a transfer to sign 1 in a state of the link. -/
def linked (k : LinkState) (t : Transfer) : State :=
  let s := station .running
  s.withLink { s.link with state := k, transfer := some t }

/-- A one-page transfer to sign 1. -/
def transfer : Transfer :=
  { sign := .s1, pages := ⟨{ blankPage with template := 21#8, carries := some ⟨12, 3⟩ }, none, 2⟩, probe := false,
    progress := 0, pause := 0, reply := 0 }

/-- The station with gate E in a state. -/
def gated (p : Phase) (u : GateUnit) (openActive closedActive : Bool) : State :=
  ((station p).setGate .e u).withPins
    { (station p).pins with openLimit := ⟨openActive, true⟩, closedLimit := ⟨closedActive, false⟩ }

/-- A peer at 900 m from the station. -/
def peer : Peer :=
  { address := 9#8, control := false, chainage := some 10900, lastSequence := 4#8, age := 121, interval := 60,
    presence := .heard, level := some 4, gap := false, recapTimer := none }

/-- The station with one peer. -/
def neighboured (p : Peer) : State := (station .running).withPeers { PeerTable.reset with entries := [p] }

/-- The body of a closure of the station at address 9 over this one. -/
def closure (revision kind state : Byte) : ClosureBody :=
  { origin := 9#8, serial := 1#8, revision := revision, kind := kind, scopeLo := 9000#16, scopeHi := 11000#16,
    state := state, lead := 600#16, minutes := 0#16, template := 0#8 }

/-- The STATUS body of a neighbour at computed level 4. -/
def status : StatusBody := { (station .running).statusBody with chainage := 10900#16, computed := 4#8, effective := 4#8 }

theorem test_power_on_reset : (after (.powerOnReset 12#5 1#2) (station .running)).startup.address = 12#8
    ∧ (after (.powerOnReset 12#5 1#2) (station .running)).phase = .configRead := by decide
theorem test_warm_reset : (after (.warmReset 0#5 0#2) (workedHour.withRetained
    { Retained.lost with ownSerial := 9#8 })).retained.ownSerial = 9#8 := by decide
theorem test_configuration_read_end : (after (.configurationReadEnd []) State.reset).phase = .configFault := by decide
theorem test_settling_start : (after .settlingStart (station .joining)).phase = .settling := by decide
theorem test_running_entry : (after .runningEntry (station .settling)).register.walkerIndex = 1 := by decide
theorem test_pulse_edge : (after (.pulseEdge .c3 true) (station .running)).channels.three.hourCount = 1
    ∧ (after (.pulseEdge .c3 false) (station .running)).channels.three.hourCount = 0 := by decide
theorem test_sense_line_change : (after (.senseLineChange .c1 false) (station .running)).channels.one.windowLow = true := by
  decide
theorem test_width_overrange : (after (.widthOverrange .c4) ((station .running).setChannel .c4
    { (station .running).channels.four with pulse := some 65536, latest := some 7 })).channels.four.latest = none := by
  decide
theorem test_silence_timer : (after (.silenceTimerExpiry .c4) ((station .running).setChannel .c4
    { (station .running).channels.four with silence := some 1000000 })).channels.four.silence = some 0 := by decide
/-- R8: a pulse that completes at the instant the silence timer expires gives both samples, in either order. -/
theorem test_silence_and_pulse :
    (let s := (station .running).setChannel .c3 { (station .running).channels.four with
       pulse := some 1866, silence := some 1000000 }
     let edgeFirst := (after (.silenceTimerExpiry .c3) (after (.pulseEdge .c3 false) s)).channels.three
     let timerFirst := (after (.pulseEdge .c3 false) (after (.silenceTimerExpiry .c3) s)).channels.three
     (edgeFirst.latest, edgeFirst.minuteWidth.isSome, timerFirst.latest.isSome)) = (none, true, true) := by decide
theorem test_rate_window_end : (after (.rateWindowEnd .c1) ((station .running).setChannel .c1
    { (station .running).channels.one with windowsEnded := 99, windowCount := 48 })).channels.one.windows = [some 48] := by
  decide
theorem test_minute_close : (after .minuteClose ((station .running).withClock
    { Clock.reset with time := 60 })).clock.minutesClosed = 1 := by decide
theorem test_hour_close : (after .hourClose ((station .running).withClock
    { Clock.reset with time := 3600, minutesClosed := 60 })).retained.count = 1 := by decide
theorem test_slide_contact : (after (.slideContactChange true) (station .running)).slide.confirm = some 0 := by decide
theorem test_slide_confirmed :
    (after .slideConfirmationExpiry (((station .running).withSlide ⟨.confirming, some 20000, none, false⟩).withPins
      { Pins.low with contact := true })).line.queue.head? = some (.alert ⟨12#8, 0#8⟩) := by decide
theorem test_rearm : (after .rearmTimerExpiry ((station .running).withSlide
    ⟨.tripped, none, some 500000, false⟩)).slide.state = .armed := by decide
theorem test_floor_expiry : (after .operatorFloorExpiry ((station .running).withHazard
    { Hazard.reset with floorLevel := 3, effective := 3 })).hazard.effective = 0 := by decide
theorem test_hold_expiry : (after .overrideHoldExpiry ((station .running).withHazard
    { Hazard.reset with hold := some 0 })).hazard.hold = none := by decide
theorem test_receiver_idle : (after .receiverIdleReached ((station .running).withLine
    { (station .running).line with idle := 4000000 })).line.receiver = .ready := by decide
theorem test_character : (after (.characterReceived 5#8 false) ((station .running).withLine
    { (station .running).line with receiver := .ready })).line.buffer = [5#8] := by decide
theorem test_frame_discarded : (after .frameDiscarded ((station .running).withLine
    { (station .running).line with receiver := .discarding })).line.receiver = .hunting := by decide
theorem test_announce : ((after (.announceReceived ⟨9#8, 5#8⟩ ⟨10900, 0, 0, 0, 0, 1#8⟩) (neighboured peer)).peers.entries.map
    Peer.level) = [none] := by decide
theorem test_status : (after (.statusReceived ⟨9#8, 5#8⟩ status) (station .running)).hazard.neighbourFloor = 3 := by decide
theorem test_closure : ((after (.closureReceived ⟨9#8, 5#8⟩ (closure 0 2 2)) (station .running)).recordAt 0).map
    ClosureRecord.state = some .inForce := by decide
theorem test_alert_not_a_slide : (after (.alertReceived ⟨9#8, 5#8⟩ (closure 0 2 2)) (station .running)).recordAt 0 = none := by
  decide
/-- R115, R101: room is sought for an ANNOUNCED record with the lead it comes with; one that is not relevant takes no step 2. -/
theorem test_announced_seeks_room_first :
    (let r := { record 3 .avalanche .announced with own := false, scopeLo := 30000, scopeHi := 31000 }
     let s := crowded r
     (s.evictIndex { r with lead := 0 }, s.evictIndex { r with state := .inForce })) = (none, some 0) := by decide
theorem test_floor : (after (.floorReceived control ⟨0, 9, 2000⟩) (station .running)).hazard.floorLevel = 5
    ∧ (after (.floorReceived control ⟨0, 9, 2000⟩) (station .running)).hazard.floorRemaining = 86400 := by decide
theorem test_query : (after (.queryReceived control 12#8) (station .running)).line.queue = [.status, .announce] := by decide
theorem test_recap : (after (.recapReceived control 0#8) (station .running)).register.walkerTimer = some 2 := by decide
/-- The station with a STATUS waiting, its wait's idle reached. -/
def waited : State := (station .running).withLine { (station .running).line with
  queue := [.status], wait := some (.counting 3 0 5 15000000), idle := 15000000 }
theorem test_attempt_start : (after .attemptStart waited).line.ownSequence = 1#8 := by decide
/-- A bulletin of two characters in flight, the sending come so far. -/
def flown (attempts echoed elapsed : Nat) (failed trouble : Bool) (run : Nat) : State :=
  (station .running).withLine { (station .running).line with
    inFlight := some ⟨.status, 0#8, [2#8, 12#8]⟩, attempts := attempts, sending := some ⟨echoed, failed, elapsed⟩,
    lineTrouble := trouble, successRun := run }
theorem test_attempt_success : (after .attemptSuccess (flown 1 2 2000000 false true 3)).line.lineTrouble = false := by decide
theorem test_attempt_failed : (after .attemptFailed (flown 16 0 1000000 true false 0)).line.lineTrouble = true
    ∧ (after .attemptFailed (flown 15 0 1000000 true false 0)).line.inFlight.isSome = true := by decide
/-- R72: an echo is received by the end of its character's stop bit, or the comparison fails. -/
theorem test_echo_in_time_and_late :
    ((after (.characterReceived 2#8 false) (flown 1 0 50000 false false 0)).line.sending.map Transmission.echoed,
      (after (.characterReceived 2#8 false) (flown 1 0 60000 false false 0)).line.sending.map Transmission.failed)
      = (some 1, some true) := by decide
/-- R72: an attempt whose every character has passed succeeds, whatever start bit comes before the instant of its success. -/
theorem test_success_whatever_follows :
    (let s := after (.characterReceived 9#8 true) (flown 1 2 1995000 false false 0)
     (s.line.sending.map Transmission.failed, (after .attemptSuccess (advanceTick s)).line.inFlight)) = (some false, none) := by
  decide
theorem test_peer_late : (after (.peerLate 9#8) (neighboured peer)).peers.entries.map Peer.presence = [.late] := by decide
theorem test_peer_silent : (after (.peerSilent 9#8) (neighboured { peer with presence := .late, age := 241 })
    ).hazard.neighbourSilent = true := by decide
theorem test_recap_timer : (after (.recapTimerExpiry 9#8) (neighboured { peer with gap := true, recapTimer := some 120 })
    ).line.queue = [.recap 9#8] := by decide
theorem test_status_timer : (after .statusTimerExpiry ((station .running).withPeers
    { PeerTable.reset with statusTimer := some 60 })).line.queue = [.status] := by decide
theorem test_announce_timer : (after .announceTimerExpiry ((station .joining).withPeers
    { PeerTable.reset with announceTimer := some 900 })).line.queue = [.announce] := by decide
theorem test_lead_expiry : (after (.leadExpiry 0) (holding .running (record 3 .avalanche .announced))).gates.units.east.state
    = .closePending := by decide
theorem test_duration_expiry : ((after (.durationExpiry 0) (holding .running
    { record 3 .slide .inForce with duration := some 0 })).recordAt 0).map (fun r => (r.display, r.duration))
    = some (600, none) := by decide
/-- R89: rounded up to whole minutes, and a present duration is never sent as 0. -/
theorem test_duration_minutes : [none, some 0, some 1, some 60, some 61].map durationMinutes = [0, 1, 1, 1, 2] := by decide
theorem test_lifted_display : (after (.liftedDisplayExpiry 0) (holding .running (record 3 .slide .lifted))).recordAt 0
    = none := by decide
theorem test_record_stale : ((after (.recordStale 0) (holding .running
    { record 3 .slide .inForce with own := false, age := 901 })).recordAt 0).map ClosureRecord.stale = some true := by decide
theorem test_walker : (after .walkerStep ((holding .running (record 3 .slide .inForce)).withRegister
    { (holding .running (record 3 .slide .inForce)).register with walkerTimer := some 0 })).line.queue
    = [.closure ⟨12#8, 3#8⟩] := by decide
theorem test_refresh : (after (.refreshTimerExpiry .s1) ((station .running).setSign .s1
    { (station .running).signs.one with refresh := some 300, offered := some .blank })).link.state = .sending := by decide
theorem test_page_set_sent : (after .pageSetSent (linked .sending { transfer with progress := 14000000 })).link.state
    = .awaiting := by decide
theorem test_ack : (after (.ackReceived 1#4 (checkValue .s1 transfer.pages)) ((linked .awaiting transfer).setSlot 0
    (some (record 3 .avalanche .inForce)))).signs.one.displayed = [(⟨12#8, 3#8⟩, 100)] := by decide
theorem test_nak_template : (after (.nakUnknownTemplate 1#4 1#4) (linked .awaiting transfer)).signs.one.refused = [21#8] := by
  decide
theorem test_nak_format : (after (.nakBadFormat 1#4 0#4) (linked .awaiting transfer)).link.signs.one.failures = 1 := by decide
theorem test_reply_timeout : (after .replyTimeout (linked .awaiting transfer)).link.signs.one.failures = 1 := by decide
theorem test_xoff : (after .xoffReceived (linked .sending { transfer with progress := 2500000 })).link.state = .sending
    ∧ (after .xoffReceived (linked .sending { transfer with progress := 2500000 })).link.held = true := by decide
/-- R144: the present character completes, and the tick of its stop bit enters PAUSED. -/
theorem test_xoff_takes_effect :
    (let s := after .xoffReceived (linked .sending { transfer with progress := 2990000 })
     let t := advanceTick s
     (t.link.state, t.link.transfer.map Transfer.progress, (advanceTick t).link.transfer.map Transfer.progress))
      = (.sending, some 2999600, some 3000000) := by decide
theorem test_xon : (after .xonReceived (linked .pausedAwaiting transfer)).link.state = .awaiting := by decide
theorem test_pause_limit : (after .pauseLimit (linked .pausedSending { transfer with pause := 1000001 })
    ).link.signs.one.failures = 1 := by decide
/-- R141: two character times of idle end the worked ACK of chapter 12, which is then acted on. -/
theorem test_reply_pair_reads_a_reply :
    (advanceTick ((linked .awaiting transfer).withReplyPair { ReplyPair.reset with
      elapsed := 1992000, reply := encodeAck 2#4 0x0034#16 })).pending = [.ackReceived 2#4 0x0034#16] := by decide
theorem test_reply_pair_reads_xoff :
    (advanceTick ((linked .awaiting transfer).withReplyPair { ReplyPair.reset with
      onPair := some ⟨0x13#8, false⟩, elapsed := 995000 })).pending = [.xoffReceived] := by decide
theorem test_probe_due : (after (.probeDue .s1) (((station .running).setSignLink .s1
    ⟨.fault, 3, none, .counting 6000000⟩).setSign .s1 { (station .running).signs.one with offered := some .blank })
    ).link.transfer.map Transfer.probe = some true := by decide
theorem test_limit_both_lock_out : (after (.limitInputChange .e .closedLimit true)
    (gated .running { GateUnit.reset with state := .closing, demand := some .closed } true false)).gates.units.east.state
    = .lockedOut := by decide
theorem test_limit_completes : (after (.limitInputChange .e .closedLimit true)
    (gated .running { GateUnit.reset with state := .closing, demand := some .closed, travel := some 314000,
                                          fullTravel := true } false false)).retained.closing.east = [31] := by decide
theorem test_gate_lead : (after (.gateLeadElapsed .w) ((station .running).setGate .w
    { GateUnit.reset with state := .closePending, demand := some .closed, pendingEntry := some 0 })).gates.units.west.state
    = .closePending := by decide
/-- R156: the lamp of a closing gate is lit in one half of a second and not in the other. -/
theorem test_lamp :
    (let s := gated .running { GateUnit.reset with state := .closing } false false
     (s.lampLit .e, (s.withClock { s.clock with tick := 50000 }).lampLit .e, (station .running).lampLit .e))
      = (true, false, false) := by decide
theorem test_dwell : (after (.dwellEnd .e) (gated .running
    { GateUnit.reset with state := .reversing, demand := some .closed, dwell := some 200000 } false false)
    ).gates.units.east.travel = some 0 := by decide
theorem test_stall : (after (.travelStall .e) (gated .running
    { GateUnit.reset with state := .closing, demand := some .closed, travel := some 4500000 } false false)
    ).gates.units.east.state = .stalled := by decide
theorem test_stall_retry : (after (.stallRetry .e) (gated .running
    { GateUnit.reset with state := .stalled, stalls := 1, stallWait := some 1000000 } false false)).gates.units.east.state
    = .opening := by decide
theorem test_key_to_local : (after .keyToLocal (gated .running
    { GateUnit.reset with state := .closing, demand := some .closed } false false)).gates.units.east.state
    = .unpositioned := by decide
theorem test_key_to_remote : (after .keyToRemote ((station .running).withGates
    { (station .running).gates with keyLocal := true, localDemand := some .closed })).gates.units.east.demand
    = some .opened := by decide
/-- The station in LOCAL. -/
def manned : State := (station .running).withGates { (station .running).gates with keyLocal := true }
theorem test_close_button : (after .closeButtonPress manned).gates.units.west.state = .closing := by decide
theorem test_open_button_disregarded : after (.openButtonPress true) manned = manned := by decide
/-- The station with its QUIET entry timer run out. -/
def resting : State := (station .running).withStartup { (station .running).startup with entryTimer := some 300 }
theorem test_quiet_entry : (after .quietEntry resting).startup.quiet = true
    ∧ (after .quietEntry resting).line.queue = [.status] := by decide
/-- R92, R189: the first ten bytes of a QUIET station's STATUS: 10,000 m, 600 s, the levels at 0, the QUIET flag. -/
theorem test_status_body : ((resting.withStartup { resting.startup with quiet := true }).bulletinBody .status).map (List.take 10)
    = some [0x27#8, 0x10#8, 0x02#8, 0x58#8, 0#8, 0#8, 0#8, 0#8, 0x10#8, 0#8] := by decide
theorem test_idle_ticks : (match step (station .running) with
    | .next t => t.clock.tick
    | _ => 0) = 1 := by decide

/-! ## Witnesses: for each obligation with hypotheses, a state and operands that meet them, clause by clause -/

theorem wit_StepRunsTheFrontCommand : ∃ (s : State) (c : Instr) (rest : List Instr), s.pending = c :: rest :=
  ⟨(station .running).withPending [.keyToLocal, .hourClose], _, _, rfl⟩

theorem wit_StepIdlesWhenNothingWaits :
    ((station .joining).pending = [] ∧ due (station .joining) ≠ [])
      ∧ (due (station .running) = [] ∧ (station .running).phase ≠ .configRead ∧ (station .running).clock.tick < 99999)
      ∧ (station .configRead).phase = .configRead
      ∧ (let r := { record 3 .avalanche .announced with lead := 5 }
         let s := ((holding .running r).withPeers { PeerTable.reset with entries := [peer], statusTimer := some 9 }
           ).withClock { Clock.reset with tick := 99999 }
         s.phase ≠ .configRead ∧ s.clock.tick = 99999 ∧ s.findPeer 9#8 = some peer ∧ s.phase.operating = true
           ∧ s.recordAt 0 = some r ∧ s.phase.serving = true ∧ s.startup.quiet = false ∧ s.phase = .running)
      ∧ (station .joining).phase.serving = false ∧ (station .configFault).phase.operating = false := by decide

/-- The timers finer than a second, each of them running. -/
theorem wit_StepIdlesWhenNothingWaits_ticks :
    (let s := ((((station .running).withLine { (station .running).line with
            wait := some (.counting 1 8 2 77), sending := some ⟨0, false, 5⟩ }).setChannel .c4
            { (station .running).channels.four with pulse := some 3, silence := some 4 }).withSlide
              ⟨.confirming, some 7, some 8, false⟩).withPins { (station .running).pins with sense := .fill false }
     s.phase ≠ .configRead ∧ s.phase.operating = true ∧ s.channels.four.pulse = some 3 ∧ s.channels.four.silence = some 4
       ∧ s.channels.three.mode = .total ∧ s.pins.sense.get .c3 = false ∧ s.channels.one.mode ≠ .total
       ∧ s.slide.confirm = some 7 ∧ s.slide.rearm = some 8 ∧ s.line.wait = some (.counting 1 8 2 77)
       ∧ s.line.sending = some ⟨0, false, 5⟩ ∧ s.startup.rateCode = 0)
      ∧ ((gated .running { GateUnit.reset with travel := some 5, dwell := some 6, stallWait := some 7 } false false
        ).gates.units.get .e).travel = some 5
      ∧ ((station .configFault).phase ≠ .configRead ∧ (station .configFault).phase.operating = false) := by decide
/-- A station in the middle of things: twelve entries waiting, an IN-FORCE record closing both gates and displayed on
sign 1, a peer at level 4, an hourly record, a travel in each history, a command waiting. -/
def busy : State :=
  let s := holding .running (record 3 .avalanche .inForce)
  let moving : GateUnit := { GateUnit.reset with
    state := .closing, demand := some .closed, demanding := some ⟨12, 3⟩, travel := some 5 }
  { s with
    pending := [.receiverIdleReached],
    line := { s.line with queue := (List.range 10).map (fun n => Bulletin.recap (BitVec.ofNat 8 n)) ++ [.status, .announce] },
    peers := { PeerTable.reset with entries := [peer] },
    hazard := { Hazard.reset with computed := 5, neighbourFloor := 3, effective := 5 },
    retained := { Retained.lost with
      records := [{ workedRecord 0 with serial := 516#16 }], count := 1, hourSerial := 517#16,
      closing := .fill (List.replicate 8 300) },
    signs := s.signs.set .s1 { s.signs.one with acknowledged := some transfer.pages, displayed := [(⟨12, 3⟩, 50)] },
    gates := { s.gates with units := .fill moving } }

/-- Gate E waiting for its lead since station time 0, with its facing sign in a health. -/
def leading (now : Nat) (h : Health) : State :=
  (((station .running).setGate .e { GateUnit.reset with
    state := .closePending, demand := some .closed, pendingEntry := some 0 }).setSignLink .s1
      { SignLink.reset with health := h }).withClock { Clock.reset with time := now }

/-- The station in QUIET, its signs blank. -/
def quiet : State :=
  let s := station .running
  { s with
    pending := [.keyToRemote],
    startup := { s.startup with quiet := true },
    signs := ⟨{ s.signs.one with offered := some .blank }, { s.signs.two with offered := some .blank },
      { s.signs.three with offered := some .blank }⟩ }

theorem wit_steps : (∃ t, step busy = .next t) ∧ ∃ t, step quiet = .next t := ⟨⟨_, rfl⟩, ⟨_, rfl⟩⟩
theorem wit_TransmitQueueLawIsKept : QueueLaw busy := by unfold QueueLaw; decide
/-- A queue with room, a full one that gives way, a full one that does not, and an entry that is queued. -/
theorem wit_TransmitQueueLawIsKept_entries :
    let q := (List.range 11).map (fun n => Bulletin.closure ⟨9#8, byte n⟩)
    (q.Pairwise (fun a b => a.cls ≤ b.cls) ∧ q.length < 12 ∧ Bulletin.status ∉ q ∧ Bulletin.closure ⟨9#8, 3#8⟩ ∈ q)
      ∧ (let full := q ++ [Bulletin.status]
         full.Pairwise (fun a b => a.cls ≤ b.cls) ∧ full.length = 12 ∧ full.getLast? = some .status
           ∧ Bulletin.announce ∉ full ∧ Bulletin.alert ⟨12#8, 3#8⟩ ∉ full) := by decide
theorem wit_EffectiveLevelLawIsKept : LevelLaw busy := by unfold LevelLaw; decide
theorem wit_RegisterLawIsKept : RegisterLaw busy := by unfold RegisterLaw; decide
theorem wit_QueuedAlertsStayOwn :
    (let s := busy.withLine { busy.line with queue := [.alert ⟨12, 3⟩, .closure ⟨12, 3⟩, .status] }
     RegisterLaw s ∧ AlertLaw s ∧ EntryLaw s ∧ (∃ t, step s = .next t)) := by
  refine ⟨by unfold RegisterLaw; decide, fun id h => ?_, fun id h => ?_, _, rfl⟩
  · rcases List.mem_cons.mp h with h | h
    · rw [Bulletin.alert.inj h]; rfl
    · rcases List.mem_cons.mp h with h | h
      · exact nomatch h
      · exact nomatch List.mem_singleton.mp h
  · have e : id = ⟨12, 3⟩ := by rcases h with h | h <;> simpa [State.withLine] using h
    rw [e]; decide
theorem wit_RetainedLawsAreKept : RingLaw busy ∧ HistoryLaw busy :=
  ⟨by unfold RingLaw; decide, by intro g; cases g <;> decide⟩
theorem wit_QuietStationStaysDark : QuietLaw quiet ∧ DarkLaw quiet ∧ quiet.startup.quiet = true :=
  ⟨by unfold QuietLaw; decide,
    by intro _ n _; cases n <;> exact ⟨⟨_, rfl, by decide⟩, by decide⟩, by decide⟩
theorem wit_OpeningAndRunCloseLawsAreKept :
    (OpeningLaw busy ∧ MotorLaw busy ∧ DemandLaw busy ∧ PendingLaw busy ∧ RunCloseLaw busy)
      ∧ (PendingLaw (leading 240 .fault) ∧ (leading 240 .fault).gates.units.east.state = .closePending) :=
  ⟨⟨by intro g; cases g <;> decide, by intro g; cases g <;> decide, by intro _ g; cases g <;> decide,
    by intro g; cases g <;> decide, by intro g; cases g <;> decide⟩, by intro g; cases g <;> decide, by decide⟩
theorem wit_DisplayedSinceLawIsKept : DisplayLaw busy ∧ busy.signs.one.displayed ≠ [] := by
  refine ⟨fun n => ?_, by decide⟩
  cases n
  · refine ⟨fun e he => ?_, by decide, by decide⟩
    have h : e = (⟨12, 3⟩, 50) := List.mem_singleton.mp he
    subst h
    exact ⟨by decide, by decide, _, rfl, by decide⟩
  · exact ⟨fun e he => (List.not_mem_nil he).elim, by decide, by decide⟩
  · exact ⟨fun e he => (List.not_mem_nil he).elim, by decide, by decide⟩
theorem wit_SignLinkLawIsKept : InertLaw busy ∧ LinkLaw busy ∧ InertLaw State.reset := by
  refine ⟨fun h => absurd h (by decide), ⟨by decide, fun n => ?_⟩, fun _ => by decide⟩
  cases n <;> exact ⟨by decide, by decide, by decide, by decide, by decide, fun t h => nomatch h⟩
theorem wit_TransmitterLawIsKept : (FlightLaw busy ∧ BufferLaw busy) ∧ FlightLaw (flown 16 1 5 false true 3) :=
  ⟨⟨by unfold FlightLaw; decide, by unfold BufferLaw; decide⟩, by unfold FlightLaw; decide⟩
theorem wit_PeerAndNeighbourLawsAreKept : PeerLaw busy ∧ NeighbourLaw busy :=
  ⟨by unfold PeerLaw; decide, by unfold NeighbourLaw; decide⟩
/-- Neighbours at level 4 and above 5, one SILENT, and none. -/
theorem wit_PeerAndNeighbourLawsAreKept_values :
    [neighboured peer, neighboured { peer with level := some 9 }, neighboured { peer with presence := .silent }, station .running
      ].map (fun s => (s.neighbourFloorNow, s.neighbourSilentNow)) = [(3, false), (4, false), (0, true), (0, false)]
      ∧ (station .running).isNeighbour peer = true ∧ (station .running).isNeighbour { peer with control := true } = false
      ∧ (station .running).isNeighbour { peer with chainage := some 13001 } = false := by decide
theorem wit_WalkerAndValueLawsAreKept : WalkerLaw busy ∧ ValueLaw busy := by
  refine ⟨by unfold WalkerLaw; decide, fun c => ?_⟩
  cases c <;> exact ⟨fun x h => (nomatch h), fun x h => (nomatch h)⟩

/-! Resets and start-up. -/

/-- The worked image with its checksum: 128 bytes. -/
def workedRead : List Byte := workedImage ++ [hiByte (crc workedImage), loByte (crc workedImage)]
/-- A station in CONFIG-READ at an address. -/
def reading (address : Byte) : State := State.reset.withStartup { Startup.reset with address := address }

set_option maxRecDepth 40000 in
theorem wit_FaultyReadEntersConfigFault :
    ((reading 0#8).phase = .configRead ∧ (reading 0#8).startup.address = 0#8)
      ∧ ((reading 12#8).phase = .configRead ∧ (reading 12#8).startup.address ≠ 0#8 ∧ ([] : List Byte).length < 128)
      ∧ ((reading 30#8).startup.address ≠ 0#8 ∧ workedRead.length = 128
        ∧ imageWord workedRead 0x7E = crc (workedRead.take 126)
        ∧ controlRangeUnusable (reading 30#8).startup.address (substituteValues workedRead).1 = true) := by decide
set_option maxRecDepth 40000 in
theorem wit_UsableReadEntersJoining :
    (match readEnd (reading 28#8).startup.address workedRead with
      | .usable _ sub _ => sub
      | .faulty _ _ => false) = true ∧ (reading 28#8).phase = .configRead := by decide
theorem wit_UsableReadEntersJoining_retained :
    (let m : Retained := { busy.retained with integrity := true, checksum := 9#16 }
     m.integrity = true ∧ m.checksum = 9#16 ∧ m.ringOk = true ∧ { m with hourSerial := 9#16 }.ringOk = false
       ∧ m.checksum ≠ 8#16) := by decide
/-- R33: a ring that passes, and one that fails each condition; the last is longer than its count (log entry 52). -/
theorem wit_UsableReadEntersJoining_ring :
    let r := fun (n : Word16) => { workedRecord 0 with serial := n }
    ([⟨[r 6, r 5], 2, 7#16, .fill [], .fill [], 0#8, 0#16, false⟩, ⟨[r 6, r 5], 2, 8#16, .fill [], .fill [], 0#8, 0#16, false⟩,
        ⟨[r 6, r 4], 2, 7#16, .fill [], .fill [], 0#8, 0#16, false⟩, ⟨[r 6, r 5], 1, 7#16, .fill [], .fill [], 0#8, 0#16, false⟩
      ] : List Retained).map Retained.ringOk = [true, false, false, false] := by decide
/-- The worked image with every value in its range, and its checksum. -/
def soundRead : List Byte :=
  let img := (((workedImage.set 8 29#8).set 0x22 3#8).set 0x44 120#8).set 0x51 30#8
  img ++ [hiByte (crc img), loByte (crc img)]
set_option maxRecDepth 40000 in
/-- An image all in range, and one with a default taken for the control range, the thresholds, a hold and the gate lead. -/
theorem wit_UsableReadEntersJoining_values :
    (match readEnd 12#8 soundRead, readEnd 28#8 workedRead with
      | .usable _ a _, .usable _ b _ => (a, b)
      | _, _ => (true, false)) = (false, true) := by decide
/-- Four channels that run, and a second of the same role that does not. -/
theorem wit_UsableReadEntersJoining_channels :
    (let k := config.channels
     let twice := k.set .c2 k.one
     ((channelsAtStart k (.fill true)).2, (channelsAtStart twice (.fill true)).2,
       (channelsAtStart twice (.fill true)).1.one.mode, (channelsAtStart twice (.fill true)).1.two.mode))
      = (false, true, .rate, .off) := by decide

theorem wit_PhasesBegin_settling :
    (station .joining).phase = .joining ∧ 10 ≤ (station .joining).now ∧ (station .joining).line.queue = []
      ∧ (station .joining).slide.deferred = false
      ∧ (let s := (station .joining).withSlide ⟨.tripped, none, none, true⟩
         s.slide.deferred = true ∧ s.register.slidePending = false ∧ s.standingSlide = none
           ∧ freeIndex 0 s.register.slots = some 0) := by decide
theorem wit_PhasesBegin_running :
    (station .settling).phase = .settling ∧ 70 ≤ (station .settling).now ∧ (station .settling).startup.quiet = false
      ∧ (station .settling).startup.entryTimer = none
      ∧ ((station .settling).config.autoclose = some 4
        ∧ ¬ 4 ≤ max (station .settling).hazard.computed (station .settling).hazard.floorLevel)
      ∧ freeIndex 0 (station .settling).register.slots ≠ none := by decide
/-- A station whose autoclose test holds at the entry to RUNNING. -/
theorem wit_PhasesBegin_called :
    let s := (station .settling).withHazard { Hazard.reset with computed := 4 }
    s.phase = .settling ∧ 70 ≤ s.now ∧ s.startup.quiet = false ∧ s.startup.entryTimer = none ∧ s.config.autoclose ≠ none
      ∧ (∀ l, s.config.autoclose = some l → l ≤ max s.hazard.computed s.hazard.floorLevel)
      ∧ (∀ j r, s.recordAt j = some r → r.own = true → r.kind = .avalanche → r.state = .lifted)
      ∧ s.hazard.hold = none ∧ freeIndex 0 s.register.slots ≠ none :=
  ⟨rfl, by decide, rfl, rfl, nofun, fun l h => by rw [← (Option.some.inj h : 4 = l)]; decide,
    fun j r h => (holds_nothing _ rfl j r h).elim, rfl, by decide⟩
/-- An own record of serial 5 is ahead of a counter of 250 and of 134, and not of 133: 11, 127 and 128 steps. -/
theorem wit_PhasesBegin_serials :
    let s := fun (k : Byte) => (holding .settling (record 5 .slide .inForce)).withRetained { Retained.lost with ownSerial := k }
    let ahead : Byte → Byte → Prop := fun k v => (v - k).toNat ≤ 127
      ∧ ∃ i r, (s k).recordAt i = some r ∧ r.own = true ∧ r.id.serial = v
    (∀ k ∈ [250#8, 134#8], ahead k 5#8 ∧ ∀ w, ahead k w → (w - k).toNat ≤ ((5#8 : Byte) - k).toNat) ∧ ∀ v, ¬ ahead 133#8 v := by
  refine ⟨fun k hk => ⟨⟨?_, 0, record 5 .slide .inForce, rfl, rfl, rfl⟩, fun w ⟨_, i, q, h, _, e⟩ => ?_⟩, fun v ⟨d, i, q, h, _, e⟩ => ?_⟩
  · revert k; decide
  · rw [holds_one _ _ i q h] at e
    exact Nat.le_of_eq (by rw [← e]; rfl)
  · rw [holds_one _ _ i q h] at e
    rw [← e] at d
    exact absurd d (by decide)

/-! Observation. -/

theorem wit_ScalingRoundsAndClamps :
    2 * (((48 : Nat) : Int) * 7168 - 336 * 1024).natAbs < 1024
      ∧ (2 * (((3 : Nat) : Int) * 512 - 2 * 1024).natAbs = 1024 ∧ (((3 : Nat) : Int) * 512).natAbs < ((2 : Int) * 1024).natAbs)
      ∧ 32767 < (655360 : Int) + 0 := by decide
theorem wit_ComparatorSetsAndClears :
    (let k := config.channels.one
     k.direction = .above ∧ k.hold ≤ 2 + 1 ∧ k.limit < 251 ∧ ¬ k.limit < 250 ∧ (220 : Int) ≤ k.limit - k.release
       ∧ ¬ (221 : Int) ≤ k.limit - k.release) := by decide
theorem wit_PulseEdgesAreCounted :
    (station .configRead).phase.operating = false
      ∧ (station .joining).phase.operating = true ∧ (station .joining).pins.sense.get .c1 = true
      ∧ (station .joining).channels.one.mode = .rate ∧ (station .joining).channels.three.mode = .total
      ∧ (station .joining).channels.four.mode = .width ∧ (station .joining).channels.four.pulse = none := by decide
theorem wit_WidthSamplesAreFormed :
    (let s := (station .running).setChannel .c4
      { (station .running).channels.four with pulse := some 65535, silence := some 1000000 }
     s.phase.operating = true ∧ s.pins.sense.get .c4 = true ∧ (s.channels.get .c4).mode = .width
       ∧ (s.channels.get .c4).pulse = some 65535 ∧ 1000000 ≤ (s.channels.get .c4).silence.getD 0)
      ∧ 65536 ≤ ((((station .running).setChannel .c4
        { (station .running).channels.four with pulse := some 65536 }).channels.get .c4).pulse.getD 0) := by decide
theorem wit_SenseLineFallMarksTheChannel :
    (let s := station .running
     s.phase.operating = true ∧ s.pins.sense.get .c1 = true ∧ (s.channels.get .c1).mode = .rate
       ∧ s.pins.sense.get .c4 = true ∧ (s.channels.get .c4).mode = .width ∧ (s.channels.get .c3).mode = .total) := by decide
theorem wit_RateWindowFormsItsSample :
    (let s := (station .running).setChannel .c1 { (station .running).channels.one with windowsEnded := 99 }
     s.phase.operating = true ∧ (s.channels.get .c1).mode = .rate
       ∧ (s.channels.get .c1).windowsEnded < s.now / (s.channelConfig .c1).window) := by decide
theorem wit_MinuteCloseFormsSamples :
    ((station .running).withClock { Clock.reset with time := 60 }).minuteDue = true
      ∧ Channel.reset.mode = .off
      ∧ (let c : Channel := { Channel.reset with mode := .rate, windows := [none, some 5] }
         2 * absentCount c.windows ≤ c.windows.length ∧ c.windows ≠ [])
      ∧ (let c : Channel := { Channel.reset with mode := .rate, windows := [none, some 5, none] }
         c.windows.length < 2 * absentCount c.windows) := by decide
/-- A minute close whose running total, clamped, clears the alert of its channel, and one in which no alert changes. -/
theorem wit_MinuteCloseFormsSamples_alert :
    let minute := (station .running).withClock { Clock.reset with time := 60 }
    let s := minute.setChannel .c3 { minute.channels.three with hourCount := 16777215, alert := true, run := 2 }
    s.minuteDue = true ∧ (s.channels.get .c3).mode = .total ∧ (s.channels.get .c3).lowTicks ≤ 3000000
      ∧ ((after .minuteClose s).channels.get .c3).alert = false ∧ ((after .minuteClose s).channels.get .c3).clamped = true
      ∧ (s.channels.get .c3).alert = true ∧ (s.channels.get .c1).mode ≠ .total
      ∧ (∀ ch ∈ Chan.order, ((after .minuteClose minute).channels.get ch).alert = (minute.channels.get ch).alert) := by decide
/-- The station at an hour close. -/
def hourly : State := (station .running).withClock { Clock.reset with time := 3600, minutesClosed := 60 }
theorem wit_HourCloseInsertsARecord :
    hourly.hourDue = true
      ∧ workedHour.channelOf .temp = some .c2
      ∧ (presentValues ((workedHour.channels.get .c2).minutes.map MinuteSample.value)).length = 29
      ∧ workedHour.channelOf .wind = some .c1
      ∧ 30 ≤ (presentValues ((workedHour.channels.get .c1).minutes.map MinuteSample.value)).length
      ∧ [Role.precip, .wind, .temp, .depth].map State.reset.channelOf = List.replicate 4 none := by decide

/-! Hazard. -/

/-- The retained memory of the worked hazard case (chapter 03). -/
def workedRing : Retained := { Retained.lost with records := (List.range 72).map workedRecord, count := 72 }
set_option maxRecDepth 8000 in
theorem wit_HourCloseEvaluatesTheRing :
    (hourly.hourDue = true
      ∧ 6 < absentCount (Retained.lost.fields HourRecord.precipitation 1 24)
      ∧ 6 < absentCount (Retained.lost.fields HourRecord.meanWind 1 24) ∧ Retained.lost.count = 0
      ∧ presentValues (Retained.lost.fields HourRecord.tempMax 1 6) = []
      ∧ presentValues (Retained.lost.fields HourRecord.depth 49 24) = [])
      ∧ (absentCount (workedRing.fields HourRecord.precipitation 1 24) ≤ 6
        ∧ absentCount (workedRing.fields HourRecord.meanWind 1 24) ≤ 6
        ∧ presentValues (workedRing.fields HourRecord.tempMax 1 6) = List.replicate 6 15
        ∧ presentValues (workedRing.fields HourRecord.tempMin 1 24) = List.replicate 24 (-62)
        ∧ (presentValues (workedRing.fields HourRecord.depth 1 6)).head? = some 143
        ∧ (presentValues (workedRing.fields HourRecord.depth 49 24)).getLast? = some 118)
      ∧ (workedRing.count < 73 ∧ 1 ≤ 72 ∧ 72 ≤ workedRing.count ∧ workedRing.records[72 - 1]? = some (workedRecord 71)) := by
  decide
theorem wit_ComputedLevelFollowsTheScore :
    (let t := StationConfig.defaults.thresholds
     2 ≤ 5 ∧ t.t1 < t.t2 ∧ t.t2 < t.t3 ∧ t.t3 < t.t4 ∧ t.t4 < t.t5) := by decide

/-- A frame of the control station 30 is heard. -/
theorem heard_control (p : Phase) : Heard control (station p) :=
  ⟨by cases p <;> decide, rfl, rfl, by decide, by cases p <;> decide, fun q h => nomatch h⟩

/-- The station with a floor at its expiry. -/
def floored : State := (station .running).withHazard { Hazard.reset with floorLevel := 3, effective := 3 }
theorem wit_OperatorFloorIsSetAndExpires :
    ((station .running).phase.operating = true ∧ Heard control (station .running)
        ∧ (station .running).isControl control.source = true ∧ LevelLaw (station .running))
      ∧ (floored.phase.operating = true ∧ 0 < floored.hazard.floorLevel ∧ floored.hazard.floorRemaining = 0
        ∧ LevelLaw floored ∧ QueueLaw floored ∧ RegisterLaw floored ∧ AlertLaw floored ∧ EntryLaw floored
        ∧ (after .operatorFloorExpiry floored).hazard.effective ≠ floored.hazard.effective)
      ∧ (∃ t1 t2 u1 u2, exec .operatorFloorExpiry floored = .next t1
        ∧ exec (.floorReceived control ⟨0, 2, 60⟩) t1 = .next t2
        ∧ exec (.floorReceived control ⟨0, 2, 60⟩) floored = .next u1 ∧ exec .operatorFloorExpiry u1 = .next u2) :=
  ⟨⟨by decide, heard_control .running, by decide, by unfold LevelLaw; decide⟩,
    ⟨by decide, by decide, by decide, by unfold LevelLaw; decide, by unfold QueueLaw; decide, by unfold RegisterLaw; decide,
      fun id h => (List.not_mem_nil h).elim, fun id h => (h.elim List.not_mem_nil List.not_mem_nil).elim, by decide⟩,
    _, _, _, _, rfl, rfl, rfl, rfl⟩
/-- A control station's lift of an own record. -/
def lift (revision : Byte) : ClosureBody := { closure revision 2 3 with origin := 12#8, serial := 3#8 }
theorem wit_HoldAndAutocloseFollowTheirConditions :
    (let s := holding .running (record 3 .avalanche .inForce)
     s.phase = .running ∧ s.isControl control.source = true
       ∧ closureContent false (lift 2)
          = some ⟨⟨12, 3⟩, 2#8, .avalanche, 9000, 11000, .lifted, 600, none, 0#8⟩
       ∧ s.findRecord ⟨12, 3⟩ = some (0, record 3 .avalanche .inForce)
       ∧ s.kindAllowed 12#8 .avalanche = true ∧ s.hazard.computed < 5)
      ∧ Heard control (holding .running (record 3 .avalanche .inForce))
      ∧ ((station .running).withHazard { Hazard.reset with hold := some 0 }).hazard.hold = some 0
      ∧ ((station .running).config.autoclose = some 4 ∧ ¬ 4 ≤ max (station .running).hazard.computed
          (station .running).hazard.floorLevel) :=
  ⟨by decide, heard_control .running, by decide, by decide⟩
theorem wit_HoldAndAutocloseFollowTheirConditions_called (k : Nat) (hk : k = 4 ∨ k = 5) :
    let s := (station .running).withHazard { Hazard.reset with computed := k }
    s.config.autoclose ≠ none ∧ (∀ l, s.config.autoclose = some l → l ≤ max s.hazard.computed s.hazard.floorLevel)
      ∧ (∀ j r, s.recordAt j = some r → r.own = true → r.kind = .avalanche → r.state = .lifted)
      ∧ s.hazard.hold = none ∧ s.phase = .running ∧ freeIndex 0 s.register.slots = some 0 ∧ 0 < s.config.announceLead := by
  refine ⟨nofun, fun l h => ?_, fun j r h => (holds_nothing _ rfl j r h).elim, rfl, rfl, rfl, (by decide : 0 < 1800)⟩
  have e : (4 : Nat) = l := Option.some.inj h
  show l ≤ max k 0
  omega
/-- The second quiet hour close of a station whose own AVALANCHE record stands. -/
def quietHour : State := (hourly.setSlot 0 (some (record 3 .avalanche .inForce))).withHazard
  { Hazard.reset with liftCounter := 1 }
set_option maxRecDepth 8000 in
theorem wit_RequestsReachTheRegister :
    (hourly.hourDue = true
        ∧ ((station .settling).phase = .settling ∧ 70 ≤ (station .settling).now)
        ∧ ((station .running).withHazard { Hazard.reset with hold := some 0 }).hazard.hold = some 0
        ∧ (floored.phase.operating = true ∧ 0 < floored.hazard.floorLevel ∧ floored.hazard.floorRemaining = 0)
        ∧ (Heard control (station .running) ∧ (station .running).isControl control.source = true)
        ∧ (let r := { record 3 .avalanche .inForce with duration := some 0 }
           (holding .running r).recordAt 0 = some r ∧ r.own = true ∧ r.kind = .avalanche ∧ r.state = .inForce)
        ∧ (let r := record 3 .avalanche .lifted
           (holding .running r).recordAt 0 = some r ∧ r.own = true ∧ r.kind = .avalanche ∧ r.display = 0))
      ∧ (let s := (holding .settling (record 3 .avalanche .announced)).withHazard { Hazard.reset with computed := 5 }
         RegisterLaw s ∧ s.phase = .settling ∧ 70 ≤ s.now ∧ s.recordAt 0 = some (record 3 .avalanche .announced)
           ∧ (after .runningEntry s).hazard.computed = 5 ∧ (after .runningEntry s).phase = .running)
      ∧ (let s := (hourly.setSlot 0 (some (record 3 .avalanche .announced))).withHazard
           { Hazard.reset with termA := 120, termB := 60, termC := 20, computed := 5 }
         RegisterLaw s ∧ s.hourDue = true ∧ (after .hourClose s).hazard.computed = 5 ∧ (after .hourClose s).phase = .running)
      ∧ (RegisterLaw quietHour ∧ quietHour.hourDue = true ∧ quietHour.phase = .running ∧ quietHour.hazard.floorLevel ≤ 2
        ∧ (compute quietHour.config (quietHour.retained.insert quietHour.hourRecord) quietHour.hazard).computed ≤ 2
        ∧ 1 ≤ quietHour.hazard.liftCounter ∧ quietHour.config.autoclose = some 4
        ∧ quietHour.recordAt 0 = some (record 3 .avalanche .inForce)) :=
  ⟨⟨by decide, by decide, by decide, by decide, ⟨heard_control .running, by decide⟩, by decide, by decide⟩,
    ⟨by unfold RegisterLaw; decide, by decide⟩, ⟨by unfold RegisterLaw; decide, by decide⟩,
    ⟨by unfold RegisterLaw; decide, by decide⟩⟩
/-- The two occasions of a full register and of a control bulletin: a foreign record at the end of its display, and the lift of an
own AVALANCHE record at a computed level of 5. -/
theorem wit_RequestsReachTheRegister_occasions :
    (let r := { record 3 .slide .lifted with own := false, id := ⟨9, 3⟩ }
     let s := (holding .running r).withRegister { (holding .running r).register with full := true }
     s.phase.operating = true ∧ s.register.full = true ∧ s.recordAt 0 = some r ∧ r.state = .lifted ∧ r.display = 0)
      ∧ (let r := record 3 .avalanche .inForce
         let s := (holding .running r).withHazard { Hazard.reset with computed := 5 }
         s.phase = .running ∧ Heard control s ∧ s.isControl control.source = true
           ∧ closureContent false (lift 2) = some ⟨⟨12, 3⟩, 2#8, .avalanche, 9000, 11000, .lifted, 600, none, 0#8⟩
           ∧ s.findRecord ⟨12, 3⟩ = some (0, r) ∧ r.own = true ∧ r.state ≠ .lifted
           ∧ ((2#8 : Byte) - r.revision).toNat ≤ 127 ∧ s.kindAllowed 12#8 .avalanche = true ∧ s.hazard.computed = 5) :=
  ⟨by decide, by decide, heard_control .running, by decide⟩

/-! The pass line. -/

theorem wit_CharactersAreAssembled :
    (State.reset.line.sending = none ∧ State.reset.line.receiver = .inactive
      ∧ (station .running).line.sending = none ∧ (station .running).line.receiver ≠ .inactive)
      ∧ ([0, 50000 + lineRate 0#2].map (fun elapsed => (flown 1 0 elapsed false false 0).line.sending)
          = [some ⟨0, false, 0⟩, some ⟨0, false, 59600⟩]
        ∧ (flown 1 2 1990000 false false 0).line.sending = some ⟨2, false, 1990000⟩
        ∧ (flown 1 0 0 false false 0).line.inFlight = some ⟨.status, 0#8, [2#8, 12#8]⟩
        ∧ (flown 1 0 0 false false 0).line.receiver ≠ .inactive) := by decide
/-- The station with a QUERY of its own address assembled. -/
def conflicted : State := (station .running).withLine { (station .running).line with
  receiver := .assembling, buffer := encodeFrame 6#8 12#8 0#8 [0#8] }
set_option maxRecDepth 8000 in
theorem wit_FramesEndInHunting :
    (let s := (station .running).withLine { (station .running).line with idle := 4000000 }
     s.line.receiver = .hunting ∧ 4000000 ≤ s.line.idle)
      ∧ (let s := (station .running).withLine { (station .running).line with
           receiver := .discarding, queue := [.status], wait := some .interrupted }
         s.line.receiver ≠ .inactive ∧ s.ownSourceFrame = false ∧ s.line.queue.head? = some .status
           ∧ s.line.inFlight = none)
      ∧ (conflicted.line.receiver ≠ .inactive ∧ conflicted.ownSourceFrame = true
        ∧ conflicted.line.addressConflict = false)
      ∧ (let s := (station .running).withLine { (station .running).line with
           receiver := .assembling, wait := some .interrupted, inFlight := some ⟨.status, 3#8, [1#8]⟩, attempts := 2 }
         s.line.receiver ≠ .inactive ∧ s.ownSourceFrame = false ∧ s.line.inFlight = some ⟨.status, 3#8, [1#8]⟩
           ∧ s.line.wait = some .interrupted ∧ frameHeader (.queryReceived control 12#8) = some control) := by decide
theorem wit_AttemptSendsTheHeadEntry :
    (waited.mayTransmit = true ∧ waited.line.waitDone = true ∧ waited.line.inFlight = none ∧ waited.line.queue = [.status]
        ∧ (waited.bulletinBody .status).isSome = true)
      ∧ (let s := waited.withLine { waited.line with inFlight := some ⟨.status, 0#8, [2#8]⟩, attempts := 1 }
         s.line.waitDone = true ∧ s.line.inFlight = some ⟨.status, 0#8, [2#8]⟩)
      ∧ (neighboured peer).findPeer 9#8 = some peer
      ∧ (holding .running (record 3 .avalanche .inForce)).findRecord ⟨12, 3⟩ = some (0, record 3 .avalanche .inForce) := by
  decide
theorem wit_AttemptsSucceedOrRetry :
    ((flown 1 2 2000000 false false 0).line.sentWhole = true ∧ (flown 1 2 2000000 false true 2).line.sentWhole = true
        ∧ (flown 1 2 2000000 false true 2).line.successRun < 3 ∧ (flown 1 2 2000000 false true 3).line.successRun = 3
        ∧ (flown 1 2 2000000 false true 3).phase.serving = true)
      ∧ ((flown 15 0 1000000 true false 0).line.sendFailed = true ∧ (flown 15 0 1000000 true false 0).line.attempts < 16
        ∧ (flown 16 0 1000000 true false 0).line.sendFailed = true ∧ 16 ≤ (flown 16 0 1000000 true false 0).line.attempts
        ∧ (flown 16 0 1000000 true false 0).line.inFlight.isSome = true) := by decide

/-! Bulletins and peers. -/

/-- A frame of the station at address 9 is heard where it is no duplicate. -/
theorem heard_neighbour (q : Peer) (n : Byte) (a : q.address = 9#8) (h : judgeSequence q n ≠ .duplicate) :
    Heard ⟨9#8, n⟩ (neighboured q) := by
  refine ⟨nofun, rfl, rfl, rfl, nofun, fun p hp => ?_⟩
  have e : (neighboured q).findPeer 9#8 = some q := by
    simp [neighboured, State.withPeers, State.findPeer, findPeer, a]
  rw [show p = q from Option.some.inj (hp.symm.trans e)]
  exact h
theorem wit_StatusAndAnnounceUpdateThePeer : Heard ⟨9#8, 5#8⟩ (neighboured peer) :=
  heard_neighbour peer 5#8 rfl (by decide)
/-- FLOOR bulletins that are ignored: a roadside source, another station's, and in CONFIG-FAULT; and a sender that is HEARD. -/
theorem wit_OperatorFloorIsSetAndExpires_ignored :
    ((station .running).isControl 9#8 = false ∧ Heard ⟨9#8, 5#8⟩ (neighboured peer)
        ∧ (neighboured peer).findPeer 9#8 = some peer ∧ peer.presence = .heard ∧ (5#8 : Byte) = peer.lastSequence + 1)
      ∧ ((7#8 : Byte) ≠ 0#8 ∧ (7#8 : Byte) ≠ (station .running).startup.address ∧ Heard control (station .running))
      ∧ ((station .configFault).phase = .configFault ∧ Heard control (station .configFault)) :=
  ⟨⟨by decide, heard_neighbour peer 5#8 rfl (by decide), by decide⟩, ⟨by decide, by decide, heard_control _⟩,
    rfl, heard_control _⟩
/-- A gap with no recap timer, with one run out and with one running; a gap flag already set; a frame in sequence; CONFIG-FAULT. -/
theorem wit_StatusAndAnnounceUpdateThePeer_gap :
    (∀ q ∈ [peer, { peer with recapTimer := some 120 }, { peer with recapTimer := some 119 },
        { peer with gap := true, recapTimer := some 7 }], Heard ⟨9#8, 9#8⟩ (neighboured q)
          ∧ (neighboured q).findPeer 9#8 = some q ∧ q.presence = .heard ∧ (9#8 : Byte) ≠ q.lastSequence + 1
          ∧ (neighboured q).phase.operating = true)
      ∧ (5#8 : Byte) = peer.lastSequence + 1 ∧ Heard ⟨9#8, 5#8⟩ (neighboured peer)
      ∧ (let s := (neighboured peer).withStartup (station .configFault).startup
         s.phase = .configFault ∧ Heard ⟨9#8, 9#8⟩ s) := by
  refine ⟨fun q hq => ?_, by decide, heard_neighbour peer 5#8 rfl (by decide), by decide, heard_neighbour peer 9#8 rfl (by decide)⟩
  simp only [List.mem_cons, List.not_mem_nil, or_false] at hq
  rcases hq with rfl | rfl | rfl | rfl <;> exact ⟨heard_neighbour _ 9#8 rfl (by decide), by decide⟩
theorem wit_DuplicatesAndOwnFramesGoNoFurther :
    ([Instr.queryReceived ⟨12#8, 0#8⟩ 0#8, .recapReceived ⟨12#8, 0#8⟩ 0#8, .floorReceived ⟨12#8, 0#8⟩ ⟨0, 0, 0⟩,
        .closureReceived ⟨12#8, 0#8⟩ (closure 0 2 2), .alertReceived ⟨12#8, 0#8⟩ (closure 0 1 2),
        .statusReceived ⟨12#8, 0#8⟩ status, .announceReceived ⟨12#8, 0#8⟩ ⟨0, 0, 0, 0, 0, 0⟩].map frameHeader
        = List.replicate 7 (some ⟨12#8, 0#8⟩))
      ∧ ((flown 1 0 0 false false 0).line.sending ≠ none ∧ (flown 1 0 0 false false 0).line.receiver ≠ .inactive)
      ∧ ((station .running).startup.address = 12#8 ∧ goodSource 12#8 = true ∧ (station .running).line.sending = none
        ∧ (station .running).line.echo = false ∧ (station .running).line.addressConflict = false
        ∧ (station .running).phase.operating = true ∧ (station .configFault).phase = .configFault
        ∧ ((station .running).withLine { (station .running).line with addressConflict := true }).line.addressConflict = true)
      ∧ ((neighboured peer).findPeer 9#8 = some peer ∧ judgeSequence peer 4#8 = .duplicate
        ∧ (9#8 : Byte) ≠ (neighboured peer).startup.address ∧ (neighboured peer).line.sending = none
        ∧ (neighboured peer).line.echo = false ∧ (neighboured peer).line.receiver ≠ .inactive) := by decide
theorem wit_QueryAndRecapAreAnswered :
    Heard control (station .running) ∧ Heard control (station .configFault)
      ∧ (station .running).isControl control.source = true ∧ (station .configFault).isControl control.source = true
      ∧ (station .configFault).startup.address ≠ 0#8 ∧ (station .running).phase.operating = true
      ∧ (station .running).line.queue = [] ∧ (station .running).records.length ≤ 5 :=
  ⟨heard_control _, heard_control _, by decide, by decide, by decide, by decide, by decide, by decide⟩
/-- A RECAP in CONFIG-FAULT; orders that are ignored: a roadside source, another station's, and a station at address 0. -/
theorem wit_QueryAndRecapAreAnswered_ignored :
    (Heard control (station .configFault) ∧ (station .configFault).phase = .configFault
        ∧ (station .configFault).startup.address = 12#8)
      ∧ ((neighboured peer).isControl 9#8 = false ∧ Heard ⟨9#8, 5#8⟩ (neighboured peer))
      ∧ ((7#8 : Byte) ≠ 0#8 ∧ (7#8 : Byte) ≠ (station .running).startup.address ∧ Heard control (station .running))
      ∧ (let s := (station .configFault).withStartup { (station .configFault).startup with address := 0#8 }
         s.phase = .configFault ∧ s.startup.address = 0#8 ∧ Heard control s) :=
  ⟨⟨heard_control _, rfl, rfl⟩, ⟨by decide, heard_neighbour peer 5#8 rfl (by decide)⟩,
    ⟨by decide, by decide, heard_control _⟩, rfl, rfl, by decide, rfl, rfl, by decide, by decide, fun q h => nomatch h⟩
theorem wit_PeerAndCadenceTimersExpire :
    (neighboured peer).findPeer 9#8 = some peer ∧ peer.presence = .heard ∧ 2 * peer.interval < peer.age
      ∧ (let p := { peer with presence := .late, age := 241, gap := true, recapTimer := some 120 }
         (neighboured p).findPeer 9#8 = some p ∧ 4 * p.interval < p.age ∧ p.recapTimer = some 120
           ∧ (neighboured p).phase.operating = true)
      ∧ (let s := (neighboured peer).withPeers { (neighboured peer).peers with
           statusTimer := some 60, announceTimer := some 900 }
         s.phase.serving = true ∧ s.peers.statusTimer = some s.peers.statusInterval
           ∧ s.peers.announceTimer = some 900) := by decide

/-! The closure register. -/

theorem wit_ClosureBulletinCreatesARecord :
    Heard ⟨9#8, 5#8⟩ (station .running) ∧ (station .running).phase.operating = true
      ∧ closureContent true (closure 0 2 2) = none
      ∧ (let c : ClosureContent := ⟨⟨9, 1⟩, 0#8, .avalanche, 9000, 11000, .inForce, 600, none, 0#8⟩
         closureContent false (closure 0 2 2) = some c
           ∧ (station .running).authorised 9#8 9#8 = true ∧ (station .running).kindAllowed 9#8 c.kind = true
           ∧ (station .running).findRecord c.id = none ∧ c.state ≠ .lifted
           ∧ freeIndex 0 (station .running).register.slots = some 0)
      ∧ ((station .running).authorised 10#8 9#8 && (station .running).kindAllowed 9#8 .avalanche) = false :=
  ⟨⟨by decide, rfl, rfl, by decide, by decide, fun q h => nomatch h⟩, by decide, by decide, by decide, by decide⟩
/-- LIFTED bulletins of ids that are not held: a foreign one, and one of the station's own address in JOINING. -/
theorem wit_ClosureBulletinCreatesARecord_lifted :
    (let c : ClosureContent := ⟨⟨9, 1⟩, 0#8, .avalanche, 9000, 11000, .lifted, 600, none, 0#8⟩
     closureContent false (closure 0 2 3) = some c ∧ (station .running).findRecord c.id = none
       ∧ ¬ (c.id.origin = (station .running).startup.address
         ∧ ((station .running).phase = .joining ∨ (station .running).phase = .settling)))
      ∧ (let c : ClosureContent := ⟨⟨12, 3⟩, 2#8, .avalanche, 9000, 11000, .lifted, 600, none, 0#8⟩
         let s := station .joining
         closureContent false (lift 2) = some c ∧ freeIndex 0 s.register.slots = some 0 ∧ s.phase.operating = true
           ∧ s.authorised control.source c.id.origin = true ∧ s.kindAllowed c.id.origin c.kind = true
           ∧ s.findRecord c.id = none ∧ c.id.origin = s.startup.address ∧ s.phase = .joining)
      ∧ Heard control (station .joining) := ⟨by decide, by decide, heard_control .joining⟩
/-- The three checks, each met and each failed: origin 0 and 32, ends the wrong way round, codes 0 and 5, an ALERT that is no
SLIDE; a control station, the origin itself, and the adoption of an own record; an operator record of a roadside origin. -/
theorem wit_ClosureBulletinCreatesARecord_checks :
    ([{ closure 0 2 2 with origin := 0#8 }, { closure 0 2 2 with origin := 32#8 }, { closure 0 2 2 with scopeLo := 11001#16 },
        closure 0 0 2, closure 0 5 2, closure 0 2 0, closure 0 2 4].map (closureContent false) = List.replicate 7 none)
      ∧ (closureContent true (closure 0 2 2) = none ∧ (closureContent true (closure 0 1 2)).isSome = true
        ∧ (closureContent false { closure 0 2 2 with scopeLo := 11000#16, minutes := 3#16 }).map ClosureContent.duration
          = some (some 180))
      ∧ ((station .running).phase.operating = true ∧ (station .running).authorised 9#8 9#8 = true
        ∧ (station .running).authorised 30#8 9#8 = true ∧ (station .running).authorised 10#8 12#8 = false
        ∧ (station .settling).authorised 10#8 12#8 = true)
      ∧ ((station .running).kindAllowed 9#8 .operator = false ∧ (station .running).kindAllowed 30#8 .season = true
        ∧ (station .running).kindAllowed 9#8 .slide = true)
      ∧ ([28#8, 29#8, 31#8].map (station .running).isControl = [false, true, true]) := by decide
theorem wit_ClosureBulletinMergesByRevision :
    Heard control (holding .running (record 3 .avalanche .inForce))
      ∧ (let s := holding .running (record 3 .avalanche .inForce)
         s.phase.operating = true ∧ s.authorised control.source 12#8 = true ∧ s.kindAllowed 12#8 .avalanche = true
           ∧ s.findRecord ⟨12, 3⟩ = some (0, record 3 .avalanche .inForce)
           ∧ (closureContent false (lift 1)).map ClosureContent.id = some ⟨12, 3⟩
           ∧ ((1#8 : Byte) - (record 3 .avalanche .inForce).revision).toNat = 0
           ∧ ((128#8 : Byte) - (record 3 .avalanche .inForce).revision).toNat = 127
           ∧ ((129#8 : Byte) - (record 3 .avalanche .inForce).revision).toNat = 128) :=
  ⟨heard_control .running, by decide⟩
theorem wit_RecordTimersExpire :
    ((holding .running (record 3 .avalanche .announced)).recordAt 0 = some (record 3 .avalanche .announced)
      ∧ (record 3 .avalanche .announced).lead = 0)
      ∧ (let r := { record 3 .slide .inForce with duration := some 0 }
         (holding .running r).recordAt 0 = some r ∧ r.state = .inForce)
      ∧ (let r := { record 3 .slide .inForce with own := false, age := 901 }
         (holding .running r).recordAt 0 = some r ∧ 900 < r.age ∧ r.stale = false)
      ∧ (let s := (station .running).withRegister { (station .running).register with walkerTimer := some 0 }
         s.phase = .running ∧ s.register.walkerTimer = some 0)
      ∧ ((record 3 .slide .inForce).duration = none
        ∧ ({ record 3 .slide .inForce with duration := some 3932100 }).duration = some 3932100) := by decide
/-- A LIFTED record at the end of its display, at a computed level that autoclose answers. -/
def removable (r : ClosureRecord) (k : Nat) : State := (holding .running r).withHazard { Hazard.reset with computed := k }
theorem wit_LiftedRecordIsRemoved :
    (∀ r ∈ [record 3 .slide .lifted, record 3 .avalanche .lifted], ∀ k ∈ [3, 4],
      (removable r k).phase.operating = true ∧ (removable r k).recordAt 0 = some r ∧ r.state = .lifted ∧ r.display = 0
        ∧ (removable r k).register.slidePending = false ∧ (removable r k).register.full = false)
      ∧ ((removable (record 3 .slide .lifted) 4).withRegister { (removable (record 3 .slide .lifted) 4).register with
          slidePending := true }).register.slidePending = true
      ∧ (record 3 .slide .lifted).kind ≠ .avalanche
      ∧ ¬ 4 ≤ max (removable (record 3 .avalanche .lifted) 3).hazard.computed
          (removable (record 3 .avalanche .lifted) 3).hazard.floorLevel := by decide
theorem wit_LiftedRecordIsRemoved_called (k : Nat) (hk : k = 4 ∨ k = 5) :
    let r := record 3 .avalanche .lifted
    let s := removable r k
    r.own = true ∧ r.kind = .avalanche ∧ s.config.autoclose ≠ none
      ∧ (∀ l, s.config.autoclose = some l → l ≤ max s.hazard.computed s.hazard.floorLevel)
      ∧ (∀ j q, s.recordAt j = some q → q.own = true → q.kind = .avalanche → q.state = .lifted)
      ∧ s.hazard.hold = none ∧ s.phase = .running ∧ freeIndex 0 (s.register.slots.set 0 none) = some 0
      ∧ 0 < s.config.announceLead := by
  refine ⟨rfl, rfl, nofun, fun l h => ?_, fun j q h _ _ => ?_, rfl, rfl, rfl, (by decide : 0 < 1800)⟩
  · have e : (4 : Nat) = l := Option.some.inj h
    show l ≤ max k 0
    omega
  · rw [holds_one _ _ j q h]; rfl
theorem wit_EvictionSparesOwnAndDemandingRecords :
    (let r := { record 3 .slide .lifted with own := false }
     (holding .running r).evictIndex (record 4 .slide .inForce) = some 0 ∧ (holding .running r).recordAt 0 = some r
       ∧ r.own = false ∧ r.state = .lifted)
      ∧ (let r := { record 3 .slide .announced with own := false, scopeLo := 30000, scopeHi := 31000 }
         (holding .running r).evictIndex (record 4 .slide .inForce) = some 0 ∧ (holding .running r).recordAt 0 = some r
           ∧ r.own = false ∧ r.state = .announced ∧ (holding .running r).relevant r = false
           ∧ (holding .running r).evictIndex r = none)
      ∧ (let c : ClosureContent := ⟨⟨9, 1⟩, 0#8, .avalanche, 9000, 11000, .inForce, 600, none, 0#8⟩
         let own := crowded (record 3 .avalanche .inForce)
         let other := crowded { record 3 .slide .lifted with own := false, id := ⟨5, 0⟩ }
         closureContent false (closure 0 2 2) = some c ∧ c.state ≠ .lifted
           ∧ own.phase.operating = true ∧ own.authorised 9#8 9#8 = true ∧ own.kindAllowed 9#8 c.kind = true
           ∧ own.findRecord c.id = none ∧ freeIndex 0 own.register.slots = none ∧ own.evictIndex (own.newRecord c) = none
           ∧ own.register.full = false
           ∧ other.findRecord c.id = none ∧ freeIndex 0 other.register.slots = none
           ∧ other.evictIndex (other.newRecord c) = some 0)
      ∧ Heard ⟨9#8, 5#8⟩ (crowded (record 3 .avalanche .inForce))
      ∧ Heard ⟨9#8, 5#8⟩ (crowded { record 3 .slide .lifted with own := false, id := ⟨5, 0⟩ }) :=
  ⟨by decide, by decide, by decide, ⟨by decide, rfl, rfl, by decide, by decide, fun q h => nomatch h⟩,
    ⟨by decide, rfl, rfl, by decide, by decide, fun q h => nomatch h⟩⟩
/-- A station whose slide contact has been closed for the confirmation time. -/
def confirmed (s : State) : State :=
  (s.withSlide ⟨.confirming, some 20000, none, false⟩).withPins { Pins.low with contact := true }
theorem wit_SlideContactIsConfirmedAndRearmed :
    (station .running).phase.operating = true ∧ (station .running).pins.contact ≠ true
      ∧ (let s := (station .running).withSlide ⟨.tripped, none, some 500000, false⟩
         s.slide.state = .tripped ∧ s.pins.contact = false ∧ 500000 ≤ s.slide.rearm.getD 0)
      ∧ (let s := fun p => confirmed (station p)
         (s .joining).slide.state = .confirming ∧ (s .joining).pins.contact = true
           ∧ 20000 ≤ (s .joining).slide.confirm.getD 0 ∧ (s .joining).phase = .joining
           ∧ (s .running).phase.serving = true ∧ (s .running).register.slidePending = false
           ∧ (s .running).standingSlide = none ∧ freeIndex 0 (s .running).register.slots = some 0
           ∧ (s .running).line.queue.length ≤ 9) := by decide
theorem wit_SlideContactIsConfirmedAndRearmed_again :
    (let r := record 3 .slide .inForce
     let s := confirmed (holding .running r)
     s.register.slidePending = false ∧ s.recordAt 0 = some r ∧ r.own = true ∧ r.kind = .slide ∧ r.state ≠ .lifted
       ∧ s.line.queue.length ≤ 9 ∧ ∀ j q, s.recordAt j = some q → 0 ≤ j)
      ∧ (let s := confirmed (crowded (record 3 .avalanche .inForce))
         s.phase.serving = true ∧ s.register.slidePending = false ∧ s.standingSlide = none
           ∧ freeIndex 0 s.register.slots = none
           ∧ s.evictIndex (s.ownRecord .slide s.config.slideHalf .inForce 0) = none)
      ∧ (confirmed ((station .running).withRegister { (station .running).register with slidePending := true })
          ).register.slidePending = true :=
  ⟨⟨by decide, by decide, by decide, by decide, by decide, by decide, fun j _ _ => Nat.zero_le j⟩, by decide, by decide⟩

/-- The serial counter where its serial is free, where a record holds it, and where the next is past 255. -/
theorem wit_SlideContactIsConfirmedAndRearmed_serial :
    let s := fun (held k : Byte) => (holding .running (record held .slide .lifted)).withRetained { Retained.lost with ownSerial := k }
    (s 3 3).register.slots.length = 16
      ∧ ((s 3 7).nextSerial, (s 3 3).nextSerial, (s 255 255).nextSerial) = (7#8, 4#8, 0#8) := by decide
/-! Signs. -/

theorem wit_BestContentGoesFirst :
    (let s := (station .running).setSignLink .s2 { SignLink.reset with health := .ok, waiting := some .blank }
     bestSign s (turnOrder s.link.lastServed) = some (.s2, false, .blank) ∧ s.eligible .s2 = some (false, .blank)
       ∧ s.phase.serving = true ∧ s.link.state = .idle)
      ∧ (let s := ((station .running).setSignLink .s1 ⟨.fault, 3, none, .due⟩).setSign .s1
           { (station .running).signs.one with offered := some .blank }
         bestSign s (turnOrder s.link.lastServed) = some (.s1, true, .blank))
      ∧ ((station .joining).phase.serving = false ∧ (linked .sending transfer).link.state ≠ .idle)
      ∧ bestSign (station .running) (turnOrder .s3) = none := by decide
/-- The lists of the worked selection: every rule that makes a candidate, for a role that takes it. -/
theorem wit_BestContentGoesFirst_candidates :
    ((workedSelection.candidates .s1).map Candidate.cls, (workedSelection.candidates .s2).map Candidate.cls,
        (workedSelection.candidates .s3).map Candidate.cls) = ([1, 2, 5, 6], [3, 5, 6], [5, 6, 8]) := by decide
theorem wit_RefreshAndQuietEntryHandPages :
    (let s := (station .running).setSign .s1 { (station .running).signs.one with refresh := some 300 }
     s.phase = .running ∧ (s.signs.get .s1).role ≠ .notFitted ∧ (s.signs.get .s1).refresh = some 300)
      ∧ (resting.phase = .running ∧ resting.startup.quiet = false ∧ resting.startup.entryTimer = some 300
        ∧ resting.hazard.effective = 0 ∧ (∀ ch : Chan, (resting.channels.get ch).alert = false)
        ∧ (∀ i r, resting.recordAt i ≠ some r)
        ∧ (∀ g : Gate, (resting.gates.units.get g).state = .opened) ∧ (∀ m : Sign, resting.health m ≠ .fault)
        ∧ resting.peers.entries = [] ∧ resting.hazard.degraded = false)
      ∧ (let s := resting.withHazard { resting.hazard with effective := 1 }
         s.startup.entryTimer = some 300 ∧ s.hazard.effective ≠ 0) :=
  ⟨by decide, ⟨by decide, by decide, by decide, by decide, fun ch => by cases ch <;> decide, holds_nothing _ rfl,
    fun g => by cases g <;> decide, fun m => by cases m <;> decide, by decide, by decide⟩, by decide⟩
/-- Page sets of the worked selection: two pages, a page B of class 6 left out, and no candidate at all. -/
theorem wit_RefreshAndQuietEntryHandPages_pages :
    (workedSelection.startup.quiet = false ∧ (workedSelection.candidates .s3).map Candidate.cls = [5, 6, 8])
      ∧ quiet.startup.quiet = true ∧ (station .running).candidates .s1 = []
      ∧ (let c : Candidate := ⟨3, 1900, .record 1 ⟨30, 3⟩⟩
         (workedSelection.recordAt 1).map ClosureRecord.template = some 40#8 ∧ (40#8 : Byte) ∉ ([] : List Byte)
           ∧ workedSelection.config.templates.forClass c.cls = 23#8 ∧ (workedSelection.pageOf [] c).template = 40#8
           ∧ (workedSelection.pageOf [40#8] c).template = 23#8 ∧ (workedSelection.pageOf [23#8, 40#8] c).template = 0#8)
      ∧ ((workedSelection.pageOf [] ⟨5, 0, .alert .c1⟩).template = 25#8
        ∧ (workedSelection.pageOf [] ⟨6, 0, .hazard⟩).template = 26#8
        ∧ (workedSelection.pageOf [] ⟨7, 0, .data⟩).template = 27#8
        ∧ (workedSelection.pageOf [] ⟨8, 0, .weather⟩).template = 28#8) := by decide
/-- Page sets that differ from the one last handed and that do not, in RUNNING and in SETTLING; the commands that evaluate. -/
theorem wit_RefreshAndQuietEntryHandPages_evaluation :
    (let ps := (station .running).buildPageSet .s3
     let s := (station .running).setSign .s3 { (station .running).signs.three with offered := some ps }
     ((station .running).signs.three.offered = none ∧ (station .running).phase = .running
         ∧ (station .running).signs.three.role ≠ .notFitted)
       ∧ s.signs.three.offered = some (s.buildPageSet .s3))
      ∧ ((station .settling).phase.serving = true ∧ ((station .settling).buildPageSet .s3).cls = 8
        ∧ ((holding .settling (record 3 .avalanche .inForce)).buildPageSet .s3).cls = 2)
      ∧ ((station .joining).phase.serving = false ∧ SignState.reset.role = .notFitted)
      ∧ ((station .running).withClock { Clock.reset with time := 60 }).minuteDue = true
      ∧ ((station .settling).phase = .settling ∧ 70 ≤ (station .settling).now)
      ∧ (holding .running (record 3 .avalanche .announced)).recordAt 0 = some (record 3 .avalanche .announced)
      ∧ (let r := { record 3 .avalanche .inForce with duration := some 0 }
         (holding .running r).recordAt 0 = some r ∧ r.duration = some 0)
      ∧ (let r := { record 3 .slide .inForce with own := false, age := 901 }
         (holding .running r).recordAt 0 = some r ∧ r.stale = false ∧ 900 < r.age) := by decide
theorem wit_SendingPausesAndResumes :
    ((station .running).phase.operating = true
      ∧ (linked .sending { transfer with progress := 14000000 }).link.transfer
          = some { transfer with progress := 14000000 }
      ∧ messageLength transfer.pages * 1000000 ≤ 14000000
      ∧ (station .running).link.state ≠ .awaiting
      ∧ (linked .awaiting transfer).link.state = .awaiting ∧ (linked .pausedSending transfer).link.state = .pausedSending
      ∧ (linked .pausedAwaiting transfer).link.state = .pausedAwaiting)
      ∧ (let p := fun (n : Nat) => ({ transfer with progress := n } : Transfer).progress
         p 13990400 + 9600 = 14000000 ∧ messageLength transfer.pages ≤ (p 13990400 + 9600) / 1000000
           ∧ p 990399 / 1000000 = (p 990399 + 9600) / 1000000
           ∧ p 990400 / 1000000 < (p 990400 + 9600) / 1000000 ∧ (p 990400 + 9600) / 1000000 < messageLength transfer.pages)
      ∧ (let s := linked .sending { transfer with progress := 990400 }
         (s.withLink { s.link with held := true }).link.held = true) := by decide
/-- The station with a reply pair. -/
def hearing (q : ReplyPair) : State := (station .running).withReplyPair q
theorem wit_SendingPausesAndResumes_replies :
    ((station .configFault).phase = .configFault ∧ (station .configRead).phase = .configRead)
      ∧ (let q : ReplyPair := ⟨[⟨0x06#8, false⟩], some ⟨0x11#8, false⟩, 990400, [0x06#8], false⟩
         (hearing q).phase.operating = true ∧ (hearing q).replyPair.onPair = some ⟨0x11#8, false⟩
           ∧ 1000000 ≤ (hearing q).replyPair.elapsed + 9600)
      ∧ (let q : ReplyPair := ⟨[], some ⟨0x13#8, true⟩, 1000000, [], false⟩
         (hearing q).replyPair.onPair = some ⟨0x13#8, true⟩ ∧ 1000000 ≤ (hearing q).replyPair.elapsed + 9600)
      ∧ (let q : ReplyPair := ⟨[], none, 1990400, encodeAck 2#4 0x0034#16, false⟩
         q.onPair = none ∧ q.arriving = [] ∧ 2000000 ≤ q.elapsed + 9600 ∧ q.reply ≠ [] ∧ (checkReply q.reply).isSome = true)
      ∧ ¬ (2000000 ≤ ReplyPair.reset.elapsed + 9600 ∧ ReplyPair.reset.arriving ≠ []) := by decide
theorem wit_MatchingAckIsASuccess :
    (linked .awaiting transfer).link.transfer = some transfer ∧ (linked .awaiting transfer).link.state = .awaiting
      ∧ (1#4).toNat = signAddress transfer.sign := by decide
/-- A carried record entered before, one entered now, and an entry that leaves. -/
theorem wit_MatchingAckIsASuccess_displayed :
    let s := fun d => ((linked .awaiting transfer).setSlot 0 (some (record 3 .slide .inForce))).setSign .s1
      { (linked .awaiting transfer).signs.one with displayed := d }
    let f := fun d id => (after (.ackReceived 1#4 (checkValue .s1 transfer.pages)) (s d)).displayedSince .s1 id
    (f [(⟨12, 3⟩, 40)] ⟨12, 3⟩, f [] ⟨12, 3⟩, f [(⟨9, 1⟩, 40)] ⟨9, 1⟩) = (some 40, some 100, none)
      ∧ transfer.pages.pageA.carries = some ⟨12, 3⟩ := by decide
theorem wit_FailedTransfersCountTowardFault :
    ((linked .awaiting transfer).health transfer.sign = .ok ∧ transfer.reply = 0
      ∧ (0#16 : Word16) ≠ checkValue transfer.sign transfer.pages
      ∧ (linked .awaiting transfer).link.signs.one.failures < 2 ∧ (1#4).toNat = signAddress transfer.sign)
      ∧ (let t := { transfer with pause := 1000001 }
         (linked .pausedSending t).link.transfer = some t ∧ (linked .pausedSending t).health t.sign = .ok
           ∧ (linked .pausedSending t).link.state = .pausedSending ∧ 1000000 < t.pause)
      ∧ (let s := (linked .awaiting transfer).setSignLink .s1 ⟨.ok, 2, none, .stopped⟩
         s.health .s1 = .ok ∧ 2 ≤ s.link.signs.one.failures ∧ s.startup.quiet = false)
      ∧ (let x := { transfer with probe := true }
         let s := (linked .awaiting x).setSignLink .s1 ⟨.fault, 3, none, .stopped⟩
         s.link.transfer = some x ∧ s.health x.sign = .fault) := by decide
theorem wit_RefusedTemplateIsNoFailure :
    (linked .pausedAwaiting transfer).link.transfer = some transfer
      ∧ (linked .pausedAwaiting transfer).link.state = .pausedAwaiting ∧ (1#4).toNat = signAddress transfer.sign := by decide
/-- Page 1 and page 2 of two pages, a set of 7 and one of 8, a template in the set; a probe of a sign in FAULT. -/
theorem wit_RefusedTemplateIsNoFailure_set :
    (let b : Page := { blankPage with template := 33#8 }
     let x : Transfer := { transfer with pages := { transfer.pages with pageB := some b }, probe := true }
     let refusing := fun (set : List Byte) => ((linked .awaiting x).setSign .s1
       { (linked .awaiting x).signs.one with refused := set }).setSignLink .s1 ⟨.fault, 3, none, .stopped⟩
     x.pages.pageA.template ≠ 0#8 ∧ x.pages.pageA.template ∉ [33#8] ∧ x.pages.pageB = some b ∧ b.template ∈ [33#8]
       ∧ ([1, 2, 3, 4, 5, 6, 7].map byte).length < 8 ∧ ¬ ([1, 2, 3, 4, 5, 6, 7, 8].map byte).length < 8
       ∧ transfer.pages.pageB = none
       ∧ ∀ set ∈ [[33#8], [1, 2, 3, 4, 5, 6, 7].map byte, [1, 2, 3, 4, 5, 6, 7, 8].map byte],
         (refusing set).link.transfer = some x ∧ (refusing set).link.state = .awaiting ∧ x.probe = true
           ∧ (refusing set).health x.sign = .fault ∧ ((refusing set).signs.get x.sign).refused = set) := by decide
theorem wit_ProbeBeginsWhenDue :
    (let s := ((station .running).setSignLink .s1 ⟨.fault, 3, none, .counting 6000000⟩).setSign .s1
       { (station .running).signs.one with offered := some .blank }
     s.phase.serving = true ∧ s.health .s1 = .fault ∧ (s.link.signs.get .s1).probe = .counting 6000000
       ∧ (s.signs.get .s1).offered = some .blank ∧ s.link.state = .idle ∧ s.eligible .s2 = none ∧ s.eligible .s3 = none)
      ∧ (linked .sending transfer).link.state ≠ .idle := by decide

/-! Gates. -/

theorem wit_LimitInputsMoveTheGates :
    (∀ k ∈ [GateState.closing, .opening, .unpositioned, .stalled, .closePending],
      let s := gated .running { GateUnit.reset with state := k, travel := some 314000, fullTravel := k = .closing } false false
      s.phase.serving = true ∧ s.config.fitted.get .e = true ∧ (s.gates.units.get .e).state = k
        ∧ s.pins.openLimit.get .e = false ∧ s.pins.closedLimit.get .e = false
        ∧ (s.gates.units.get .e).fullTravel = decide (k = .closing))
      ∧ ((station .configFault).phase.operating = false ∧ (station .configFault).pins.openLimit.get .e ≠ false)
      ∧ (let s := gated .running GateUnit.reset false true
         s.pins.openLimit.get .e = false ∧ s.pins.closedLimit.get .e = true)
      ∧ (let s := gated .joining GateUnit.reset false false
         s.phase = .joining ∧ (s.gates.units.get .e).state ≠ .lockedOut ∧ s.pins.openLimit.get .e ≠ true)
      ∧ ((station .running).gates.units.east.state = .opened ∧ (station .running).pins.openLimit.get .e = true
        ∧ (station .running).pins.closedLimit.get .e = false)
      ∧ (let s := gated .running { GateUnit.reset with state := .closed, demand := some .closed } false true
         (s.gates.units.get .e).state = .closed ∧ s.pins.closedLimit.get .e = true) := by decide
/-- A limit gained at rest, with either demand. -/
theorem wit_LimitInputsMoveTheGates_demands :
    (holding .running (record 3 .avalanche .inForce)).demandNow .e = some .closed
      ∧ (station .running).demandNow .e = some .opened ∧ manned.demandNow .e = none
      ∧ (station .settling).demandNow .e = some .opened ∧ (station .settling).phase ≠ .running := by decide
theorem wit_LeadIsHeldBeforeClosing :
    ((leading 239 .fault).phase.serving = true ∧ (leading 239 .fault).gates.keyLocal = false
      ∧ ((leading 239 .fault).gates.units.get .e).state = .closePending
      ∧ (leading 239 .fault).leadTest .e = false ∧ (leading 240 .fault).leadTest .e = true
      ∧ (leading 240 .fault).facingSign .e = some .s1 ∧ (leading 240 .fault).health .s1 ≠ .ok
      ∧ (leading 240 .ok).health .s1 = .ok ∧ (leading 240 .ok).leadTest .e = false)
      ∧ (RegisterLaw (leading 240 .fault) ∧ 0 < (leading 240 .fault).config.gateLead
        ∧ 0 < (leading 240 .fault).config.slideLead
        ∧ exec (.gateLeadElapsed .e) (leading 240 .fault) = .next (after (.gateLeadElapsed .e) (leading 240 .fault))
        ∧ ((leading 240 .fault).gates.units.get .e).state = .closePending
        ∧ ((after (.gateLeadElapsed .e) (leading 240 .fault)).gates.units.get .e).state = .closing
        ∧ (after (.gateLeadElapsed .e) (leading 240 .fault)).gates.keyLocal = false) :=
  ⟨by decide, by unfold RegisterLaw; decide, by decide, by decide, rfl, by decide, by decide, by decide⟩
/-- Two IN-FORCE records over the range of gate E, the later one displayed first, of kind SLIDE; one displayed alone; the key in
LOCAL; and no record at all. -/
theorem wit_LeadIsHeldBeforeClosing_choice :
    (let show_ := fun (m : List (RecId × Nat)) =>
       ((holding .running (record 3 .avalanche .inForce)).setSlot 1 (some (record 4 .slide .inForce))).setSign .s1
         { (station .running).signs.one with displayed := m }
     let both := show_ [(⟨12, 3⟩, 60), (⟨12, 4⟩, 50)]
     both.phase.serving = true ∧ both.config.fitted.get .e = true ∧ both.gates.keyLocal = false
       ∧ (both.demandingRecord .e).map ClosureRecord.id = some ⟨12, 4⟩
       ∧ both.findRecord ⟨12, 4⟩ = some (1, record 4 .slide .inForce)
       ∧ ((show_ [(⟨12, 4⟩, 60), (⟨12, 3⟩, 60)]).demandingRecord .e).map ClosureRecord.id = some ⟨12, 3⟩
       ∧ ((show_ [(⟨12, 4⟩, 70)]).demandingRecord .e).map ClosureRecord.id = some ⟨12, 4⟩
       ∧ ((show_ []).demandingRecord .e).map ClosureRecord.id = some ⟨12, 3⟩)
      ∧ (manned.gates.keyLocal = true ∧ manned.phase.serving = true)
      ∧ (station .running).demandingRecord .e = none ∧ GateUnit.reset.demanding = none := by decide
theorem wit_StallsAndReversalsResume :
    (let s := gated .running { GateUnit.reset with state := .reversing, dwell := some 200000 } false false
     (s.gates.units.get .e).state = .reversing ∧ 200000 ≤ (s.gates.units.get .e).dwell.getD 0)
      ∧ (let s := gated .running { GateUnit.reset with state := .stalled, stallWait := some 1000000 } false false
         (s.gates.units.get .e).state = .stalled ∧ 1000000 ≤ (s.gates.units.get .e).stallWait.getD 0)
      ∧ (∀ k ∈ [0, 1], let s := gated .running { GateUnit.reset with
             state := .closing, travel := some 4500000, stalls := k } false false
         (s.gates.units.get .e).state = .closing ∧ (s.gates.units.get .e).stalls = k
           ∧ s.config.travelLimit ≤ (s.gates.units.get .e).travel.getD 0 / 10000)
      ∧ (∀ p ∈ [Phase.settling, .running], let s := gated p { GateUnit.reset with
             state := .reversing, demand := some .opened, dwell := some 200000 } false true
         (s.gates.units.get .e).demand = some .opened ∧ s.pins.openLimit.get .e = false ∧ s.phase = p
           ∧ s.pins.closedLimit.get .e = true)
      ∧ (∀ k ∈ [false, true], let s := gated .running { GateUnit.reset with
             state := .stalled, demand := some .closed, stallWait := some 1000000 } false k
         (s.gates.units.get .e).demand = some .closed ∧ s.pins.closedLimit.get .e = k) := by decide
/-- Gates before an evaluation: each state under either demand, in REMOTE without the lead met, with it met, and in LOCAL. -/
theorem wit_StallsAndReversalsResume_evaluation :
    (0 < config.gateLead ∧ 0 < config.slideLead)
      ∧ (let s := holding .running (record 3 .slide .inForce)
         s.phase.serving = true ∧ s.config.fitted.get .e = true ∧ s.gates.keyLocal = false ∧ s.demandingRecords .e ≠ []
           ∧ (s.gates.units.get .e).state = .opened ∧ s.facingSign .e = some .s1 ∧ s.health .s1 = .ok
           ∧ s.displayedSince .s1 ⟨12, 3⟩ = none
           ∧ (let u := s.setSign .s1 { s.signs.one with displayed := [(⟨12, 3⟩, 80)] }
              u.displayedSince .s1 ⟨12, 3⟩ = some 80 ∧ 80 + u.config.slideLead ≤ u.now
                ∧ (u.demandingRecord .e).map ClosureRecord.id = some ⟨12, 3⟩))
      ∧ (let s := leading 240 .fault
         (s.gates.units.get .e).pendingEntry = some 0 ∧ 0 + 2 * s.config.gateLead ≤ s.now ∧ s.health .s1 ≠ .ok
           ∧ (s.gates.units.get .e).state = .closePending ∧ s.demandingRecords .e = [])
      ∧ (∀ k ∈ [GateState.opened, .unpositioned, .closePending, .opening, .closing, .closed, .reversing, .stalled, .lockedOut],
          ((gated .running { GateUnit.reset with state := k } false true).gates.units.get .e).state = k)
      ∧ (manned.gates.keyLocal = true ∧ manned.gates.localDemand = none) := by decide
/-- The commands that evaluate the gates on a changed register, and the entry to RUNNING of a gate whose demand is OPEN. -/
theorem wit_StallsAndReversalsResume_occasions :
    (holding .running (record 3 .slide .announced)).recordAt 0 = some (record 3 .slide .announced)
      ∧ (let r := { record 3 .slide .inForce with own := false, id := ⟨9, 1⟩, duration := some 0 }
         (holding .running r).recordAt 0 = some r ∧ r.own = false ∧ r.duration = some 0)
      ∧ (let s := gated .settling { GateUnit.reset with state := .closed } false true
         s.phase = .settling ∧ 70 ≤ s.now ∧ (s.gates.units.get .e).state = .closed
           ∧ (after .runningEntry s).demandNow .e = some .opened ∧ s.pins.openLimit.get .e = false) := by decide
theorem wit_KeyAndButtonsCommandTheGates :
    ((station .running).phase.serving = true ∧ (station .running).config.fitted.get .e = true
        ∧ (station .running).gates.keyLocal = false)
      ∧ (manned.gates.keyLocal = true ∧ (manned.gates.units.get .e).state = .opened
        ∧ manned.pins.closedLimit.get .e = false)
      ∧ (∀ k ∈ [GateState.closing, .opening, .reversing, .stalled, .lockedOut], ∀ o ∈ [false, true], ∀ c ∈ [false, true],
        ((gated .running { GateUnit.reset with state := k } o c).gates.units.get .e).state = k
          ∧ (gated .running { GateUnit.reset with state := k } o c).limitsShow .e = limitsState o c)
      ∧ (let s := (gated .running { GateUnit.reset with state := .closed } false true).withGates
           { (gated .running { GateUnit.reset with state := .closed } false true).gates with keyLocal := true }
         s.gates.keyLocal = true ∧ (s.gates.units.get .e).state = .closed ∧ s.pins.openLimit.get .e = false)
      ∧ (let s := (station .joining).withGates { (station .joining).gates with keyLocal := true }
         s.phase = .joining ∧ s.config.fitted.get .e = true ∧ s.gates.keyLocal = true) := by decide

/-- In LOCAL with a gate in any state but CLOSE-PENDING, which is REMOTE's. -/
theorem wit_KeyAndButtonsCommandTheGates_buttons :
    ∀ k ∈ [GateState.opened, .unpositioned, .opening, .closing, .closed, .reversing, .stalled, .lockedOut],
      let s := manned.setGate .e { GateUnit.reset with state := k }
      s.phase.serving = true ∧ s.config.fitted.get .e = true ∧ s.gates.keyLocal = true
        ∧ (s.gates.units.get .e).state = k := by decide
/-! The byte layouts. -/

theorem wit_FramesReadBackAsTheirBulletins : goodSource control.source = true := by decide
set_option maxRecDepth 8000 in
/-- A QUERY frame, and one that fails each of the five checks. -/
theorem wit_FramesReadBackAsTheirBulletins_checks :
    [encodeFrame 6#8 30#8 7#8 [0#8], (encodeFrame 6#8 30#8 7#8 []).take 5, (encodeFrame 6#8 30#8 7#8 [0#8]).take 6,
        (encodeFrame 6#8 30#8 7#8 [0#8]).set 2 8#8, encodeFrame 6#8 30#8 7#8 [0#8, 0#8], encodeFrame 8#8 30#8 7#8 [0#8],
        encodeFrame 6#8 32#8 7#8 [0#8]].map (fun cs => (checkFrame cs).isSome)
      = [true, false, false, false, false, false, false] := by decide
theorem wit_SignLinkMessagesReadBack : (3#4 : BitVec 4) ≠ 1#4 ∧ (3#4 : BitVec 4) ≠ 2#4 := by decide

end Sys2Proof.Tests
end

section
/-! PROOF. The comparator (R16, R17): what makes a sample beyond or counting in each direction, and what a sample does to the
alert and the run count. -/

namespace Sys2Proof.Machine

open Sys2Proof

variable {k : ChannelConfig} {alert : Bool} {run : Nat} {x : Int}

/-! ## Which samples are beyond, and which count toward clearing -/

theorem beyond_iff_of_above (h : k.direction = .above) : beyond k x = true ↔ k.limit < x := by
  simp [beyond, h]

theorem beyond_iff_of_below (h : k.direction = .below) : beyond k x = true ↔ x < k.limit := by
  simp [beyond, h]

theorem counting_iff_of_above (h : k.direction = .above) : counting k x = true ↔ x ≤ k.limit - k.release := by
  simp [counting, h]

theorem counting_iff_of_below (h : k.direction = .below) : counting k x = true ↔ k.limit + k.release ≤ x := by
  simp [counting, h]

/-! ## What a sample does -/

@[simp] theorem compare_none : compare k alert run none = (alert, run) := rfl

/-- R16: what a present sample does while the alert is clear, `p` being the test it is put to. -/
theorem compare_clear_some {p : Prop} (hp : beyond k x = true ↔ p) :
    (p → compare k false run (some x) = if k.hold ≤ run + 1 then (true, 0) else (false, run + 1))
      ∧ (¬ p → compare k false run (some x) = (false, 0)) := by
  rw [← hp]
  constructor <;> intro h <;> simp [compare, h]

/-- R17: what a present sample does while the alert is set, `p` being the test it is put to. -/
theorem compare_set_some {p : Prop} (hp : counting k x = true ↔ p) :
    (p → compare k true run (some x) = if k.hold ≤ run + 1 then (false, 0) else (true, run + 1))
      ∧ (¬ p → compare k true run (some x) = (true, 0)) := by
  rw [← hp]
  constructor <;> intro h <;> simp [compare, h]

/-- Settles O22: in either direction the test the statement writes out is the model's `beyond` while the alert is clear and its
`counting` while it is set. -/
theorem comparatorSetsAndClears : Obligations.ComparatorSetsAndClears := by
  refine ⟨fun k run x => ⟨compare_none, ?_⟩, fun k run x => ⟨compare_none, ?_⟩⟩
  · cases hd : k.direction with
    | above => exact compare_clear_some (beyond_iff_of_above hd)
    | below => exact compare_clear_some (beyond_iff_of_below hd)
  · cases hd : k.direction with
    | above => exact compare_set_some (counting_iff_of_above hd)
    | below => exact compare_set_some (counting_iff_of_below hd)

end Sys2Proof.Machine
end

section
/-! PROOF. A heard bulletin at the register (R61 to R64, R78, R98 to R104): the frame's end and the peer table leave the register
and the station's settings as they were, and the register then merges the bulletin with the record it holds. -/

namespace Sys2Proof.Machine

open Sys2Proof

/-! ## What a frame says of the register and of the settings -/

theorem Frame.slots_eq {ps : List Part} {s t : State} (h : Frame ps s t) (hp : Part.slots ∉ ps) :
    t.register.slots = s.register.slots := (h .slots hp).symm

theorem Frame.settings_eq {ps : List Part} {s t : State} (h : Frame ps s t) (hp : Part.settings ∉ ps) :
    t.phase = s.phase ∧ t.config = s.config ∧ t.startup.address = s.startup.address := by
  have e : { s.startup with quiet := false, entryTimer := none } = { t.startup with quiet := false, entryTimer := none } :=
    h .settings hp
  exact ⟨(congrArg Startup.phase e).symm, (congrArg Startup.config e).symm, (congrArg Startup.address e).symm⟩

theorem recordAt_congr {s t : State} (h : t.register.slots = s.register.slots) (i : Nat) : t.recordAt i = s.recordAt i := by
  unfold State.recordAt
  rw [h]

theorem findRecord_congr {s t : State} (h : t.register.slots = s.register.slots) (id : RecId) :
    t.findRecord id = s.findRecord id := by
  unfold State.findRecord State.records
  rw [h]

theorem isControl_congr {s t : State} (hp : t.phase = s.phase) (hc : t.config = s.config) (a : Byte) :
    t.isControl a = s.isControl a := by
  unfold State.isControl
  rw [hp, hc]

theorem authorised_congr {s t : State} (hp : t.phase = s.phase) (hc : t.config = s.config)
    (ha : t.startup.address = s.startup.address) (sender origin : Byte) :
    t.authorised sender origin = s.authorised sender origin := by
  unfold State.authorised State.adopting
  rw [isControl_congr hp hc, hp, ha]

theorem kindAllowed_congr {s t : State} (hp : t.phase = s.phase) (hc : t.config = s.config) (origin : Byte)
    (kind : ClosureKind) : t.kindAllowed origin kind = s.kindAllowed origin kind := by
  unfold State.kindAllowed
  rw [isControl_congr hp hc]

/-! ## A heard frame is served -/

theorem servePeer_goes_on {h : FrameHeader} {take : Peer → Peer} {s : State}
    (hd : ∀ p, s.findPeer h.source = some p → judgeSequence p h.sequence ≠ .duplicate) : (servePeer h take s).2 = true := by
  unfold servePeer
  split
  · rfl
  · next p hp =>
    split
    · next hj => exact absurd hj (hd p hp)
    · rfl

theorem endFrame_findPeer (s : State) (a : Byte) : (endFrame s).findPeer a = s.findPeer a := by
  have h : s.peers.entries = (endFrame s).peers.entries := frame_endFrame s .peerEntries (by decide)
  unfold State.findPeer
  rw [h]

/-- R78: a heard frame is passed on to the service of its kind, in the state the frame's end and the peer table leave. -/
theorem receiveFrame_of_heard {h : FrameHeader} {s : State} (hh : Heard h s) (take : Peer → Peer) (serve : State → State) :
    ∃ u, Frame Part.ofFrame s u ∧ receiveFrame h take serve s = serve u := by
  obtain ⟨hactive, hsending, hecho, hgood, haddr, hdup⟩ := hh
  refine ⟨(servePeer h take (endFrame s)).1,
    ((frame_endFrame s).widen rfl).trans (frame_servePeer h take (endFrame s)), ?_⟩
  have hon : (servePeer h take (endFrame s)).2 = true :=
    servePeer_goes_on fun p hp => hdup p (endFrame_findPeer s _ ▸ hp)
  simp only [receiveFrame, hactive, hsending, hecho, hgood, haddr, Option.isSome_none, Bool.not_true, Bool.or_self,
    Bool.false_eq_true, if_false]
  rw [← Prod.mk.eta (p := servePeer h take (endFrame s)), hon]

theorem exec_closureBulletin (isAlert : Bool) (h : FrameHeader) (b : ClosureBody) (s : State) :
    exec (if isAlert then .alertReceived h b else .closureReceived h b) s
      = .next (receiveFrame h (fun p => p) (serveClosure isAlert h.source b) s) := by
  cases isAlert <;> rfl

/-! ## A bulletin for a held record -/

theorem takeClosure_of_held {isAlert : Bool} {sender : Byte} {b : ClosureBody} {c : ClosureContent} {s : State} {i : Nat}
    {r : ClosureRecord} (hc : closureContent isAlert b = some c) (hf : s.findRecord c.id = some (i, r))
    (ha : s.authorised sender c.id.origin = true) (hk : s.kindAllowed c.id.origin c.kind = true) :
    (mergeRecord c r = none → takeClosure isAlert sender b s = s)
      ∧ (∀ q, mergeRecord c r = some q →
          takeClosure isAlert sender b s = replaceRecord (s.isControl sender) i r q s) := by
  constructor
  · intro hm
    simp [takeClosure, hc, hf, ha, hk, hm]
  · intro q hm
    simp [takeClosure, hc, hf, ha, hk, hm]

theorem mergeRecord_older {c : ClosureContent} {r : ClosureRecord} (hd : 127 < revisionDistance c.revision r.revision) :
    mergeRecord c r = none := by
  simp only [mergeRecord]
  rw [if_neg (by omega), if_neg (by omega)]

theorem mergeRecord_newer {c : ClosureContent} {r : ClosureRecord} (h0 : 0 < revisionDistance c.revision r.revision)
    (hd : revisionDistance c.revision r.revision ≤ 127) : mergeRecord c r = some (mergeNewer c r) := by
  simp only [mergeRecord]
  rw [if_neg (by omega), if_pos hd]

theorem mergeRecord_equal {c : ClosureContent} {r : ClosureRecord} (hd : revisionDistance c.revision r.revision = 0) :
    mergeRecord c r = some (mergeEqual c r) := by
  simp only [mergeRecord]
  rw [if_pos hd]

/-- R105: coming in force as it is created or merged changes a record's state alone. -/
theorem settled_eq (r : ClosureRecord) :
    r.settled = { r with state := if r.state = .announced ∧ r.lead = 0 then .inForce else r.state } := by
  unfold ClosureRecord.settled
  split <;> rfl

theorem settled_own (r : ClosureRecord) : r.settled.own = r.own := by
  rw [settled_eq]

theorem mergeRecord_own {c : ClosureContent} {r q : ClosureRecord} (h : mergeRecord c r = some q) : q.own = r.own := by
  simp only [mergeRecord] at h
  split at h
  · cases h; exact settled_own _
  · split at h
    · cases h; exact settled_own _
    · cases h

end Sys2Proof.Machine
end

section
/-! PROOF. The requests of the hazard unit spare an own LIFTED record: no eviction takes an own record (R115), and none that is not
ANNOUNCED is brought forward (R51). So the record a bulletin leaves at an index is there still when the hazard unit, told of a
lift, has made its autoclose test (R50, R53, R113). -/

namespace Sys2Proof.Machine

open Sys2Proof

/-! ## What is at an index -/

theorem lt_length_of_recordAt {s : State} {i : Nat} {r : ClosureRecord} (h : s.recordAt i = some r) :
    i < s.register.slots.length := by
  unfold State.recordAt at h
  by_contra hl
  rw [List.getElem?_eq_none (by omega)] at h
  cases h

theorem recordAt_setSlot_of_ne {s : State} {i j : Nat} (h : i ≠ j) (x : Option ClosureRecord) :
    (s.setSlot j x).recordAt i = s.recordAt i := by
  unfold State.recordAt
  rw [State.setSlot_register, List.getElem?_set_ne h.symm]

theorem recordAt_setSlot_of_held {s : State} {i : Nat} {r : ClosureRecord} (h : s.recordAt i = some r)
    (x : Option ClosureRecord) : (s.setSlot i x).recordAt i = x := by
  rw [recordAt_setSlot s i i x (lt_length_of_recordAt h), if_pos rfl]

theorem recordAt_reportRecords (s : State) (i : Nat) : (reportRecords s).recordAt i = s.recordAt i :=
  recordAt_congr ((frame_reportRecords s).slots_eq (by decide)) i

theorem recordAt_queueOwn (r : ClosureRecord) (s : State) (i : Nat) : (queueOwn r s).recordAt i = s.recordAt i :=
  recordAt_congr ((frame_queueOwn r s).slots_eq (by decide)) i

theorem recordAt_takeSerial (v : Byte) (s : State) (i : Nat) : (takeSerial v s).recordAt i = s.recordAt i := rfl

theorem recordAt_setFull (b : Bool) (s : State) (i : Nat) : (setFull b s).recordAt i = s.recordAt i := by
  unfold setFull
  split
  · rfl
  · exact recordAt_congr ((frame_present _ _).slots_eq (by decide)) i

theorem recordAt_storeRecord_of_ne {i j : Nat} (h : i ≠ j) (r : ClosureRecord) (s : State) :
    (storeRecord j r s).recordAt i = s.recordAt i := by
  rw [storeRecord, recordAt_reportRecords, recordAt_setSlot_of_ne h]

theorem recordAt_vacate_of_ne {i j : Nat} (h : i ≠ j) (s : State) : (vacate j s).recordAt i = s.recordAt i := by
  unfold vacate
  split
  · next r _ =>
    rw [recordAt_reportRecords, recordAt_congr ((frame_dropDisplayed r.id _).slots_eq (by decide)),
      recordAt_congr ((frame_dropEntries r.id _).slots_eq (by decide)), recordAt_setSlot_of_ne h]
  · rfl

/-! ## Room for a record is not made at an own record's index -/

theorem ne_freeIndex {s : State} {i j : Nat} {r : ClosureRecord} (h : s.recordAt i = some r)
    (hj : freeIndex 0 s.register.slots = some j) : i ≠ j := by
  rintro rfl
  obtain ⟨-, hfree⟩ := freeIndex_spec hj
  rw [Nat.sub_zero] at hfree
  simp [State.recordAt, hfree] at h

theorem leastBy_mem {key : ClosureRecord → Nat} {p : Nat × ClosureRecord} :
    ∀ {l : List (Nat × ClosureRecord)}, leastBy key l = some p → p ∈ l
  | [], h => by cases h
  | x :: rest, h => by
    unfold leastBy at h
    split at h
    · cases h; exact List.mem_cons_self
    · next q hq =>
      split at h
      · cases h; exact List.mem_cons_of_mem _ (leastBy_mem hq)
      · cases h; exact List.mem_cons_self

theorem greatestBy_mem {key : ClosureRecord → Nat} {p : Nat × ClosureRecord} :
    ∀ {l : List (Nat × ClosureRecord)}, greatestBy key l = some p → p ∈ l
  | [], h => by cases h
  | x :: rest, h => by
    unfold greatestBy at h
    split at h
    · cases h; exact List.mem_cons_self
    · next q hq =>
      split at h
      · cases h; exact List.mem_cons_of_mem _ (greatestBy_mem hq)
      · cases h; exact List.mem_cons_self

/-- R115: the record chosen for eviction is none of the station's own. -/
theorem evictIndex_not_own {s : State} {new : ClosureRecord} {i : Nat} (h : s.evictIndex new = some i) :
    ∃ r, s.recordAt i = some r ∧ r.own = false := by
  unfold State.evictIndex at h
  split at h
  · next p hp =>
    cases h
    obtain ⟨hmem, hsel⟩ := List.mem_filter.mp (leastBy_mem hp)
    simp only [Bool.and_eq_true, Bool.not_eq_true'] at hsel
    exact ⟨p.2, mem_records.mp hmem, hsel.2⟩
  · split at h
    · cases h
    · obtain ⟨p, hp, rfl⟩ := Option.map_eq_some_iff.mp h
      obtain ⟨hmem, hsel⟩ := List.mem_filter.mp (greatestBy_mem hp)
      simp only [Bool.and_eq_true, Bool.not_eq_true'] at hsel
      exact ⟨p.2, mem_records.mp hmem, hsel.1.2⟩

theorem ne_evictIndex {s : State} {new r : ClosureRecord} {i j : Nat} (h : s.recordAt i = some r) (ho : r.own = true)
    (hj : s.evictIndex new = some j) : i ≠ j := by
  rintro rfl
  obtain ⟨q, hq, hqo⟩ := evictIndex_not_own hj
  cases h.symm.trans hq
  rw [ho] at hqo
  cases hqo

theorem admitRecord_keeps_own {s : State} {i : Nat} {r : ClosureRecord} (h : s.recordAt i = some r) (ho : r.own = true)
    (new : ClosureRecord) : (admitRecord new s).1.recordAt i = some r := by
  unfold admitRecord
  split
  · next j hj => exact (recordAt_storeRecord_of_ne (ne_freeIndex h hj) _ _).trans h
  · split
    · next j hj =>
      have hne := ne_evictIndex h ho hj
      exact (recordAt_storeRecord_of_ne hne _ _).trans ((recordAt_vacate_of_ne hne s).trans h)
    · exact (recordAt_setFull true s i).trans h

/-! ## The hazard unit's requests -/

theorem originate_keeps_own {s : State} {i : Nat} {r : ClosureRecord} (h : s.recordAt i = some r) (ho : r.own = true) :
    (originate s).1.recordAt i = some r := by
  have hadmit := admitRecord_keeps_own h ho (s.ownRecord .avalanche s.config.segmentHalf .announced s.config.announceLead)
  unfold originate
  dsimp only
  split
  · next e =>
    rw [e] at hadmit
    rw [recordAt_queueOwn, recordAt_takeSerial]
    exact hadmit
  · next e =>
    rw [e] at hadmit
    exact hadmit

theorem bringForwardAt_keeps {s : State} {i : Nat} {r : ClosureRecord} (h : s.recordAt i = some r) (hr : r.state ≠ .announced)
    (j : Nat) : (bringForwardAt j s).recordAt i = some r := by
  unfold bringForwardAt
  split
  · next q hq =>
    split
    · next hcond =>
      have hne : i ≠ j := by
        rintro rfl
        cases h.symm.trans hq
        exact hr hcond.2.2
      rw [recordAt_storeRecord_of_ne hne, recordAt_queueOwn]
      exact h
    · exact h
  · exact h

/-- What each index in turn keeps, all of them keep. -/
theorem forIndices_induction {P : State → Prop} {f : Nat → State → State} {s : State} (hf : ∀ j t, P t → P (f j t))
    (h : P s) : P (forIndices f s) :=
  List.foldlRecOn _ _ h fun t ht j _ => hf j t ht

theorem bringForward_keeps {s : State} {i : Nat} {r : ClosureRecord} (h : s.recordAt i = some r) (hr : r.state ≠ .announced) :
    (bringForward s).recordAt i = some r := by
  unfold bringForward
  split
  · exact forIndices_induction (P := fun t => t.recordAt i = some r) (fun j _ ht => bringForwardAt_keeps ht hr j) h
  · exact h

theorem autocloseTest_keeps_own {s : State} {i : Nat} {r : ClosureRecord} (h : s.recordAt i = some r) (ho : r.own = true)
    (hr : r.state ≠ .announced) : (autocloseTest s).recordAt i = some r := by
  have horig := originate_keeps_own h ho
  unfold autocloseTest
  split
  · split
    · next e =>
      rw [e] at horig
      exact bringForward_keeps horig hr
    · next e =>
      rw [e] at horig
      exact horig
  · exact h

theorem controlLift_keeps_own {s : State} {i : Nat} {r : ClosureRecord} (h : s.recordAt i = some r) (ho : r.own = true)
    (hr : r.state ≠ .announced) : (controlLift s).recordAt i = some r := by
  unfold controlLift
  split
  · exact autocloseTest_keeps_own h ho hr
  · exact h

/-- What the hazard unit makes of a record's move leaves the moved record in its place. -/
theorem tellHazard_keeps_moved {a b : ClosureRecord} {s : State} {i : Nat} (h : s.recordAt i = some b) (ho : b.own = a.own)
    (control : Bool) : (tellHazard control a b s).recordAt i = some b := by
  unfold tellHazard
  split
  · next hlift =>
    obtain ⟨hstanding, hlifted⟩ := Bool.and_eq_true_iff.mp hlift
    have hown : b.own = true := ho.trans (Bool.and_eq_true_iff.mp hstanding).1
    have hstate : b.state ≠ .announced := by
      rw [of_decide_eq_true hlifted]
      decide
    refine autocloseTest_keeps_own ?_ hown hstate
    split
    · exact controlLift_keeps_own h hown hstate
    · exact h
  · exact h

/-- R102, R103: the merged record stands at the held one's index. -/
theorem recordAt_replaceRecord {a b : ClosureRecord} {s : State} {i : Nat} (h : s.recordAt i = some a) (ho : b.own = a.own)
    (control : Bool) : (replaceRecord control i a b s).recordAt i = some b := by
  have hheld : (if control && carriedChanged a b then queueOwn b s else s).recordAt i = some a := by
    split
    · exact (recordAt_queueOwn b s i).trans h
    · exact h
  have hplaced := recordAt_setSlot_of_held hheld (some b)
  unfold replaceRecord
  refine tellHazard_keeps_moved ?_ ho control
  split
  · exact (recordAt_reportRecords _ i).trans hplaced
  · exact hplaced

end Sys2Proof.Machine
end

section
/-! PROOF. Merging by revision (R101 to R103, R105). -/

namespace Sys2Proof.Machine

open Sys2Proof

/-! ## The later of two states, the smaller of two durations (R103) -/

theorem laterState_eq_announced_iff {a b : ClosureState} : laterState a b = .announced ↔ a = .announced ∧ b = .announced := by
  cases a <;> cases b <;> decide

theorem laterState_eq_lifted_iff {a b : ClosureState} : laterState a b = .lifted ↔ a = .lifted ∨ b = .lifted := by
  cases a <;> cases b <;> decide

theorem laterState_eq_inForce_iff {a b : ClosureState} :
    laterState a b = .inForce ↔ (a = .inForce ∧ b ≠ .lifted) ∨ (b = .inForce ∧ a ≠ .lifted) := by
  cases a <;> cases b <;> decide

@[simp] theorem smallerDuration_none_left (d : Option Nat) : smallerDuration none d = d := rfl

@[simp] theorem smallerDuration_none_right (d : Option Nat) : smallerDuration d none = d := by
  cases d <;> rfl

@[simp] theorem smallerDuration_some (x y : Nat) : smallerDuration (some x) (some y) = some (min x y) := rfl

/-! ## The merged record, field by field -/

theorem mergeNewer_eq (c : ClosureContent) (r : ClosureRecord) :
    mergeNewer c r = { r with
      revision := c.revision, kind := c.kind, scopeLo := c.scopeLo, scopeHi := c.scopeHi, template := c.template,
      duration := c.duration, age := 0, stale := false,
      lead := if c.state = .announced then c.lead else 0,
      state := if c.state = .announced ∧ c.lead = 0 then .inForce else c.state,
      display := if c.state = .lifted then (if r.state = .lifted then r.display else 600) else 0 } := by
  rw [mergeNewer, settled_eq]
  by_cases h : c.state = .announced <;> simp [h]

theorem mergeEqual_eq (c : ClosureContent) (r : ClosureRecord) :
    mergeEqual c r = { r with
      duration := smallerDuration r.duration c.duration, age := 0, stale := false,
      lead := if r.state = .announced ∧ c.state = .announced then min r.lead c.lead else 0,
      state := if (r.state = .announced ∧ c.state = .announced) ∧ min r.lead c.lead = 0 then .inForce
        else laterState r.state c.state,
      display := if c.state = .lifted ∧ r.state ≠ .lifted then 600 else r.display } := by
  rw [mergeEqual, settled_eq]
  have hdisplay : (laterState r.state c.state = .lifted ∧ r.state ≠ .lifted) ↔ (c.state = .lifted ∧ r.state ≠ .lifted) := by
    rw [laterState_eq_lifted_iff]
    tauto
  simp only [laterState_eq_announced_iff, hdisplay]
  by_cases h : r.state = .announced ∧ c.state = .announced
  · simp only [if_pos h]
  · simp only [h, false_and]

/-! ## The bulletin's command -/

/-- R78, R98 to R101: a heard bulletin for a held record, past the form, authority and kind checks, is merged by revision: an
older one leaves the register, and any other puts the merged record in the held one's place. -/
theorem completes_merge {s : State} {isAlert : Bool} {h : FrameHeader} {b : ClosureBody} {c : ClosureContent} {i : Nat}
    {r : ClosureRecord} (hphase : s.phase.operating = true) (hheard : Heard h s) (hc : closureContent isAlert b = some c)
    (hf : s.findRecord c.id = some (i, r)) (ha : s.authorised h.source c.id.origin = true)
    (hk : s.kindAllowed c.id.origin c.kind = true) :
    (mergeRecord c r = none →
        Completes (if isAlert then .alertReceived h b else .closureReceived h b) s
          (fun t => t.register.slots = s.register.slots))
      ∧ (∀ q, mergeRecord c r = some q →
          Completes (if isAlert then .alertReceived h b else .closureReceived h b) s (fun t => t.recordAt i = some q)) := by
  obtain ⟨u, hu, hserved⟩ := receiveFrame_of_heard hheard (fun p => p) (serveClosure isAlert h.source b)
  have hslots : u.register.slots = s.register.slots := hu.slots_eq (by decide)
  obtain ⟨hup, huc, hua⟩ := hu.settings_eq (by decide)
  have hexec : exec (if isAlert then .alertReceived h b else .closureReceived h b) s
      = .next (takeClosure isAlert h.source b u) := by
    rw [exec_closureBulletin, hserved, serveClosure, hup, if_pos hphase]
  obtain ⟨hOlder, hMerged⟩ := takeClosure_of_held (s := u) hc ((findRecord_congr hslots c.id).trans hf)
    ((authorised_congr hup huc hua _ _).trans ha) ((kindAllowed_congr hup huc _ _).trans hk)
  refine ⟨fun hm => ⟨_, hexec, ?_⟩, fun q hm => ⟨_, hexec, ?_⟩⟩
  · rw [hOlder hm]
    exact hslots
  · have hheld : s.recordAt i = some r := mem_records.mp (List.mem_of_find?_eq_some hf)
    rw [hMerged q hm]
    exact recordAt_replaceRecord ((recordAt_congr hslots i).trans hheld) (mergeRecord_own hm) _

theorem Completes.mono {cmd : Instr} {s : State} {P Q : State → Prop} (h : Completes cmd s P) (hPQ : ∀ t, P t → Q t) :
    Completes cmd s Q := by
  obtain ⟨t, ht, hp⟩ := h
  exact ⟨t, ht, hPQ t hp⟩

/-- Settles O43: the distance of the revisions picks the branch of `mergeRecord`, and the merged record is read field by field. -/
theorem closureBulletinMergesByRevision : Obligations.ClosureBulletinMergesByRevision := by
  intro s isAlert h b c i r hphase hheard hc hf ha hk
  obtain ⟨hOlder, hMerged⟩ := completes_merge hphase hheard hc hf ha hk
  refine ⟨fun hd => hOlder (mergeRecord_older hd), fun h0 hd => ?_, fun hd => ?_⟩
  · refine (hMerged _ (mergeRecord_newer h0 hd)).mono fun t ht => ⟨_, ht, ?_⟩
    rw [mergeNewer_eq]
    refine ⟨rfl, rfl, rfl, rfl, rfl, rfl, rfl, rfl, rfl, rfl, rfl, rfl, ?_, ?_, ?_⟩
    · intro hl hr
      simp [hl, hr]
    · intro hl hr
      simp [hl, hr]
    · intro hl
      simp [hl]
  · refine (hMerged _ (mergeRecord_equal hd)).mono fun t ht => ⟨_, ht, ?_⟩
    rw [mergeEqual_eq]
    refine ⟨rfl, rfl, rfl, rfl, rfl, rfl, rfl, rfl, rfl, ?_, ?_, ?_, ?_, ?_, ?_, ?_, ?_, ?_, ?_⟩
    · intro hd
      simp [hd]
    · intro hd
      simp [hd]
    · intro x y hx hy
      simp [hx, hy]
    · intro hr hl
      have hlater : laterState r.state c.state = .announced := laterState_eq_announced_iff.mpr ⟨hr, hl⟩
      rw [hlater]
      simp [hr, hl]
    · intro hne
      exact if_neg (by tauto)
    · intro hl
      rw [laterState_eq_lifted_iff.mpr hl]
      rcases hl with hl | hl <;> simp [hl]
    · intro hr hl
      simp [hr, laterState_eq_inForce_iff, hl]
    · intro hl hr
      simp [hl, laterState_eq_inForce_iff, hr]
    · intro hl hr
      exact if_pos ⟨hl, hr⟩
    · intro hne
      exact if_neg (by tauto)

end Sys2Proof.Machine
end

section
/-! PROOF. What a command answers: a next state in every state (log entry 34), which differs from the one before in the parts that
`Part.written` lists for the command at most. -/

namespace Sys2Proof.Machine

open Sys2Proof

/-! ## The state a command answers -/

/-- The state a command leaves; `exec_eq_next` ties it to `exec`. -/
def outcome (c : Instr) (s : State) : State :=
  match exec c s with
  | .next t => t
  | _ => s

/-- No command stops. -/
theorem exec_eq_next (c : Instr) (s : State) : exec c s = .next (outcome c s) := by
  cases c <;> rfl

theorem outcome_of_exec {c : Instr} {s t : State} (h : exec c s = .next t) : outcome c s = t := by
  unfold outcome
  rw [h]

theorem completes_iff {c : Instr} {s : State} {P : State → Prop} : Completes c s P ↔ P (outcome c s) := by
  constructor
  · rintro ⟨t, ht, hp⟩
    rwa [outcome_of_exec ht]
  · exact fun h => ⟨_, exec_eq_next c s, h⟩

/-! ## Frames of a choice -/

theorem Frame.ite {ps : List Part} {s a b : State} {p : Prop} [Decidable p] (ha : Frame ps s a) (hb : Frame ps s b) :
    Frame ps s (if p then a else b) := by
  split
  · exact ha
  · exact hb

/-- A guarded command writes what it writes where its guard holds. -/
theorem Frame.guard {ps : List Part} {s a : State} {p : Prop} [Decidable p] (ha : Frame ps s a) :
    Frame ps s (if p then a else s) := Frame.ite ha (Frame.refl ps s)

/-! ## Updates of a block that commands write themselves -/

theorem frame_withLine_receiver (s : State) (r : ReceiverState) (b : List Byte) (e : Bool) (i : Int) (w : Option Wait)
    (f : Option Flight) (n : Nat) (x : Option Transmission) (q : Byte) (d : Nat) :
    Frame [.receiver, .wait, .flight] s (s.withLine { s.line with
      receiver := r, buffer := b, echo := e, idle := i, wait := w, inFlight := f, attempts := n, sending := x,
      ownSequence := q, draws := d }) := by
  intro p hp
  cases p <;> simp_all [Part.agree]

theorem frame_withLine (s : State) (l : Line) :
    Frame [.receiver, .queue, .wait, .flight, .lineFlags] s (s.withLine l) := by
  intro p hp
  cases p <;> simp_all [Part.agree]

theorem frame_withClock (s : State) (x : Clock) : Frame [.clock] s (s.withClock x) := by
  intro p hp
  cases p <;> simp_all [Part.agree]

theorem frame_withPartialPending (s : State) (b : Bool) : Frame [.partialPending] s (s.withPartialPending b) := by
  intro p hp
  cases p <;> simp_all [Part.agree]

theorem frame_withStartup (s : State) (x : Startup) : Frame [.settings, .quiet] s (s.withStartup x) := by
  intro p hp
  cases p <;> simp_all [Part.agree]

theorem frame_phase (s : State) (x : Phase) : Frame [.settings] s (s.withStartup { s.startup with phase := x }) := by
  intro p hp
  cases p <;> simp_all [Part.agree]

theorem frame_timers (s : State) (a : Option Nat) (n : Nat) (b : Option Nat) :
    Frame [.statusTimer, .announceTimer] s
      (s.withPeers { s.peers with statusTimer := a, statusInterval := n, announceTimer := b }) := by
  intro p hp
  cases p <;> simp_all [Part.agree]

theorem frame_announceTimer (s : State) (b : Option Nat) :
    Frame [.announceTimer] s (s.withPeers { s.peers with announceTimer := b }) := by
  intro p hp
  cases p <;> simp_all [Part.agree]

theorem frame_insertRecord (s : State) (r : HourRecord) : Frame [.ring] s (s.withRetained (s.retained.insert r)) := by
  intro p hp
  cases p <;> simp_all [Part.agree, Retained.insert]

/-! ## The line unit's commands -/

/-- R57, R59: a character moves the receiver, which holds 54 characters at most. -/
theorem Line.takeChar_spec (l : Line) (c : Byte) (bad : Bool) : ∃ r b e i, l.takeChar c bad
    = { l with receiver := r, buffer := b, echo := e, idle := i } ∧ (l.buffer.length ≤ 54 → b.length ≤ 54) := by
  unfold Line.takeChar
  dsimp only
  split
  · exact ⟨_, _, _, _, rfl, id⟩
  · exact ⟨_, _, _, _, rfl, id⟩
  · split
    · exact ⟨_, _, _, _, rfl, fun _ => Nat.zero_le 54⟩
    · exact ⟨_, _, _, _, rfl, fun _ => (by decide : 1 ≤ 54)⟩
  · split
    · exact ⟨_, _, _, _, rfl, fun _ => Nat.zero_le 54⟩
    · next h =>
      refine ⟨_, _, _, _, rfl, fun _ => ?_⟩
      simp only [Bool.or_eq_true, decide_eq_true_eq, not_or] at h
      rw [List.length_append, List.length_singleton]
      omega
  · exact ⟨_, _, _, _, rfl, id⟩

theorem Line.interrupt_spec (l : Line) : ∃ w, l.interrupt = { l with wait := w } ∧ (l.wait = none → w = none) := by
  unfold Line.interrupt
  split
  · next h => exact ⟨_, rfl, fun hw => by rw [hw] at h; cases h⟩
  · exact ⟨l.wait, rfl, id⟩

theorem Line.compareEcho_spec (l : Line) (rate : Nat) (c : Byte) (b : Bool) : ∃ x, l.compareEcho rate c b
    = { l with sending := x } ∧ (x = none ↔ l.sending = none) := by
  have hself : ∃ x, l = { l with sending := x } ∧ (x = none ↔ l.sending = none) := ⟨l.sending, rfl, Iff.rfl⟩
  unfold Line.compareEcho
  split
  · next hs _ =>
    split
    · exact hself
    · split
      · exact ⟨_, rfl, by rw [hs]; simp⟩
      · exact ⟨_, rfl, by rw [hs]; simp⟩
  · exact hself

/-- The fields of the line that a character received may move (R57, R59, R70, R72). -/
theorem characterReceived_line (s : State) (c : Byte) (bad : Bool) :
    ∃ r b e i w x, (s.line.takeChar c bad).interrupt.compareEcho (lineRate s.startup.rateCode) c bad
      = { s.line with receiver := r, buffer := b, echo := e, idle := i, wait := w, sending := x }
      ∧ (s.line.wait = none → w = none) ∧ (x = none ↔ s.line.sending = none)
      ∧ (s.line.buffer.length ≤ 54 → b.length ≤ 54) := by
  obtain ⟨r, b, e, i, h1, hb⟩ := s.line.takeChar_spec c bad
  obtain ⟨w, h2, hw⟩ := (s.line.takeChar c bad).interrupt_spec
  obtain ⟨x, h3, hx⟩ := (s.line.takeChar c bad).interrupt.compareEcho_spec (lineRate s.startup.rateCode) c bad
  rw [h2, h1] at hx
  rw [h1] at hw
  exact ⟨r, b, e, i, w, x, by rw [h3, h2, h1], hw, hx, hb⟩

theorem frame_enterFlight (e : Bulletin) (s : State) :
    Frame [.peerEntries, .statusTimer, .announceTimer] s (enterFlight e s) := by
  unfold enterFlight
  split
  · exact (frame_timers s _ _ _).widen rfl
  · exact (frame_timers s _ _ _).widen rfl
  · split
    · exact (frame_storePeer _ s).widen rfl
    · exact Frame.refl _ s
  · exact Frame.refl _ s

theorem frame_withLine_flight (s : State) (q : List Bulletin) (w : Option Wait) (f : Option Flight) (n : Nat)
    (x : Option Transmission) (o : Byte) :
    Frame (.flight :: Part.ofPresent) s (s.withLine { s.line with
      queue := q, wait := w, inFlight := f, attempts := n, sending := x, ownSequence := o }) := by
  intro p hp
  cases p <;> simp_all [Part.agree, Part.ofPresent]

theorem frame_firstAttempt (e : Bulletin) (rest : List Bulletin) (s : State) :
    Frame ([.flight, .peerEntries, .statusTimer, .announceTimer] ++ Part.ofPresent) s (firstAttempt e rest s) := by
  unfold firstAttempt
  split
  · exact ((frame_queue_wait s rest s.line.wait s.line.draws).widen rfl).trans ((frame_followQueue _).widen rfl)
  · exact ((frame_withLine_flight s rest none _ 1 _ _).widen rfl).trans ((frame_enterFlight e _).widen rfl)

theorem frame_land (s : State) : Frame [.flight] s (s.withLine s.line.land) := by
  intro p hp
  cases p <;> simp_all [Part.agree, Line.land]

theorem frame_lineTrouble (s : State) (b : Bool) (n : Nat) :
    Frame [.lineFlags] s (s.withLine { s.line with lineTrouble := b, successRun := n }) := by
  intro p hp
  cases p <;> simp_all [Part.agree]

theorem frame_countSuccess (s : State) : Frame (.lineFlags :: Part.ofPresent) s (countSuccess s) := by
  unfold countSuccess
  split
  · split
    · exact ((frame_lineTrouble s false 0).widen rfl).trans ((frame_present .status _).widen rfl)
    · exact (frame_lineTrouble s s.line.lineTrouble _).widen rfl
  · exact Frame.refl _ s

theorem frame_stopSending (s : State) : Frame [.flight, .receiver] s (s.withLine s.line.stopSending) := by
  intro p hp
  cases p <;> simp_all [Part.agree, Line.stopSending]

theorem frame_beginWait (s : State) (c e : Nat) (t : Int) : Frame [.wait] s (s.withLine (s.line.beginWait c e t)) := by
  intro p hp
  cases p <;> simp_all [Part.agree, Line.beginWait]

theorem frame_abandon (s : State) : Frame ([.flight, .lineFlags] ++ Part.ofPresent) s (abandon s) := by
  have h1 : Frame ([.flight, .lineFlags] ++ Part.ofPresent) s
      (s.withLine { s.line.land with lineTrouble := true, successRun := 0 }) :=
    ((frame_land s).widen rfl).trans ((frame_lineTrouble (s.withLine s.line.land) true 0).widen rfl)
  unfold abandon
  dsimp only
  split
  · exact h1.trans ((frame_followQueue _).widen rfl)
  · exact h1.trans (((frame_present .status _).widen rfl).trans ((frame_followQueue _).widen rfl))

/-! ## Start-up -/

theorem frame_resetWith (a : BitVec 5) (r : BitVec 2) (w : Bool) (m : Retained) (s : State) :
    Frame (Part.written (.powerOnReset a r)) s (resetWith a r w m s)
      ∧ (m = s.retained → Frame (Part.written (.warmReset a r)) s (resetWith a r w m s)) := by
  constructor
  · intro p hp
    cases p <;> first | rfl | exact absurd (by simp [Part.written]) hp
  · rintro rfl p hp
    cases p <;> first | rfl | exact ⟨rfl, rfl⟩ | exact ⟨rfl, rfl, rfl⟩ | exact absurd (by simp [Part.written]) hp

theorem frame_startLineAndClock (s : State) : Frame [.receiver, .clock, .replyPair] s (startLineAndClock s) := by
  intro p hp
  cases p <;> simp_all [Part.agree, startLineAndClock]

theorem frame_image (s : State) (x : Phase) (i : Option (List Byte)) (k : StationConfig) (b v : Bool) :
    Frame [.settings] s (s.withStartup { s.startup with
      phase := x, image := i, config := k, substituted := b, retainedValid := v }) := by
  intro p hp
  cases p <;> simp_all [Part.agree]

/-- The parts that the entry to CONFIG-FAULT writes. -/
theorem frame_configFault (i : Option (List Byte)) (b : Bool) (s : State) :
    Frame [.settings, .clock, .receiver, .replyPair, .queue, .wait, .announceTimer] s (enterConfigFault i b s) := by
  have h1 : Frame [.settings, .clock, .receiver, .replyPair, .queue, .wait, .announceTimer] s (startLineAndClock
      (s.withStartup { s.startup with phase := .configFault, image := i, substituted := b })) :=
    ((frame_image s .configFault i s.startup.config b s.startup.retainedValid).widen rfl).trans
      ((frame_startLineAndClock _).widen rfl)
  unfold enterConfigFault
  exact Frame.ite h1 (h1.trans (((frame_announceTimer _ _).widen rfl).trans ((frame_present _ _).widen rfl)))

theorem frame_enterConfigFault (img : Option (List Byte)) (b : Bool) (a : List Byte) (s : State) :
    Frame (Part.written (.configurationReadEnd a)) s (enterConfigFault img b s) := (frame_configFault img b s).widen rfl

theorem frame_withRetained (s : State) (m : Retained) :
    Frame [.ring, .histories, .ownSerial, .retainedMarks] s (s.withRetained m) := by
  intro p hp
  cases p <;> simp_all [Part.agree]

theorem frame_withChannels (s : State) (x : PerChan Channel) : Frame [.channels] s (s.withChannels x) := by
  intro p hp
  cases p <;> simp_all [Part.agree]

theorem frame_withGates (s : State) (x : Gates) : Frame [.gateUnits, .key] s (s.withGates x) := by
  intro p hp
  cases p <;> simp_all [Part.agree]

theorem frame_linkSigns (s : State) (x : PerSign SignLink) :
    Frame [.signLinks] s (s.withLink { s.link with signs := x }) := by
  intro p hp
  cases p <;> simp_all [Part.agree]

/-! ## Where the selector and the QUIET judgement are at rest -/

theorem evaluateSign_of_not_serving {s : State} (h : s.phase.serving = false) (n : Sign) : evaluateSign n s = s := by
  unfold evaluateSign
  rw [h]
  rfl

theorem evaluateSigns_of_not_serving {s : State} (h : s.phase.serving = false) : evaluateSigns s = s := by
  simp only [evaluateSigns, forSigns, evaluateSign_of_not_serving h]

theorem evaluateGates_of_not_serving {s : State} (h : s.phase.serving = false) : evaluateGates s = s := by
  simp [evaluateGates, forGates, evaluateGate, h]

theorem judgeQuiet_of_not_running {s : State} (h : s.phase ≠ .running) : judgeQuiet s = s := if_neg h

/-- R182: at the end of CONFIG-READ an evaluation is published and reported to the line unit alone. -/
theorem frame_evaluateHazard_joining {s : State} (h : s.phase = .joining) :
    Frame ([.computation, .hold, .effective] ++ Part.ofPresent) s (evaluateHazard false s) := by
  have hp : (publish s).phase = .joining := h
  have hrun : s.phase ≠ .running := by
    rw [h]
    decide
  have hreport : reportEvaluation s.hazard (publish s) = publish s
      ∨ reportEvaluation s.hazard (publish s) = present .status (publish s) := by
    have hq : ∀ t : State, t.phase = .joining → judgeQuiet (evaluateSigns t) = t := by
      intro t ht
      rw [evaluateSigns_of_not_serving (by rw [ht]; rfl), judgeQuiet_of_not_running (by rw [ht]; decide)]
    have hpres : (present .status (publish s)).phase = .joining :=
      ((frame_present .status (publish s)).settings_eq (by decide)).1.trans hp
    unfold reportEvaluation
    dsimp only
    split <;> split
    · exact .inr (hq _ hpres)
    · exact .inl (hq _ hp)
    · exact .inr rfl
    · exact .inl rfl
  have heq : evaluateHazard false s = reportEvaluation s.hazard (publish s) := by
    simp only [evaluateHazard, Bool.false_and, Bool.false_eq_true, if_false, if_neg hrun]
  rw [heq]
  rcases hreport with h1 | h1
  · rw [h1]
    exact (frame_publish s).widen rfl
  · rw [h1]
    exact ((frame_publish s).widen rfl).trans ((frame_present .status _).widen rfl)

theorem frame_enterJoining (img : List Byte) (b : Bool) (ck : Word16) (a : List Byte) (s : State) :
    Frame (Part.written (.configurationReadEnd a)) s (enterJoining img b ck s) := by
  unfold enterJoining
  dsimp only
  refine Frame.trans ?_ ((frame_evaluateHazard_joining rfl).widen rfl)
  refine Frame.trans ?_ ((frame_linkSigns _ _).widen rfl)
  refine Frame.trans ?_ ((frame_withSigns _ _).widen rfl)
  refine Frame.trans ?_ ((frame_withGates _ _).widen rfl)
  refine Frame.trans ?_ ((frame_slide _ _).widen rfl)
  refine Frame.trans ?_ ((frame_withChannels _ _).widen rfl)
  refine Frame.trans ?_ ((frame_withRetained _ _).widen rfl)
  exact ((frame_image s _ _ _ _ _).widen rfl).trans ((frame_startLineAndClock _).widen rfl)

theorem frame_deliverDeferred (s : State) : Frame (.slide :: Part.ofRecords) s (deliverDeferred s) := by
  unfold deliverDeferred
  split
  · exact ((frame_slide s _).widen rfl).trans ((frame_slideEvent _).widen rfl)
  · exact Frame.refl _ s

theorem frame_raiseSerial (s : State) : Frame [.ownSerial] s (raiseSerial s) := frame_ownSerial s _

/-! ## Observation -/

theorem frame_beginHour (c : Chan) (s : State) : Frame [.channels] s (beginHour c s) := frame_setChannel s c _

theorem frame_insertHour (s : State) :
    Frame [.clock, .channels, .ring, .partialPending] s (insertHour s) := by
  unfold insertHour
  dsimp only
  refine Frame.trans ?_ ((frame_withClock _ _).widen rfl)
  refine Frame.trans ?_ ((frame_forChannels frame_beginHour _).widen rfl)
  exact ((frame_insertRecord s _).widen rfl).trans ((frame_withPartialPending _ _).widen rfl)

theorem frame_pulseEdge (ch : Chan) (rising : Bool) (s : State) :
    Frame Part.ofSample s (outcome (.pulseEdge ch rising) s) := by
  have hset : ∀ x, Frame Part.ofSample s (s.setChannel ch x) := fun x => (frame_setChannel s ch x).widen rfl
  dsimp only [outcome, exec, execPulseEdge]
  refine Frame.guard ?_
  split
  · exact Frame.refl _ s
  · exact Frame.guard (hset _)
  · exact Frame.guard (hset _)
  · split
    · exact hset _
    · exact frame_widthSample ch _ s
    · exact Frame.refl _ s

theorem frame_senseLineChange (ch : Chan) (high : Bool) (s : State) :
    Frame (.pins :: Part.ofSample) s (outcome (.senseLineChange ch high) s) := by
  have hpin : Frame (.pins :: Part.ofSample) s (s.withPins { s.pins with sense := s.pins.sense.set ch high }) :=
    (frame_withPins s _).widen rfl
  dsimp only [outcome, exec, execSenseLineChange]
  refine Frame.ite ?_ hpin
  split
  · exact hpin.trans ((frame_setChannel _ ch _).widen rfl)
  · exact hpin.trans ((frame_widthSample ch none _).widen rfl)
  · exact hpin

theorem frame_slideContactChange (closed : Bool) (s : State) :
    Frame [.pins, .slide] s (outcome (.slideContactChange closed) s) := by
  have hpin : Frame [.pins, .slide] s (s.withPins { s.pins with contact := closed }) := (frame_withPins s _).widen rfl
  dsimp only [outcome, exec, execSlideContactChange]
  refine Frame.ite ?_ hpin
  split
  · exact hpin.trans ((frame_slide _ _).widen rfl)
  · exact hpin.trans ((frame_slide _ _).widen rfl)
  · exact hpin.trans ((frame_slide _ _).widen rfl)
  · exact hpin.trans ((frame_slide _ _).widen rfl)
  · exact hpin

/-! ## The pass line -/

theorem frame_characterReceived (c : Byte) (bad : Bool) (s : State) :
    Frame [.receiver, .wait, .flight] s (outcome (.characterReceived c bad) s) := by
  obtain ⟨r, b, e, i, w, x, h, -⟩ := characterReceived_line s c bad
  dsimp only [outcome, exec, execCharacterReceived]
  rw [h]
  exact Frame.ite (Frame.refl _ s) (frame_withLine_receiver s r b e i w _ _ x _ _)

theorem frame_attemptStart (s : State) :
    Frame ([.flight, .peerEntries, .statusTimer, .announceTimer] ++ Part.ofPresent) s (outcome .attemptStart s) := by
  dsimp only [outcome, exec, execAttemptStart]
  refine Frame.guard ?_
  split
  · exact (frame_withLine_flight s s.line.queue none _ _ _ _).widen rfl
  · split
    · exact frame_firstAttempt _ _ s
    · exact (frame_queue_wait s s.line.queue none s.line.draws).widen rfl

theorem frame_attemptSuccess (s : State) :
    Frame ([.flight, .lineFlags] ++ Part.ofPresent) s (outcome .attemptSuccess s) :=
  Frame.guard (((frame_land s).widen rfl).trans
    (((frame_countSuccess _).widen rfl).trans ((frame_followQueue _).widen rfl)))

theorem frame_attemptFailed (s : State) :
    Frame ([.flight, .lineFlags, .receiver] ++ Part.ofPresent) s (outcome .attemptFailed s) := by
  have hstop : Frame ([.flight, .lineFlags, .receiver] ++ Part.ofPresent) s (s.withLine s.line.stopSending) :=
    (frame_stopSending s).widen rfl
  dsimp only [outcome, exec, execAttemptFailed]
  refine Frame.guard ?_
  split
  · exact Frame.ite (hstop.trans ((frame_beginWait _ _ _ _).widen rfl)) (hstop.trans ((frame_abandon _).widen rfl))
  · exact hstop.trans ((frame_land _).widen rfl)

theorem frame_frameDiscarded (s : State) :
    Frame ([.lineFlags, .receiver] ++ Part.ofPresent) s (outcome .frameDiscarded s) := by
  have hend : Frame ([.lineFlags, .receiver] ++ Part.ofPresent) s (endFrame s) := (frame_endFrame s).widen rfl
  exact Frame.ite (Frame.refl _ s) (Frame.ite (hend.trans ((frame_addressConflict _).widen rfl)) hend)

/-! ## The gates -/

theorem frame_takeLimit (g : Gate) (l : Limit) (a : Bool) (s : State) : Frame [.pins] s (takeLimit g l a s) :=
  frame_withPins s _

theorem frame_limitInputChange (g : Gate) (l : Limit) (a : Bool) (s : State) :
    Frame ([.pins, .histories] ++ Part.ofGates) s (outcome (.limitInputChange g l a) s) := by
  have hpin : Frame ([.pins, .histories] ++ Part.ofGates) s (takeLimit g l a s) := (frame_takeLimit g l a s).widen rfl
  dsimp only [outcome, exec, execLimitInputChange]
  refine Frame.ite (Frame.refl _ s) (Frame.ite (Frame.ite ?_ (Frame.ite ?_ hpin)) hpin)
  · exact hpin.trans ((frame_followLimits g _).widen rfl)
  · exact hpin.trans ((frame_limitEvent g l a _).widen rfl)

theorem frame_keyToLocal (s : State) : Frame ([.pins, .key] ++ Part.ofGates) s (outcome .keyToLocal s) := by
  have hpin : Frame ([.pins, .key] ++ Part.ofGates) s (s.withPins { s.pins with keyLocal := true }) :=
    (frame_withPins s _).widen rfl
  refine Frame.ite (hpin.trans ?_) hpin
  exact ((frame_key _ _ _).widen rfl).trans
    (((frame_forGates frame_clearDemand _).widen rfl).trans ((frame_forGates frame_gateToLocal _).widen rfl))

theorem frame_keyToRemote (s : State) : Frame ([.pins, .key] ++ Part.ofGates) s (outcome .keyToRemote s) := by
  have hpin : Frame ([.pins, .key] ++ Part.ofGates) s (s.withPins { s.pins with keyLocal := false }) :=
    (frame_withPins s _).widen rfl
  refine Frame.ite (hpin.trans ?_) hpin
  exact ((frame_key _ _ _).widen rfl).trans (((frame_forGates frame_remoteDemand _).widen rfl).trans
    (((frame_forGates frame_gateToRemote _).widen rfl).trans ((frame_evaluateGates _).widen rfl)))

/-! ## The sign link -/

theorem frame_linkFields (s : State) (k : LinkState) (h : Bool) (t : Option Transfer) :
    Frame [.linkState] s (s.withLink { s.link with state := k, held := h, transfer := t }) := by
  intro p hp
  cases p <;> simp_all [Part.agree]

theorem frame_ackReceived (a : BitVec 4) (ck : Word16) (s : State) :
    Frame Part.ofTransfer s (outcome (.ackReceived a ck) s) := by
  dsimp only [outcome, exec, execAckReceived]
  split
  · refine Frame.ite ?_ (frame_failTransfer _ s)
    exact ((frame_endTransfer s).widen rfl).trans ((frame_countSuccessful _ _).trans ((frame_arbitrate _).widen rfl))
  · exact Frame.refl _ s

theorem frame_nakUnknownTemplate (a p : BitVec 4) (s : State) :
    Frame Part.ofSigns s (outcome (.nakUnknownTemplate a p) s) := by
  dsimp only [outcome, exec, execNakUnknownTemplate]
  split
  · exact ((frame_endTransfer s).widen rfl).trans ((frame_countRefusal _ p _).trans ((frame_arbitrate _).widen rfl))
  · exact Frame.refl _ s

theorem frame_probeDue (n : Sign) (s : State) : Frame [.linkState, .signLinks] s (outcome (.probeDue n) s) := by
  dsimp only [outcome, exec, execProbeDue]
  split
  · exact Frame.guard (((frame_setSignLink s n _).widen rfl).trans (frame_arbitrate _))
  · exact Frame.refl _ s


/-! ## Every command -/

/-- R184: what the entry to SETTLING does after the change of phase. -/
theorem frame_settling (u : State) : Frame ([.statusTimer, .announceTimer, .slide] ++ Part.ofRecords) u
    (evaluateGates (arbitrate (evaluateSigns (deliverDeferred (present .status (present (.recap 0#8) (present .announce
      (restartRefresh (u.withPeers { u.peers with statusTimer := some 0, announceTimer := some 0 }))))))))) := by
  refine Frame.trans ?_ ((frame_evaluateGates _).widen rfl)
  refine Frame.trans ?_ ((frame_arbitrate _).widen rfl)
  refine Frame.trans ?_ ((frame_evaluateSigns _).widen rfl)
  refine Frame.trans ?_ ((frame_deliverDeferred _).widen rfl)
  refine Frame.trans ?_ ((frame_present _ _).widen rfl)
  refine Frame.trans ?_ ((frame_present _ _).widen rfl)
  refine Frame.trans ?_ ((frame_present _ _).widen rfl)
  refine Frame.trans ?_ ((frame_restartRefresh _).widen rfl)
  exact (frame_timers _ _ _ _).widen rfl

/-- The frame of every command: it writes the parts `Part.written` lists for it at most. -/
theorem frame_outcome (c : Instr) (s : State) : Frame (Part.written c) s (outcome c s) := by
  cases c with
  | powerOnReset a r => exact (frame_resetWith a r false .lost s).1
  | warmReset a r => exact (frame_resetWith a r true s.retained s).2 rfl
  | configurationReadEnd a =>
    dsimp only [outcome, exec, execConfigurationReadEnd]
    refine Frame.guard ?_
    split
    · exact frame_enterConfigFault _ _ a s
    · exact frame_enterJoining _ _ _ a s
  | settlingStart =>
    exact Frame.guard (((frame_phase s .settling).widen rfl).trans ((frame_settling _).widen rfl))
  | runningEntry =>
    refine Frame.guard ?_
    refine Frame.trans ?_ ((frame_judgeQuiet _).widen rfl)
    refine Frame.trans ?_ ((frame_evaluateGates _).widen rfl)
    refine Frame.trans ?_ ((frame_evaluateSigns _).widen rfl)
    refine Frame.trans ?_ ((frame_bringForward _).widen rfl)
    refine Frame.trans ?_ ((frame_autocloseTest _).widen rfl)
    refine Frame.trans ?_ ((frame_restartWalker _).widen rfl)
    exact ((frame_phase s .running).widen rfl).trans ((frame_raiseSerial _).widen rfl)
  | pulseEdge ch r => exact frame_pulseEdge ch r s
  | senseLineChange ch h => exact frame_senseLineChange ch h s
  | widthOverrange ch => exact Frame.guard (frame_widthSample ch none s)
  | silenceTimerExpiry ch => exact Frame.guard (frame_silentSample ch s)
  | rateWindowEnd ch => exact Frame.guard (frame_endWindow ch s)
  | minuteClose =>
    refine Frame.guard ?_
    refine Frame.trans ?_ ((frame_evaluateSigns _).widen rfl)
    exact ((frame_forChannels frame_closeMinute s).widen rfl).trans ((frame_withClock _ _).widen rfl)
  | hourClose => exact Frame.guard (((frame_insertHour s).widen rfl).trans ((frame_evaluateHazard true _).widen rfl))
  | slideContactChange b => exact frame_slideContactChange b s
  | slideConfirmationExpiry => exact Frame.guard (((frame_slide s _).widen rfl).trans ((frame_deliverSlide _).widen rfl))
  | rearmTimerExpiry => exact Frame.guard (frame_slide s _)
  | operatorFloorExpiry =>
    exact Frame.guard (((frame_floor s 0 s.hazard.floorRemaining).widen rfl).trans
      (((frame_recomputeEffective _).widen rfl).trans ((frame_autocloseTest _).widen rfl)))
  | overrideHoldExpiry => exact Frame.guard (((frame_hold s none).widen rfl).trans ((frame_autocloseTest _).widen rfl))
  | receiverIdleReached =>
    refine Frame.guard ?_
    intro p hp
    cases p <;> simp_all [Part.agree, Part.written]
  | characterReceived c b => exact frame_characterReceived c b s
  | frameDiscarded => exact frame_frameDiscarded s
  | announceReceived h b => exact frame_receiveFrame (fun t => Frame.refl _ t) (fun _ hp => hp) h _ s
  | statusReceived h b => exact frame_receiveFrame (fun t => Frame.refl _ t) (fun _ hp => hp) h _ s
  | closureReceived h b =>
    exact frame_receiveFrame (ps := [.hold] ++ Part.ofFrame ++ Part.ofRecords)
      (fun t => (frame_serveClosure false h.source b t).widen rfl) (by decide) h _ s
  | alertReceived h b =>
    exact frame_receiveFrame (ps := [.hold] ++ Part.ofFrame ++ Part.ofRecords)
      (fun t => (frame_serveClosure true h.source b t).widen rfl) (by decide) h _ s
  | floorReceived h b => exact frame_receiveFrame (fun t => frame_serveFloor h.source b t) (by decide) h _ s
  | queryReceived h a => exact frame_receiveFrame (fun t => frame_serveQuery h.source a t) (fun _ hp => hp) h _ s
  | recapReceived h a => exact frame_receiveFrame (fun t => frame_serveRecap h.source a t) (by decide) h _ s
  | attemptStart => exact frame_attemptStart s
  | attemptSuccess => exact frame_attemptSuccess s
  | attemptFailed => exact frame_attemptFailed s
  | peerLate a =>
    dsimp only [outcome, exec, execPeerLate]
    split
    · exact Frame.guard (frame_setPresence _ _ s)
    · exact Frame.refl _ s
  | peerSilent a =>
    dsimp only [outcome, exec, execPeerSilent]
    split
    · exact Frame.guard (frame_setPresence _ _ s)
    · exact Frame.refl _ s
  | recapTimerExpiry a =>
    dsimp only [outcome, exec, execRecapTimerExpiry]
    split
    · exact Frame.guard (((frame_storePeer _ s).widen rfl).trans ((frame_present _ _).widen rfl))
    · exact Frame.refl _ s
  | statusTimerExpiry =>
    dsimp only [outcome, exec, execStatusTimerExpiry]
    split
    · refine Frame.guard (Frame.trans ?_ ((frame_present _ _).widen rfl))
      intro p hp
      cases p <;> simp_all [Part.agree, Part.written]
    · exact Frame.refl _ s
  | announceTimerExpiry =>
    dsimp only [outcome, exec, execAnnounceTimerExpiry]
    split
    · exact Frame.guard (((frame_announceTimer s _).widen rfl).trans ((frame_present _ _).widen rfl))
    · exact Frame.refl _ s
  | leadExpiry i =>
    dsimp only [outcome, exec, execLeadExpiry]
    split
    · exact Frame.guard (((frame_queueOwn _ s).widen rfl).trans (frame_storeRecord _ _ _))
    · exact Frame.refl _ s
  | durationExpiry i =>
    have hlift : ∀ a b t, Frame Part.ofRecords t (tellHazard false a b t) := by
      intro a b t
      unfold tellHazard
      exact Frame.guard (frame_autocloseTest t)
    dsimp only [outcome, exec, execDurationExpiry]
    split
    · exact Frame.guard (((frame_queueOwn _ s).widen rfl).trans
        (((frame_storeRecord _ _ _).widen rfl).trans (hlift _ _ _)))
    · exact Frame.refl _ s
  | liftedDisplayExpiry i =>
    dsimp only [outcome, exec, execLiftedDisplayExpiry]
    split
    · exact Frame.guard (frame_removeRecord i _ s)
    · exact Frame.refl _ s
  | recordStale i =>
    dsimp only [outcome, exec, execRecordStale]
    split
    · exact Frame.guard (frame_storeRecord i _ s)
    · exact Frame.refl _ s
  | walkerStep => exact Frame.guard (frame_walkerAdvance s)
  | refreshTimerExpiry n => exact Frame.guard (frame_refreshSign n s)
  | pageSetSent =>
    dsimp only [outcome, exec, execPageSetSent]
    split
    · exact Frame.guard (frame_linkFields s _ s.link.held _)
    · exact Frame.refl _ s
  | ackReceived a ck => exact frame_ackReceived a ck s
  | nakUnknownTemplate a p => exact frame_nakUnknownTemplate a p s
  | nakBadFormat a p =>
    dsimp only [outcome, exec, execNakBadFormat]
    split
    · exact frame_failTransfer _ s
    · exact Frame.refl _ s
  | replyTimeout =>
    dsimp only [outcome, exec, execReplyTimeout]
    split
    · exact Frame.guard (frame_failTransfer _ s)
    · exact Frame.refl _ s
  | xoffReceived => exact Frame.guard (frame_linkFields s _ true s.link.transfer)
  | xonReceived => exact Frame.guard (frame_linkFields s _ false s.link.transfer)
  | pauseLimit =>
    dsimp only [outcome, exec, execPauseLimit]
    split
    · exact Frame.guard (frame_failTransfer _ s)
    · exact Frame.refl _ s
  | probeDue n => exact frame_probeDue n s
  | limitInputChange g l a => exact frame_limitInputChange g l a s
  | gateLeadElapsed g => exact Frame.guard (frame_beginTravel true g .closed s)
  | dwellEnd g => exact Frame.guard (frame_resumeTravel g s)
  | travelStall g => exact Frame.guard (Frame.ite (frame_putGate g _ s) (frame_putGate g _ s))
  | stallRetry g => exact Frame.guard (frame_resumeTravel g s)
  | keyToLocal => exact frame_keyToLocal s
  | keyToRemote => exact frame_keyToRemote s
  | closeButtonPress => exact Frame.guard (frame_setLocalDemand .closed s)
  | openButtonPress b => exact Frame.guard (frame_setLocalDemand .opened s)
  | quietEntry => exact Frame.guard (Frame.ite (frame_enterQuiet s) (frame_judgeQuiet s))

theorem pending_not_written (c : Instr) : Part.pending ∉ Part.written c := by
  cases c <;> simp [Part.written, Part.ofSample, Part.ofQuiet, Part.ofRecords, Part.ofGates, Part.ofHazard, Part.ofFrame,
    Part.ofFrameEnd, Part.ofPresent, Part.ofSigns, Part.ofTransfer]

/-- Settles O3: no command stops, and each is framed by the shared operations it is made of. -/
theorem everyCommandCompletesWithinItsParts : Obligations.EveryCommandCompletesWithinItsParts :=
  fun c s => ⟨pending_not_written c, completes_iff.mpr (frame_outcome c s)⟩

/-- Settles O1: the front command is the one `step` matches on. -/
theorem stepRunsTheFrontCommand : Obligations.StepRunsTheFrontCommand := by
  intro s c rest h
  unfold step
  rw [h]

end Sys2Proof.Machine
end

section
/-! PROOF. What the shared operations can do to the state, said once: each is a chain of the turns below, and a law that every turn
keeps is kept by every command made of them. A turn is parametrised by the parts it may write freely beside `Part.plain`, which no
law of the queue, the register, the signs, the sign link and the transmitter looks at. -/

namespace Sys2Proof.Machine

open Sys2Proof

/-! ## Laws and the parts they look at -/

/-- A law that looks at the parts `ps` alone. -/
def Supports (ps : List Part) (law : State → Prop) : Prop := ∀ s t, (∀ p ∈ ps, p.agree s t) → law s → law t

/-- Whether no part of one list is in another, as a computation. -/
def Part.apart (ps qs : List Part) : Bool := ps.all (fun p => !qs.any (fun q => Nat.beq p.ctorIdx q.ctorIdx))

theorem Part.not_mem_of_apart {ps qs : List Part} (h : Part.apart ps qs = true) {p : Part} (hp : p ∈ ps) : p ∉ qs := by
  intro hq
  have h1 := List.all_eq_true.mp h p hp
  rw [Bool.not_eq_true', ← Bool.not_eq_true] at h1
  exact h1 (List.any_eq_true.mpr ⟨p, hq, Nat.beq_refl _⟩)

/-- A law is kept by whatever leaves the parts it looks at alone. -/
theorem Supports.keep {ps qs : List Part} {law : State → Prop} (h : Supports ps law) {s t : State} (hf : Frame qs s t)
    (hd : Part.apart ps qs = true) : law s → law t :=
  h s t fun p hp => hf p (Part.not_mem_of_apart hd hp)

theorem Supports.and {ps qs : List Part} {P Q : State → Prop} (hP : Supports ps P) (hQ : Supports qs Q) :
    Supports (ps ++ qs) (fun s => P s ∧ Q s) := fun s t h hpq =>
  ⟨hP s t (fun p hp => h p (List.mem_append_left _ hp)) hpq.1, hQ s t (fun p hp => h p (List.mem_append_right _ hp)) hpq.2⟩

theorem frame_withPending (s : State) (x : List Instr) : Frame [.pending] s (s.withPending x) := by
  intro p hp
  cases p <;> simp_all [Part.agree]

/-- A law kept by every command, by the passage of a tick and by any change of the waiting commands is kept by every step. -/
theorem keptByEveryStep_of {law : State → Prop} (hpending : ∀ s x, law s → law (s.withPending x))
    (hcommand : ∀ c s, law s → law (outcome c s)) (htick : ∀ s, law s → law (advance s)) : KeptByEveryStep law := by
  intro s t hs ht
  unfold step at ht
  split at ht
  · next c rest _ =>
    rw [← outcome_of_exec ht]
    exact hcommand c _ (hpending s rest hs)
  · cases ht
    unfold idle
    split
    · exact htick s hs
    · exact hpending s _ hs

/-! ## The turns -/

/-- The parts that no law proved by turns looks at. -/
def Part.plain : List Part :=
  [.pending, .pins, .clock, .channels, .slide, .ring, .histories, .ownSerial, .retainedMarks, .partialPending, .computation,
   .floor, .neighbours, .effective, .liftCounter, .hold, .receiver, .peerEntries, .statusTimer, .announceTimer, .walker,
   .registerFull, .slidePending, .replyPair]

/-- R68, R110: a CLOSURE or ALERT that is presented is of a record held, an ALERT of an own one. -/
def Sendable (e : Bulletin) (s : State) : Prop :=
  ∀ id, e = .closure id ∨ e = .alert id →
    ∃ i r, s.recordAt i = some r ∧ r.id = id ∧ (e = .alert id → r.own = true)

/-- R109: what no change of a held record touches, and an own record never becomes. -/
def Amends (a b : ClosureRecord) : Prop :=
  b.id = a.id ∧ b.own = a.own ∧ (a.own = true → a.stale = false ∧ a.age = 0 → b.stale = false ∧ b.age = 0)

/-- A page set is handed to a sign (R134, R150), before the arbiter chooses. -/
def offer (n : Sign) (ps : PageSet) (s : State) : State :=
  let s1 := s.setSign n { s.signs.get n with offered := some ps, refresh := s.refreshStart n }
  s1.setSignLink n { s1.link.signs.get n with waiting := some ps }

theorem handPageSet_eq (n : Sign) (ps : PageSet) (s : State) : handPageSet n ps s = arbitrate (offer n ps s) := rfl

/-- A record leaves the register with its queued bulletins and its displayed-since entries (R68, R107, R138). -/
def removeEntries (i : Nat) (r : ClosureRecord) (s : State) : State :=
  dropDisplayed r.id (dropEntries r.id (s.setSlot i none))

theorem vacate_eq {i : Nat} {r : ClosureRecord} {s : State} (h : s.recordAt i = some r) :
    vacate i s = reportRecords (removeEntries i r s) := by
  unfold vacate
  rw [h]
  rfl

/-- One turn of a shared operation, which may write `Part.plain` and `ps` freely, and the other parts only so. -/
inductive Turn (ps : List Part) : State → State → Prop
  | aside {s t : State} (h : Frame (Part.plain ++ ps) s t) : Turn ps s t
  | present {e : Bulletin} {s : State} (h : Sendable e s) : Turn ps s (present e s)
  | follow (s : State) : Turn ps s (followQueue s)
  | endFrame (s : State) : Turn ps s (endFrame s)
  | conflict (s : State) : Turn ps s (s.withLine { s.line with addressConflict := true })
  | remove {i : Nat} {r : ClosureRecord} {s : State} (h : s.recordAt i = some r) : Turn ps s (removeEntries i r s)
  | place {i : Nat} {r : ClosureRecord} {s : State} (hfree : s.register.slots[i]? = some none)
      (hfresh : s.register.slots.length ≤ 16 → ∀ j q, s.recordAt j = some q → q.id ≠ r.id)
      (hown : r.own = true ↔ r.id.origin = s.startup.address) (hnew : r.stale = false ∧ r.age = 0) :
      Turn ps s (s.setSlot i (some r))
  | amend {i : Nat} {a b : ClosureRecord} {s : State} (h : s.recordAt i = some a) (hab : Amends a b) :
      Turn ps s (s.setSlot i (some b))
  | rebuild (n : Sign) (s : State) : Turn ps s (rebuildSign n s)
  | offer {n : Sign} {x : PageSet} {s : State} (hrole : (s.signs.get n).role ≠ .notFitted)
      (hdark : s.startup.quiet = true → x = .blank) : Turn ps s (offer n x s)
  | transfer {n : Sign} {p : Bool} {x : PageSet} {s : State} (hidle : s.link.state = .idle)
      (h : s.eligible n = some (p, x)) : Turn ps s (beginTransfer s n p x)
  | refresh {x : Option Nat} (n : Sign) {s : State} (hdark : s.startup.quiet = true → x = none) :
      Turn ps s (s.setSign n { s.signs.get n with refresh := x })
  | acknowledge {n : Sign} {x : PageSet} {s : State} (h : s.health n = .ok) : Turn ps s (acknowledge n x s)
  | forget (n : Sign) (s : State) : Turn ps s (forgetDisplayed n s)
  | refuse (n : Sign) (x : List Byte) (s : State) : Turn ps s (s.setSign n { s.signs.get n with refused := x })
  | quiet {b : Bool} (e : Option Nat) {s : State} (h : b = true → s.startup.quiet = true) :
      Turn ps s (s.withStartup { s.startup with quiet := b, entryTimer := e })
  | gate {g : Gate} {u : GateUnit} {s : State}
      (h : u.state = .opening → s.phase = .running ∨ (s.gates.units.get g).state = .opening) : Turn ps s (s.setGate g u)

/-- A chain of turns. -/
def Turns (ps : List Part) : State → State → Prop := Relation.ReflTransGen (Turn ps)

variable {ps qs : List Part} {s t u : State}

theorem Turns.refl (s : State) : Turns ps s s := Relation.ReflTransGen.refl

theorem Turns.trans (h : Turns ps s t) (k : Turns ps t u) : Turns ps s u := Relation.ReflTransGen.trans h k

theorem Turn.turns (h : Turn ps s t) : Turns ps s t := Relation.ReflTransGen.single h

theorem Turn.mono (hpq : ∀ p ∈ ps, p ∈ qs) (h : Turn ps s t) : Turn qs s t := by
  cases h with
  | aside h =>
    refine .aside (h.mono fun p hp => ?_)
    rcases List.mem_append.mp hp with hp | hp
    · exact List.mem_append_left _ hp
    · exact List.mem_append_right _ (hpq p hp)
  | present h => exact .present h
  | follow => exact .follow _
  | endFrame => exact .endFrame _
  | conflict => exact .conflict _
  | remove h => exact .remove h
  | place h1 h2 h3 h4 => exact .place h1 h2 h3 h4
  | amend h1 h2 => exact .amend h1 h2
  | rebuild n => exact .rebuild n _
  | offer h1 h2 => exact .offer h1 h2
  | transfer h1 h2 => exact .transfer h1 h2
  | refresh n h => exact .refresh n h
  | acknowledge h => exact .acknowledge h
  | forget n => exact .forget n _
  | refuse n x => exact .refuse n x _
  | quiet e h => exact .quiet e h
  | gate h => exact .gate h

theorem Turns.mono (h : Turns ps s t) (hpq : ∀ p ∈ ps, p ∈ qs) : Turns qs s t :=
  Relation.ReflTransGen.mono (fun _ _ => Turn.mono hpq) _ _ h

/-- Turns that may write no further part are turns for any list. -/
theorem Turns.any (h : Turns [] s t) : Turns ps s t := h.mono (by simp)

/-- What a frame leaves writable is written aside. -/
theorem Turns.aside (h : Frame qs s t) (hq : Part.within qs (Part.plain ++ ps) = true) : Turns ps s t :=
  Turn.turns (.aside (h.widen hq))

theorem Turns.ite {a b : State} {p : Prop} [Decidable p] (ha : Turns ps s a) (hb : Turns ps s b) :
    Turns ps s (if p then a else b) := by
  split
  · exact ha
  · exact hb

theorem Turns.guard {a : State} {p : Prop} [Decidable p] (ha : p → Turns ps s a) : Turns ps s (if p then a else s) := by
  split
  · next h => exact ha h
  · exact .refl s

/-- A law that every turn keeps is kept by a chain of them. -/
theorem Turns.keep {law : State → Prop} (hk : ∀ s t, Turn ps s t → law s → law t) (h : Turns ps s t) : law s → law t := by
  intro hs
  induction h with
  | refl => exact hs
  | tail _ h ih => exact hk _ _ h ih

end Sys2Proof.Machine
end

section
/-! PROOF. The shared operations of the line unit, the selector, QUIET, the gate controller, the register, the hazard unit and the
peer table as chains of turns. -/

namespace Sys2Proof.Machine

open Sys2Proof

variable {ps : List Part}

/-! ## The line unit -/

theorem sendable_status (s : State) : Sendable .status s := fun id h => by simp at h

theorem sendable_announce (s : State) : Sendable .announce s := fun id h => by simp at h

theorem sendable_recap (a : Byte) (s : State) : Sendable (.recap a) s := fun id h => by simp at h

theorem sendable_closure {s : State} {i : Nat} {r : ClosureRecord} (h : s.recordAt i = some r) :
    Sendable (.closure r.id) s := by
  intro id hid
  obtain rfl : r.id = id := by simpa using hid
  exact ⟨i, r, h, rfl, by simp⟩

theorem sendable_alert {s : State} {i : Nat} {r : ClosureRecord} (h : s.recordAt i = some r) (ho : r.own = true) :
    Sendable (.alert r.id) s := by
  intro id hid
  obtain rfl : r.id = id := by simpa using hid
  exact ⟨i, r, h, rfl, fun _ => ho⟩

theorem turns_present {e : Bulletin} {s : State} (h : Sendable e s) : Turns ps s (present e s) := (Turn.present h).turns

theorem turns_status (s : State) : Turns ps s (present .status s) := turns_present (sendable_status s)

theorem turns_announce (s : State) : Turns ps s (present .announce s) := turns_present (sendable_announce s)

theorem turns_addressConflict (s : State) : Turns ps s (addressConflict s) := by
  have hset : Turns ps s (s.withLine { s.line with addressConflict := true }) := (Turn.conflict s).turns
  unfold addressConflict
  refine Turns.ite (.refl s) (Turns.ite (Turns.ite hset ?_) ?_)
  · exact hset.trans (turns_announce _)
  · exact hset.trans (turns_status _)

/-! ## The selector and the arbiter -/

theorem bestSign_eligible {s : State} {n : Sign} {p : Bool} {x : PageSet} :
    ∀ {l : List Sign}, bestSign s l = some (n, p, x) → s.eligible n = some (p, x)
  | [], h => by cases h
  | m :: rest, h => by
    unfold bestSign at h
    split at h
    · exact bestSign_eligible h
    · next he _ => cases h; exact he
    · next he hb =>
      split at h
      · cases h; exact bestSign_eligible hb
      · cases h; exact he

theorem turns_arbitrate (s : State) : Turns ps s (arbitrate s) := by
  unfold arbitrate
  refine Turns.guard fun hg => ?_
  split
  · next hb =>
    exact (Turn.transfer (of_decide_eq_true (Bool.and_eq_true_iff.mp hg).2) (bestSign_eligible hb)).turns
  · exact .refl s

theorem turns_handPageSet {n : Sign} {x : PageSet} {s : State} (hrole : (s.signs.get n).role ≠ .notFitted)
    (hdark : s.startup.quiet = true → x = .blank) : Turns ps s (handPageSet n x s) :=
  (Turn.offer hrole hdark).turns.trans (turns_arbitrate _)

theorem buildPageSet_of_quiet {s : State} (h : s.startup.quiet = true) (n : Sign) : s.buildPageSet n = .blank := by
  simp [State.buildPageSet, h]

theorem refreshStart_of_quiet {s : State} (h : s.startup.quiet = true) (n : Sign) : s.refreshStart n = none := by
  simp [State.refreshStart, h]

theorem rebuildSign_role (n : Sign) (s : State) : ((rebuildSign n s).signs.get n).role = (s.signs.get n).role := by
  simp [rebuildSign]

theorem turns_rebuild_hand {n : Sign} {s : State} (hrole : (s.signs.get n).role ≠ .notFitted) :
    Turns ps s (handPageSet n (s.buildPageSet n) (rebuildSign n s)) :=
  (Turn.rebuild n s).turns.trans
    (turns_handPageSet (by rwa [rebuildSign_role]) fun hq => buildPageSet_of_quiet (s := s) hq n)

theorem turns_evaluateSign (n : Sign) (s : State) : Turns ps s (evaluateSign n s) := by
  unfold evaluateSign
  refine Turns.guard fun hg => Turns.ite ?_ (Turn.rebuild n s).turns
  exact turns_rebuild_hand (of_decide_eq_true (Bool.and_eq_true_iff.mp hg).2)

theorem turns_refreshSign (n : Sign) (s : State) : Turns ps s (refreshSign n s) := by
  unfold refreshSign
  refine Turns.guard fun hg => Turns.ite ?_ ((Turn.rebuild n s).turns.trans ?_)
  · exact turns_rebuild_hand (of_decide_eq_true (Bool.and_eq_true_iff.mp hg).2)
  · exact (Turn.refresh n fun hq => refreshStart_of_quiet hq n).turns

theorem turns_forSigns {f : Sign → State → State} (h : ∀ n s, Turns ps s (f n s)) (s : State) :
    Turns ps s (forSigns f s) := (h .s1 s).trans ((h .s2 _).trans (h .s3 _))

theorem turns_forGates {f : Gate → State → State} (h : ∀ g s, Turns ps s (f g s)) (s : State) :
    Turns ps s (forGates f s) := (h .e s).trans (h .w _)

theorem turns_forChannels {f : Chan → State → State} (h : ∀ c s, Turns ps s (f c s)) (s : State) :
    Turns ps s (forChannels f s) := (h .c1 s).trans ((h .c2 _).trans ((h .c3 _).trans (h .c4 _)))

theorem turns_foldl {α : Type} {f : State → α → State} (h : ∀ s a, Turns ps s (f s a)) :
    ∀ (as : List α) (s : State), Turns ps s (as.foldl f s)
  | [], s => .refl s
  | a :: as, s => (h s a).trans (turns_foldl h as (f s a))

theorem turns_forIndices {f : Nat → State → State} (h : ∀ i s, Turns ps s (f i s)) (s : State) :
    Turns ps s (forIndices f s) := turns_foldl (fun s i => h i s) _ s

theorem turns_evaluateSigns (s : State) : Turns ps s (evaluateSigns s) := turns_forSigns turns_evaluateSign s

/-! ## QUIET -/

theorem turns_restartRefresh (s : State) : Turns ps s (restartRefresh s) :=
  turns_forSigns (fun n s => Turns.ite (.refl s) (Turn.refresh n fun hq => refreshStart_of_quiet hq n).turns) s

theorem turns_leaveQuiet (s : State) : Turns ps s (leaveQuiet s) :=
  (Turn.quiet none (by simp)).turns.trans
    ((turns_status _).trans ((turns_restartRefresh _).trans (turns_evaluateSigns _)))

theorem turns_entryTimer (e : Option Nat) (s : State) :
    Turns ps s (s.withStartup { s.startup with entryTimer := e }) :=
  (Turn.quiet (b := s.startup.quiet) e id).turns

theorem turns_judgeQuiet (s : State) : Turns ps s (judgeQuiet s) := by
  unfold judgeQuiet
  refine Turns.guard fun _ => Turns.ite (Turns.ite (.refl s) (turns_leaveQuiet s)) (Turns.ite ?_ (turns_entryTimer none s))
  split
  · exact .refl s
  · exact turns_entryTimer _ s

/-- R136, R175: the entry to QUIET writes QUIET itself aside. -/
theorem turns_enterQuiet (s : State) : Turns [.quiet] s (enterQuiet s) :=
  (Turns.aside (frame_quiet s true none) rfl).trans ((turns_status _).trans (turns_forSigns turns_refreshSign _))

theorem turns_reportAlert (s : State) : Turns ps s (reportAlert s) :=
  (turns_status s).trans ((turns_evaluateSigns _).trans (turns_judgeQuiet _))

/-! ## The gates -/

@[simp] theorem GateUnit.rest_state (u : GateUnit) (st : GateState) : (u.rest st).state = st := rfl
@[simp] theorem GateUnit.rest_demand (u : GateUnit) (st : GateState) : (u.rest st).demand = u.demand := rfl
@[simp] theorem GateUnit.rest_demanding (u : GateUnit) (st : GateState) : (u.rest st).demanding = u.demanding := rfl
@[simp] theorem GateUnit.rest_pendingEntry (u : GateUnit) (st : GateState) : (u.rest st).pendingEntry = u.pendingEntry := rfl
@[simp] theorem GateUnit.rest_travel (u : GateUnit) (st : GateState) : (u.rest st).travel = none := rfl
@[simp] theorem GateUnit.rest_dwell (u : GateUnit) (st : GateState) : (u.rest st).dwell = none := rfl
@[simp] theorem GateUnit.rest_stallWait (u : GateUnit) (st : GateState) : (u.rest st).stallWait = none := rfl
@[simp] theorem GateUnit.rest_fullTravel (u : GateUnit) (st : GateState) : (u.rest st).fullTravel = false := rfl
@[simp] theorem GateUnit.rest_stalls (u : GateUnit) (st : GateState) : (u.rest st).stalls = u.stalls := rfl
@[simp] theorem GateUnit.rest_slow (u : GateUnit) (st : GateState) : (u.rest st).slow = u.slow := rfl

/-- What a gate may be brought to: to OPENING in RUNNING alone, or from OPENING. -/
def GateUnit.MayBecome (s : State) (g : Gate) (st : GateState) : Prop :=
  st = .opening → s.phase = .running ∨ (s.gates.units.get g).state = .opening

theorem mayBecome_of_ne {s : State} {g : Gate} {st : GateState} (h : st ≠ .opening) : GateUnit.MayBecome s g st :=
  fun e => absurd e h

theorem limitsShow_ne_opening (s : State) (g : Gate) : s.limitsShow g ≠ .opening := by
  unfold State.limitsShow limitsState
  split <;> decide

theorem turns_putGate {g : Gate} {u : GateUnit} {s : State} (h : GateUnit.MayBecome s g u.state) :
    Turns ps s (putGate g u s) := by
  have hset : Turns ps s (s.setGate g u) := (Turn.gate h).turns
  unfold putGate
  dsimp only
  split <;> split
  · exact hset.trans ((turns_status _).trans (turns_judgeQuiet _))
  · exact hset.trans (turns_judgeQuiet _)
  · exact hset.trans (turns_status _)
  · exact hset

theorem turns_beginTravel {fresh : Bool} {g : Gate} {d : Demand} {s : State}
    (h : d = .opened → s.phase = .running ∨ s.targetActive g d = true) : Turns ps s (beginTravel fresh g d s) := by
  unfold beginTravel
  dsimp only
  split
  · exact turns_putGate (mayBecome_of_ne (by cases d <;> simp [Demand.atRest]))
  · next hn =>
    refine turns_putGate fun hst => ?_
    cases d with
    | closed => simp [Demand.moving] at hst
    | opened => exact .inl ((h rfl).resolve_right hn)

theorem running_of_mayTravel {s : State} (h : s.mayTravel .opened = true) : s.phase = .running := by
  simpa [State.mayTravel] using h

theorem turns_recordTravel (g : Gate) (d : Demand) (n : Nat) (s : State) : Turns ps s (recordTravel g d n s) :=
  Turns.aside (frame_recordTravel g d n s) rfl

theorem turns_completeTravel (g : Gate) (d : Demand) (s : State) : Turns ps s (completeTravel g d s) := by
  have hrest : ∀ t : State, ∀ u : GateUnit, u.state = d.atRest → Turns ps t (putGate g u t) := fun t u hu =>
    turns_putGate (mayBecome_of_ne (by rw [hu]; cases d <;> simp [Demand.atRest]))
  unfold completeTravel
  exact Turns.ite ((turns_recordTravel g d _ s).trans (hrest _ _ rfl)) (hrest _ _ rfl)

theorem turns_reverse (g : Gate) (s : State) : Turns ps s (reverse g s) :=
  turns_putGate (mayBecome_of_ne (by simp))

theorem turns_rest_limits (g : Gate) (s : State) (n : Nat) :
    Turns ps s (putGate g { (s.gates.units.get g).rest (s.limitsShow g) with stalls := n } s) :=
  turns_putGate (mayBecome_of_ne (limitsShow_ne_opening s g))

theorem turns_resumeTravel (g : Gate) (s : State) : Turns ps s (resumeTravel g s) := by
  have hshow : Turns ps s (putGate g ((s.gates.units.get g).rest (s.limitsShow g)) s) :=
    turns_rest_limits g s (s.gates.units.get g).stalls
  unfold resumeTravel
  dsimp only
  split
  · split
    · next hd =>
      refine turns_beginTravel fun e => ?_
      subst e
      exact (Bool.or_eq_true_iff.mp hd).symm.imp running_of_mayTravel id
    · exact hshow
  · exact hshow

theorem turns_enterClosePending (g : Gate) (s : State) : Turns ps s (enterClosePending g s) := by
  have hput : Turns ps s (putGate g { (s.gates.units.get g).rest .closePending with pendingEntry := some s.now } s) :=
    turns_putGate (mayBecome_of_ne (by simp))
  exact Turns.ite (hput.trans (turns_beginTravel (by simp))) hput

/-- The state a gate takes from its open limit when CLOSE-PENDING ends is none of travel. -/
theorem turns_rest_open (g : Gate) (s : State) (b : Bool) :
    Turns ps s (putGate g ((s.gates.units.get g).rest (if b then .opened else .unpositioned)) s) :=
  turns_putGate (mayBecome_of_ne (by cases b <;> simp))

theorem turns_actOnDemand (g : Gate) (s : State) : Turns ps s (actOnDemand g s) := by
  have hclose : Turns ps s (beginTravel true g .closed s) := turns_beginTravel (by simp)
  have hopen : Turns ps s (if s.mayTravel .opened then beginTravel true g .opened s else s) :=
    Turns.guard fun hm => turns_beginTravel fun _ => .inl (running_of_mayTravel hm)
  unfold actOnDemand
  dsimp only
  split
  · exact .refl s
  · split
    · exact Turns.ite hclose (turns_enterClosePending g s)
    · exact Turns.ite hclose (turns_enterClosePending g s)
    · exact Turns.guard fun _ => hclose
    · exact turns_reverse g s
    · exact .refl s
  · split
    · exact hopen
    · exact hopen
    · exact turns_rest_open g s _
    · exact turns_reverse g s
    · exact .refl s

/-- A change of a gate that leaves its state alone. -/
theorem turns_setGate_same {g : Gate} {u : GateUnit} {s : State} (h : u.state = (s.gates.units.get g).state) :
    Turns ps s (s.setGate g u) := (Turn.gate fun e => .inr (h ▸ e)).turns

theorem turns_evaluateGate (g : Gate) (s : State) : Turns ps s (evaluateGate g s) :=
  Turns.guard fun _ => (turns_setGate_same (by rfl)).trans (turns_actOnDemand g _)

theorem turns_evaluateGates (s : State) : Turns ps s (evaluateGates s) := turns_forGates turns_evaluateGate s

theorem turns_signReport (n : Sign) (s : State) : Turns ps s (signReport n s) :=
  Turns.guard fun _ => turns_evaluateGates s

theorem turns_gainLimit (g : Gate) (l : Limit) (s : State) :
    Turns ps s (putGate g { (s.gates.units.get g).rest (match l with
      | .openLimit => .opened
      | .closedLimit => .closed) with stalls := 0 } s) :=
  turns_putGate (mayBecome_of_ne (by cases l <;> simp))

theorem turns_limitEvent (g : Gate) (l : Limit) (a : Bool) (s : State) : Turns ps s (limitEvent g l a s) := by
  have hlost : Turns ps s (putGate g ((s.gates.units.get g).rest .unpositioned) s) :=
    turns_putGate (mayBecome_of_ne (by simp))
  unfold limitEvent
  dsimp only
  refine Turns.ite (.refl s) (Turns.ite ?_ ?_)
  · exact turns_putGate (mayBecome_of_ne (by simp))
  · split
    · exact Turns.guard fun _ => turns_completeTravel g _ s
    · exact Turns.guard fun _ => turns_completeTravel g _ s
    · refine Turns.ite (.refl s) ?_
      split
      · next hd =>
        exact turns_beginTravel fun _ => .inl (running_of_mayTravel (Bool.and_eq_true_iff.mp hd).2)
      · exact hlost
    · exact Turns.ite (.refl s) (Turns.ite (turns_beginTravel (by simp)) hlost)
    · exact Turns.guard fun _ => (turns_gainLimit g l s).trans (turns_evaluateGate g _)
    · exact Turns.guard fun _ => (turns_gainLimit g l s).trans (turns_evaluateGate g _)
    · exact Turns.guard fun _ => turns_putGate (mayBecome_of_ne (by simp))
    · exact .refl s
    · exact .refl s

theorem turns_followLimits (g : Gate) (s : State) : Turns ps s (followLimits g s) :=
  Turns.ite (.refl s) (turns_rest_limits g s (s.gates.units.get g).stalls)

theorem turns_stopGate (g : Gate) (s : State) : Turns ps s (stopGate g s) := by
  unfold stopGate
  dsimp only
  split
  · exact turns_rest_limits g s 0
  · exact turns_rest_limits g s 0
  · exact turns_rest_limits g s 0
  · exact turns_rest_limits g s 0
  · exact .refl s

theorem turns_gateToLocal (g : Gate) (s : State) : Turns ps s (gateToLocal g s) :=
  Turns.guard fun _ => Turns.ite (turns_rest_open g s _) (turns_stopGate g s)

theorem turns_gateToRemote (g : Gate) (s : State) : Turns ps s (gateToRemote g s) :=
  Turns.guard fun _ => Turns.ite (turns_rest_limits g s 0) (turns_stopGate g s)

/-! ## The register -/

theorem turns_reportRecords (s : State) : Turns ps s (reportRecords s) :=
  (turns_evaluateSigns s).trans ((turns_evaluateGates _).trans (turns_judgeQuiet _))

theorem turns_setFull (b : Bool) (s : State) : Turns ps s (setFull b s) :=
  Turns.ite (.refl s) ((Turns.aside (frame_full s b) rfl).trans (turns_status _))

theorem turns_vacate (i : Nat) (s : State) : Turns ps s (vacate i s) := by
  cases h : s.recordAt i with
  | none =>
    unfold vacate
    rw [h]
    exact .refl s
  | some r =>
    rw [vacate_eq h]
    exact (Turn.remove h).turns.trans (turns_reportRecords _)

theorem turns_storeRecord {i : Nat} {a b : ClosureRecord} {s : State} (h : s.recordAt i = some a) (hab : Amends a b) :
    Turns ps s (storeRecord i b s) := (Turn.amend h hab).turns.trans (turns_reportRecords _)

theorem settled_id (r : ClosureRecord) : r.settled.id = r.id := by rw [settled_eq]

theorem settled_stale (r : ClosureRecord) : r.settled.stale = r.stale := by rw [settled_eq]

theorem settled_age (r : ClosureRecord) : r.settled.age = r.age := by rw [settled_eq]

/-- R95, R109: a record that may be created: no record held has its id, it is own exactly when its origin is the station's
address, and it is new. -/
def Creatable (r : ClosureRecord) (s : State) : Prop :=
  (s.register.slots.length ≤ 16 → ∀ j q, s.recordAt j = some q → q.id ≠ r.id)
    ∧ (r.own = true ↔ r.id.origin = s.startup.address) ∧ r.stale = false ∧ r.age = 0

theorem turns_storeNew {i : Nat} {r : ClosureRecord} {s : State} (hfree : s.register.slots[i]? = some none)
    (h : Creatable r s) : Turns ps s (storeRecord i r.settled s) := by
  obtain ⟨hfresh, hown, hstale, hage⟩ := h
  refine (Turn.place hfree ?_ ?_ ?_).turns.trans (turns_reportRecords _)
  · rwa [settled_id]
  · rwa [settled_own, settled_id]
  · rw [settled_stale, settled_age]
    exact ⟨hstale, hage⟩

theorem slots_reportRecords (s : State) : (reportRecords s).register.slots = s.register.slots :=
  (frame_reportRecords s).slots_eq (by decide)

theorem slots_removeEntries (i : Nat) (r : ClosureRecord) (s : State) :
    (removeEntries i r s).register.slots = s.register.slots.set i none := by
  unfold removeEntries
  rw [(frame_dropDisplayed r.id _).slots_eq (by decide), (frame_dropEntries r.id _).slots_eq (by decide)]
  rfl

/-- What a removal leaves in the register's places. -/
theorem slots_vacate {i : Nat} {r : ClosureRecord} {s : State} (h : s.recordAt i = some r) :
    (vacate i s).register.slots = s.register.slots.set i none := by
  rw [vacate_eq h, slots_reportRecords, slots_removeEntries]

theorem slots_storeRecord (i : Nat) (r : ClosureRecord) (s : State) :
    (storeRecord i r s).register.slots = s.register.slots.set i (some r) := slots_reportRecords _

/-- A record evicted is one held. -/
theorem evictIndex_held {s : State} {new : ClosureRecord} {i : Nat} (h : s.evictIndex new = some i) :
    ∃ r, s.recordAt i = some r := (evictIndex_not_own h).imp fun _ h => h.1

theorem creatable_vacate {i : Nat} {a r : ClosureRecord} {s : State} (h : s.recordAt i = some a) (hr : Creatable r s) :
    Creatable r (vacate i s) := by
  obtain ⟨hfresh, hown, hnew⟩ := hr
  refine ⟨fun hl j q hq => ?_, ?_, hnew⟩
  · have hj : j ≠ i := by
      rintro rfl
      unfold State.recordAt at hq
      rw [slots_vacate h, List.getElem?_set_self (lt_length_of_recordAt h)] at hq
      cases hq
    rw [recordAt_vacate_of_ne hj] at hq
    rw [slots_vacate h, List.length_set] at hl
    exact hfresh hl j q hq
  · rwa [((frame_vacate i s).settings_eq (by decide)).2.2]

theorem turns_admitRecord {r : ClosureRecord} {s : State} (h : Creatable r s) : Turns ps s (admitRecord r s).1 := by
  unfold admitRecord
  split
  · next i hi =>
    obtain ⟨-, hfree⟩ := freeIndex_spec hi
    exact turns_storeNew hfree h
  · split
    · next i hi =>
      obtain ⟨a, ha⟩ := evictIndex_held hi
      refine (turns_vacate i s).trans (turns_storeNew ?_ (creatable_vacate ha h))
      rw [slots_vacate ha, List.getElem?_set_self (lt_length_of_recordAt ha)]
    · exact turns_setFull true s

/-- A record that was placed is held. -/
theorem admitRecord_held {r : ClosureRecord} {s t : State} (h : admitRecord r s = (t, true)) :
    ∃ i, t.recordAt i = some r.settled := by
  have hstore : ∀ (i : Nat) (u : State), i < u.register.slots.length →
      (storeRecord i r.settled u).recordAt i = some r.settled := fun i u hl => by
    unfold State.recordAt
    rw [slots_storeRecord, List.getElem?_set_self hl]
    rfl
  unfold admitRecord at h
  split at h
  · next i hi =>
    cases h
    obtain ⟨-, hfree⟩ := freeIndex_spec hi
    exact ⟨i, hstore i s (List.getElem?_eq_some_iff.mp hfree).1⟩
  · split at h
    · next i hi =>
      cases h
      obtain ⟨a, ha⟩ := evictIndex_held hi
      refine ⟨i, hstore i _ ?_⟩
      rw [slots_vacate ha, List.length_set]
      exact lt_length_of_recordAt ha
    · cases h

/-! ### The serial of a new own record (R109) -/

/-- The serials `freeSerial` passes over are held. -/
theorem freeSerial_spec (s : State) : ∀ (n : Nat) (c : Byte),
    ∃ k ≤ n, s.freeSerial c n = c + BitVec.ofNat 8 k
      ∧ (∀ j < k, (s.findRecord (s.ownId (c + BitVec.ofNat 8 j))).isSome = true)
      ∧ (k < n → s.findRecord (s.ownId (c + BitVec.ofNat 8 k)) = none)
  | 0, c => ⟨0, le_refl 0, by simp [State.freeSerial], by simp, by simp⟩
  | n + 1, c => by
    unfold State.freeSerial
    split
    · next hheld =>
      obtain ⟨k, hk, heq, hpass, hstop⟩ := freeSerial_spec s n (c + 1)
      have hshift : ∀ j : Nat, c + 1 + BitVec.ofNat 8 j = c + BitVec.ofNat 8 (j + 1) := fun j => by
        rw [BitVec.add_assoc]
        congr 1
        apply BitVec.eq_of_toNat_eq
        simp [Nat.add_comm]
      refine ⟨k + 1, by omega, by rw [heq, hshift], fun j hj => ?_, fun hlt => ?_⟩
      · cases j with
        | zero => simpa using hheld
        | succ j => rw [← hshift]; exact hpass j (by omega)
      · rw [← hshift]; exact hstop (by omega)
    · next hfree =>
      exact ⟨0, by omega, by simp, by simp, fun _ => by simpa using hfree⟩

theorem findRecord_isSome_iff {s : State} {id : RecId} :
    (s.findRecord id).isSome = true ↔ ∃ i r, s.recordAt i = some r ∧ r.id = id := by
  unfold State.findRecord
  rw [List.find?_isSome]
  constructor
  · rintro ⟨⟨i, r⟩, hmem, hid⟩
    exact ⟨i, r, mem_records.mp hmem, of_decide_eq_true hid⟩
  · rintro ⟨i, r, hr, hid⟩
    exact ⟨(i, r), mem_records.mpr hr, decide_eq_true hid⟩

theorem indexed_length_le : ∀ (i : Nat) (l : List (Option ClosureRecord)), (indexed i l).length ≤ l.length
  | _, [] => le_refl _
  | i, some _ :: rest => Nat.succ_le_succ (indexed_length_le (i + 1) rest)
  | i, none :: rest => (indexed_length_le (i + 1) rest).trans (Nat.le_succ _)

/-- The ids of the serials from a counter value on. -/
def State.idsFrom (s : State) (serial : Byte) (n : Nat) : List RecId :=
  (List.range n).map fun j => s.ownId (serial + BitVec.ofNat 8 j)

theorem idsFrom_nodup (s : State) (serial : Byte) : (s.idsFrom serial 17).Nodup := by
  refine List.Nodup.map_on (fun x hx y hy hxy => ?_) List.nodup_range
  have hser : serial + BitVec.ofNat 8 x = serial + BitVec.ofNat 8 y := congrArg RecId.serial hxy
  have hnat := congrArg BitVec.toNat ((BitVec.add_right_inj _).mp hser)
  rw [List.mem_range] at hx hy
  simp only [BitVec.toNat_ofNat] at hnat
  omega

/-- Sixteen places cannot hold the ids of seventeen serials. -/
theorem exists_not_held {s : State} (hl : s.register.slots.length ≤ 16) (serial : Byte) :
    ¬ ∀ j < 17, (s.findRecord (s.ownId (serial + BitVec.ofNat 8 j))).isSome = true := by
  intro hall
  have hsub : s.idsFrom serial 17 ⊆ s.records.map fun p => p.2.id := fun id hid => by
    obtain ⟨j, hj, rfl⟩ := List.mem_map.mp hid
    obtain ⟨i, r, hr, hrid⟩ := findRecord_isSome_iff.mp (hall j (List.mem_range.mp hj))
    exact List.mem_map.mpr ⟨(i, r), mem_records.mpr hr, hrid⟩
  have hcount : (s.idsFrom serial 17).length ≤ s.records.length := by
    simpa using (List.subperm_of_subset (idsFrom_nodup s serial) hsub).length_le
  have hrecords : s.records.length ≤ s.register.slots.length := indexed_length_le 0 s.register.slots
  have hids : (s.idsFrom serial 17).length = 17 := by simp [State.idsFrom]
  omega

/-- R109: the serial of a new own record is the first from the counter on that no own record holds. -/
theorem nextSerial_spec {s : State} (hl : s.register.slots.length ≤ 16) :
    ∃ k ≤ 16, s.nextSerial = s.retained.ownSerial + BitVec.ofNat 8 k
      ∧ (∀ j < k, (s.findRecord (s.ownId (s.retained.ownSerial + BitVec.ofNat 8 j))).isSome = true)
      ∧ s.findRecord (s.ownId (s.retained.ownSerial + BitVec.ofNat 8 k)) = none := by
  obtain ⟨k, hk, heq, hpass, hstop⟩ := freeSerial_spec s 17 s.retained.ownSerial
  have hlt : k < 17 := by
    by_contra hge
    exact exists_not_held hl s.retained.ownSerial fun j hj => hpass j (by omega)
  exact ⟨k, by omega, heq, hpass, hstop hlt⟩

theorem nextSerial_free {s : State} (hl : s.register.slots.length ≤ 16) :
    s.findRecord (s.ownId s.nextSerial) = none := by
  obtain ⟨k, -, heq, -, hstop⟩ := nextSerial_spec hl
  rw [heq]
  exact hstop

theorem creatable_ownRecord (s : State) (kind : ClosureKind) (half : Nat) (st : ClosureState) (lead : Nat) :
    Creatable (s.ownRecord kind half st lead) s := by
  refine ⟨fun hl j q hq hid => ?_, ⟨fun _ => rfl, fun _ => rfl⟩, rfl, rfl⟩
  have hsome := findRecord_isSome_iff.mpr ⟨j, q, hq, hid⟩
  rw [show (s.ownRecord kind half st lead).id = s.ownId s.nextSerial from rfl, nextSerial_free hl] at hsome
  cases hsome

end Sys2Proof.Machine
end

section
/-! PROOF. The register's, the hazard unit's and the peer table's operations as chains of turns, and each command as one. -/

namespace Sys2Proof.Machine

open Sys2Proof

variable {ps : List Part}

/-! ## The register -/

theorem recordAt_storeRecord_same {s : State} {i : Nat} {a : ClosureRecord} (h : s.recordAt i = some a)
    (b : ClosureRecord) : (storeRecord i b s).recordAt i = some b := by
  rw [storeRecord, recordAt_reportRecords, recordAt_setSlot_of_held h]

theorem turns_queueOwn {r a : ClosureRecord} {s : State} {i : Nat} (h : s.recordAt i = some a) (hid : a.id = r.id) :
    Turns ps s (queueOwn r s) := Turns.guard fun _ => turns_present (hid ▸ sendable_closure h)

theorem turns_takeSerial (v : Byte) (s : State) : Turns ps s (takeSerial v s) := Turns.aside (frame_takeSerial v s) rfl

theorem turns_slidePending (b : Bool) (s : State) :
    Turns ps s (s.withRegister { s.register with slidePending := b }) := Turns.aside (frame_slidePending s b) rfl

theorem standingSlide_spec {s : State} {i : Nat} {r : ClosureRecord} (h : s.standingSlide = some (i, r)) :
    s.recordAt i = some r ∧ r.own = true ∧ r.kind = .slide ∧ r.state ≠ .lifted := by
  have hmem := mem_records.mp (List.mem_of_find?_eq_some h)
  have hp := List.find?_some h
  simp only [Bool.and_eq_true, decide_eq_true_eq] at hp
  exact ⟨hmem, hp⟩

theorem turns_carrySlide (s : State) : Turns ps s (carrySlide s) := by
  unfold carrySlide
  split
  · next i r hs =>
    obtain ⟨hr, ho, -, -⟩ := standingSlide_spec hs
    have hstore := turns_storeRecord (ps := ps) hr
      (b := { r with revision := r.revision + 1, state := .inForce, lead := 0 }) ⟨rfl, rfl, fun _ h => h⟩
    have hsend := sendable_alert
      (recordAt_storeRecord_same hr { r with revision := r.revision + 1, state := .inForce, lead := 0 }) ho
    exact hstore.trans (turns_present hsend)
  · have hadmit := turns_admitRecord (ps := ps) (creatable_ownRecord s .slide s.config.slideHalf .inForce 0)
    dsimp only
    split
    · next t ht =>
      rw [ht] at hadmit
      obtain ⟨i, hi⟩ := admitRecord_held ht
      refine hadmit.trans ((turns_takeSerial _ t).trans (turns_present ?_))
      rw [← settled_id]
      exact sendable_alert (i := i) hi (settled_own _)
    · next t ht =>
      rw [ht] at hadmit
      exact hadmit.trans (turns_slidePending true t)

theorem turns_slideEvent (s : State) : Turns ps s (slideEvent s) := Turns.ite (.refl s) (turns_carrySlide s)

theorem turns_walkerAdvance (s : State) : Turns ps s (walkerAdvance s) := by
  have hset : ∀ t : State, ∀ i f x, Turns ps t (t.withRegister { t.register with
      walkerIndex := i, walkerFast := f, walkerTimer := x }) := fun t i f x => Turns.aside (frame_walker t i f x) rfl
  unfold walkerAdvance
  dsimp only
  refine Turns.trans ?_ (hset _ _ _ _)
  split
  · next h => exact Turns.guard fun _ => turns_present (sendable_closure h)
  · exact .refl s

theorem turns_restartWalker (s : State) : Turns ps s (restartWalker s) :=
  Turns.guard fun _ => (Turns.aside (frame_walker s 0 true s.register.walkerTimer) rfl).trans (turns_walkerAdvance _)

theorem turns_withSlide (x : Slide) (s : State) : Turns ps s (s.withSlide x) := Turns.aside (frame_slide s x) rfl

theorem turns_deliverSlide (s : State) : Turns ps s (deliverSlide s) :=
  Turns.ite (turns_withSlide _ s) (turns_slideEvent s)

theorem turns_deliverDeferred (s : State) : Turns ps s (deliverDeferred s) :=
  Turns.guard fun _ => (turns_withSlide _ s).trans (turns_slideEvent _)

/-! ## The hazard unit -/

theorem turns_recomputeEffective (s : State) : Turns ps s (recomputeEffective s) :=
  Turns.ite (.refl s) ((Turns.aside (frame_effective s _) rfl).trans (turns_reportAlert _))

theorem turns_bringForwardAt (i : Nat) (s : State) : Turns ps s (bringForwardAt i s) := by
  unfold bringForwardAt
  split
  · next r hr =>
    refine Turns.guard fun _ => (turns_queueOwn hr rfl).trans ?_
    exact turns_storeRecord ((recordAt_queueOwn _ s i).trans hr) ⟨rfl, rfl, fun _ h => h⟩
  · exact .refl s

theorem turns_bringForward (s : State) : Turns ps s (bringForward s) :=
  Turns.guard fun _ => turns_forIndices turns_bringForwardAt s

theorem turns_originate (s : State) : Turns ps s (originate s).1 := by
  have hadmit := turns_admitRecord (ps := ps)
    (creatable_ownRecord s .avalanche s.config.segmentHalf .announced s.config.announceLead)
  unfold originate
  dsimp only
  split
  · next t ht =>
    rw [ht] at hadmit
    obtain ⟨i, hi⟩ := admitRecord_held ht
    exact hadmit.trans ((turns_takeSerial _ t).trans (turns_queueOwn (i := i) hi (settled_id _)))
  · next t ht =>
    rw [ht] at hadmit
    exact hadmit

theorem turns_autocloseTest (s : State) : Turns ps s (autocloseTest s) := by
  have horig := turns_originate (ps := ps) s
  refine Turns.guard fun _ => ?_
  split
  · next t ht =>
    rw [ht] at horig
    exact horig.trans (turns_bringForward t)
  · next t ht =>
    rw [ht] at horig
    exact horig

theorem turns_liftAt (i : Nat) (s : State) : Turns ps s (liftAt i s) := by
  unfold liftAt
  split
  · next r hr =>
    refine Turns.guard fun _ => (turns_queueOwn hr rfl).trans (Turns.trans ?_ (turns_autocloseTest _))
    exact turns_storeRecord ((recordAt_queueOwn _ s i).trans hr) ⟨rfl, rfl, fun _ h => h⟩
  · exact .refl s

theorem turns_liftCounter (n : Nat) (s : State) : Turns ps s (s.withHazard { s.hazard with liftCounter := n }) :=
  Turns.aside (frame_liftCounter s n) rfl

theorem turns_countLift (s : State) : Turns ps s (countLift s) :=
  Turns.ite ((turns_liftCounter 0 s).trans (turns_forIndices turns_liftAt _)) (turns_liftCounter _ s)

theorem turns_reportEvaluation (old : Hazard) (s : State) : Turns ps s (reportEvaluation old s) := by
  have h1 : ∀ b : Bool, Turns ps s (if b then present .status s else s) := fun b => Turns.guard fun _ => turns_status s
  unfold reportEvaluation
  exact Turns.ite ((h1 _).trans ((turns_evaluateSigns _).trans (turns_judgeQuiet _))) (h1 _)

theorem turns_evaluateHazard (b : Bool) (s : State) : Turns ps s (evaluateHazard b s) := by
  have h1 : Turns ps s (publish s) := Turns.aside (frame_publish s) rfl
  have h2 : Turns ps s (if b && decide (s.phase = .running) then countLift (publish s) else publish s) :=
    Turns.ite (h1.trans (turns_countLift _)) h1
  unfold evaluateHazard
  exact (Turns.ite (h2.trans ((turns_autocloseTest _).trans (turns_bringForward _))) h2).trans
    (turns_reportEvaluation s.hazard _)

theorem turns_floor (l n : Nat) (s : State) :
    Turns ps s (s.withHazard { s.hazard with floorLevel := l, floorRemaining := n }) :=
  Turns.aside (frame_floor s l n) rfl

theorem turns_hold (x : Option Nat) (s : State) : Turns ps s (s.withHazard { s.hazard with hold := x }) :=
  Turns.aside (frame_hold s x) rfl

theorem turns_recompute_test (s : State) : Turns ps s (autocloseTest (recomputeEffective s)) :=
  (turns_recomputeEffective s).trans (turns_autocloseTest _)

theorem turns_applyFloor (l m : Nat) (s : State) : Turns ps s (applyFloor l m s) := by
  unfold applyFloor
  exact Turns.ite (turns_floor _ _ s) ((turns_floor _ _ s).trans (turns_recompute_test _))

theorem turns_controlLift (s : State) : Turns ps s (controlLift s) :=
  Turns.ite ((turns_hold none s).trans (turns_autocloseTest _)) (turns_hold _ s)

theorem turns_recomputeNeighbours (s : State) : Turns ps s (recomputeNeighbours s) := by
  have h1 : Turns ps s (recomputeEffective (s.withHazard { s.hazard with
      neighbourFloor := s.neighbourFloorNow, neighbourSilent := s.neighbourSilentNow })) :=
    (Turns.aside (frame_neighbours s s.neighbourFloorNow s.neighbourSilentNow) rfl).trans (turns_recomputeEffective _)
  exact Turns.ite h1 (h1.trans (turns_reportAlert _))

/-! ## Closure bulletins -/

theorem turns_tellHazard (c : Bool) (a b : ClosureRecord) (s : State) : Turns ps s (tellHazard c a b s) :=
  Turns.guard fun _ => (Turns.guard fun _ => turns_controlLift s).trans (turns_autocloseTest _)

theorem turns_replaceRecord {i : Nat} {a b : ClosureRecord} {s : State} (c : Bool) (h : s.recordAt i = some a)
    (hab : Amends a b) : Turns ps s (replaceRecord c i a b s) := by
  have hqueue : Turns ps s (if c && carriedChanged a b then queueOwn b s else s) :=
    Turns.guard fun _ => turns_queueOwn h hab.1.symm
  have hheld : (if c && carriedChanged a b then queueOwn b s else s).recordAt i = some a := by
    split
    · exact (recordAt_queueOwn b s i).trans h
    · exact h
  have hset := hqueue.trans (Turn.amend hheld hab).turns
  unfold replaceRecord
  refine Turns.trans ?_ (turns_tellHazard c a b _)
  exact Turns.ite (hset.trans (turns_reportRecords _)) hset

theorem mergeRecord_amends {c : ClosureContent} {r q : ClosureRecord} (h : mergeRecord c r = some q) : Amends r q := by
  simp only [mergeRecord] at h
  split at h
  · cases h
    rw [mergeEqual_eq]
    exact ⟨rfl, rfl, fun _ _ => ⟨rfl, rfl⟩⟩
  · split at h
    · cases h
      rw [mergeNewer_eq]
      exact ⟨rfl, rfl, fun _ _ => ⟨rfl, rfl⟩⟩
    · cases h

theorem creatable_newRecord {s : State} {c : ClosureContent} (h : s.findRecord c.id = none) :
    Creatable (s.newRecord c) s := by
  refine ⟨fun _ j q hq hid => ?_, by simp [State.newRecord], rfl, rfl⟩
  have hsome := findRecord_isSome_iff.mpr ⟨j, q, hq, hid⟩
  rw [show (s.newRecord c).id = c.id from rfl, h] at hsome
  cases hsome

theorem turns_createRecord {c : ClosureContent} {s : State} (h : s.findRecord c.id = none) :
    Turns ps s (createRecord c s) := by
  have hadmit := turns_admitRecord (ps := ps) (creatable_newRecord h)
  unfold createRecord
  dsimp only
  refine Turns.ite (.refl s) ?_
  split
  · next t ht =>
    rw [ht] at hadmit
    obtain ⟨i, hi⟩ := admitRecord_held ht
    exact Turns.ite (hadmit.trans (turns_queueOwn hi (settled_id _))) hadmit
  · next t ht =>
    rw [ht] at hadmit
    exact hadmit

theorem turns_takeClosure (a : Bool) (sender : Byte) (b : ClosureBody) (s : State) :
    Turns ps s (takeClosure a sender b s) := by
  unfold takeClosure
  split
  · exact .refl s
  · refine Turns.guard fun _ => ?_
    split
    · next h => exact turns_createRecord h
    · next h =>
      split
      · exact .refl s
      · next hm =>
        exact turns_replaceRecord _ (mem_records.mp (List.mem_of_find?_eq_some h)) (mergeRecord_amends hm)

theorem turns_servePendingSlide (s : State) : Turns ps s (servePendingSlide s) :=
  Turns.guard fun _ => (turns_slidePending false s).trans (turns_carrySlide _)

theorem turns_removeRecord (i : Nat) (r : ClosureRecord) (s : State) : Turns ps s (removeRecord i r s) := by
  have h1 : Turns ps s (servePendingSlide (setFull false (vacate i s))) :=
    (turns_vacate i s).trans ((turns_setFull false _).trans (turns_servePendingSlide _))
  exact Turns.ite (h1.trans (turns_autocloseTest _)) h1

/-! ## The peer table and the handler -/

theorem turns_storePeer (p : Peer) (s : State) : Turns ps s (storePeer p s) := Turns.aside (frame_storePeer p s) rfl

theorem turns_reportPeers (s : State) : Turns ps s (reportPeers s) :=
  Turns.guard fun _ => (turns_recomputeNeighbours s).trans (turns_judgeQuiet _)

theorem turns_noteGap (a : Byte) (s : State) : Turns ps s (noteGap a s) := by
  unfold noteGap
  split
  · exact .refl s
  · exact Turns.ite (.refl s) (Turns.ite (turns_present (sendable_recap a s)) (turns_storePeer _ s))

theorem turns_servePeer (h : FrameHeader) (take : Peer → Peer) (s : State) : Turns ps s (servePeer h take s).1 := by
  have hstore : ∀ (p : Peer) (b : Bool), Turns ps s (if b then reportPeers (storePeer p s) else storePeer p s) :=
    fun p b => Turns.ite ((turns_storePeer p s).trans (turns_reportPeers _)) (turns_storePeer p s)
  unfold servePeer
  split
  · exact hstore _ _
  · split
    · exact turns_storePeer _ s
    · exact Turns.ite ((hstore _ _).trans (turns_noteGap _ _)) (hstore _ _)

/-- A received frame is its end, the peer table's service and its kind's. -/
theorem turns_receiveFrame {serve : State → State} (hs : ∀ t, Turns ps t (serve t)) (h : FrameHeader)
    (take : Peer → Peer) (s : State) : Turns ps s (receiveFrame h take serve s) := by
  have hend : Turns ps s (endFrame s) := (Turn.endFrame s).turns
  have hserve := turns_servePeer (ps := ps) h take (endFrame s)
  unfold receiveFrame
  refine Turns.ite (.refl s) (Turns.ite hend (Turns.ite (hend.trans (turns_addressConflict _)) ?_))
  split
  · next t e =>
    rw [e] at hserve
    exact hend.trans (hserve.trans (hs t))
  · next t e =>
    rw [e] at hserve
    exact hend.trans hserve

theorem turns_answerInFault (s : State) : Turns ps s (answerInFault s) := Turns.ite (.refl s) (turns_announce s)

/-- Presenting the CLOSUREs of records held leaves them held. -/
theorem turns_presentClosures : ∀ (l : List (Nat × ClosureRecord)) (s : State), (∀ p ∈ l, s.recordAt p.1 = some p.2) →
    Turns ps s (l.foldl (fun s p => present (.closure p.2.id) s) s)
  | [], s, _ => .refl s
  | p :: l, s, h => by
    refine (turns_present (sendable_closure (h p List.mem_cons_self))).trans (turns_presentClosures l _ fun q hq => ?_)
    rw [recordAt_congr ((frame_present _ s).slots_eq (by decide))]
    exact h q (List.mem_cons_of_mem _ hq)

theorem turns_returnRecords (a : Byte) (s : State) : Turns ps s (returnRecords a s) :=
  turns_presentClosures _ s fun _ hp => mem_records.mp (List.mem_filter.mp hp).1

theorem turns_serveRecap (a b : Byte) (s : State) : Turns ps s (serveRecap a b s) := by
  have h1 : Turns ps s (restartWalker (present .status (present .announce s))) :=
    (turns_announce s).trans ((turns_status _).trans (turns_restartWalker _))
  unfold serveRecap
  exact Turns.guard fun _ => Turns.ite (turns_answerInFault s) (Turns.ite (h1.trans (turns_returnRecords a _)) h1)

theorem turns_serveQuery (a b : Byte) (s : State) : Turns ps s (serveQuery a b s) :=
  Turns.guard fun _ => Turns.ite (turns_answerInFault s) ((turns_status s).trans (turns_announce _))

theorem turns_serveFloor (a : Byte) (b : FloorBody) (s : State) : Turns ps s (serveFloor a b s) :=
  Turns.guard fun _ => turns_applyFloor _ _ s

theorem turns_serveClosure (x : Bool) (a : Byte) (b : ClosureBody) (s : State) : Turns ps s (serveClosure x a b s) :=
  Turns.guard fun _ => turns_takeClosure x a b s

theorem turns_setPresence (p : Peer) (x : Presence) (s : State) : Turns ps s (setPresence p x s) := by
  unfold setPresence
  exact Turns.ite ((turns_storePeer _ s).trans (turns_reportPeers _)) (turns_storePeer _ s)

/-! ## Observation -/

theorem turns_setChannel (c : Chan) (x : Channel) (s : State) : Turns ps s (s.setChannel c x) :=
  Turns.aside (frame_setChannel s c x) rfl

theorem turns_presentSample (c : Chan) (v : Value) (s : State) : Turns ps s (presentSample c v s) := by
  unfold presentSample
  exact Turns.ite (turns_setChannel c _ s) ((turns_setChannel c _ s).trans (turns_reportAlert _))

theorem turns_widthSample (c : Chan) (raw : Option Nat) (s : State) : Turns ps s (widthSample c raw s) :=
  (turns_setChannel c _ s).trans (turns_presentSample c _ _)

theorem turns_closeMinute (c : Chan) (s : State) : Turns ps s (closeMinute c s) := by
  unfold closeMinute
  dsimp only
  split
  · exact (turns_setChannel c _ s).trans (turns_presentSample c _ _)
  · exact turns_setChannel c _ s

/-! ## The sign link -/

theorem turns_reportFault (n : Sign) (s : State) : Turns ps s (reportFault n s) :=
  (Turn.forget n s).turns.trans ((turns_signReport n _).trans ((turns_status _).trans (turns_judgeQuiet _)))

theorem turns_reportOk (n : Sign) (b : Bool) (s : State) : Turns ps s (reportOk n b s) := by
  have h1 : Turns ps s (judgeQuiet (present .status (signReport n s))) :=
    (turns_signReport n s).trans ((turns_status _).trans (turns_judgeQuiet _))
  unfold reportOk
  exact Turns.ite (h1.trans (Turn.refresh n fun hq => refreshStart_of_quiet hq n).turns) h1

theorem turns_reportAck {t : Transfer} {s : State} (h : s.health t.sign = .ok) : Turns ps s (reportAck t s) := by
  have hack : Turns ps s (acknowledge t.sign t.pages s) := (Turn.acknowledge h).turns
  unfold reportAck
  exact Turns.ite hack (hack.trans (turns_signReport t.sign _))

theorem turns_endTransfer (s : State) : Turns [.linkState, .signLinks] s (endTransfer s) :=
  Turns.aside (frame_endTransfer s) rfl

theorem turns_countFailure (t : Transfer) (s : State) : Turns [.linkState, .signLinks] s (countFailure t s) := by
  have hset : ∀ x, Turns [.linkState, .signLinks] s (s.setSignLink t.sign x) := fun x =>
    Turns.aside (frame_setSignLink s t.sign x) rfl
  unfold countFailure
  dsimp only
  split
  · exact .refl s
  · exact hset _
  · exact Turns.ite ((hset _).trans (turns_reportFault t.sign _)) (hset _)

theorem turns_failTransfer (t : Transfer) (s : State) : Turns [.linkState, .signLinks] s (failTransfer t s) :=
  (turns_endTransfer s).trans ((turns_countFailure t _).trans (turns_arbitrate _))

theorem frame_removeEntries (i : Nat) (r : ClosureRecord) (s : State) :
    Frame [.slots, .queue, .wait, .signs] s (removeEntries i r s) :=
  ((frame_setSlot s i none).widen rfl).trans
    (((frame_dropEntries r.id _).widen rfl).trans ((frame_dropDisplayed r.id _).widen rfl))

/-- No turn moves the health of a sign. -/
theorem Turn.health_eq {s t : State} (h : Turn [] s t) (n : Sign) : t.health n = s.health n := by
  have hlink : ∀ {qs : List Part} {a b : State}, Frame qs a b → Part.signLinks ∉ qs → b.health n = a.health n :=
    fun hf hq => congrArg (fun v : PerSign SignLink => (v.get n).health) (hf .signLinks hq).symm
  have hset : ∀ (a : State) (m : Sign) (x : SignLink), x.health = a.health m → (a.setSignLink m x).health n = a.health n := by
    intro a m x hx
    unfold State.health at hx ⊢
    by_cases hm : n = m
    · subst hm
      simpa using hx
    · simp [hm]
  cases h with
  | aside h => exact hlink h (by decide)
  | present => exact hlink (frame_present _ s) (by decide)
  | follow => exact hlink (frame_followQueue s) (by decide)
  | endFrame => exact hlink (frame_endFrame s) (by decide)
  | conflict => rfl
  | remove => exact hlink (frame_removeEntries _ _ s) (by decide)
  | place => rfl
  | amend => rfl
  | rebuild m => exact hlink (frame_rebuildSign m s) (by decide)
  | offer => exact hset _ _ _ rfl
  | transfer => exact hset s _ _ rfl
  | refresh => rfl
  | acknowledge => exact hlink (frame_acknowledge _ _ s) (by decide)
  | forget m => exact hlink (frame_forgetDisplayed m s) (by decide)
  | refuse => rfl
  | quiet => rfl
  | gate => rfl

theorem Turns.health_eq {s t : State} (h : Turns [] s t) (n : Sign) : t.health n = s.health n :=
  h.keep (law := fun u => u.health n = s.health n) (fun _ _ h k => (h.health_eq n).trans k) rfl

theorem turns_countSuccessful (t : Transfer) (s : State) : Turns [.linkState, .signLinks] s (countSuccessful t s) := by
  have hset : ∀ x, Turns [.linkState, .signLinks] s (s.setSignLink t.sign x) := fun x =>
    Turns.aside (frame_setSignLink s t.sign x) rfl
  have hok : (s.setSignLink t.sign { s.link.signs.get t.sign with health := .ok, failures := 0, probe := .stopped }).health
      t.sign = .ok := by
    simp [State.health]
  unfold countSuccessful
  dsimp only
  split
  · exact (hset _).trans (turns_reportAck hok)
  · exact (hset _).trans ((turns_reportOk _ _ _).trans
      (turns_reportAck (((turns_reportOk _ _ _).health_eq _).trans hok)))

theorem turns_countRefusal (t : Transfer) (p : BitVec 4) (s : State) :
    Turns [.linkState, .signLinks] s (countRefusal t p s) := by
  have h1 : Turns [.linkState, .signLinks] s (evaluateSign t.sign (s.setSign t.sign { s.signs.get t.sign with
      refused := refuseTemplate (refusedTemplate t.pages p) (s.signs.get t.sign).refused })) :=
    (Turn.refuse _ _ s).turns.trans (turns_evaluateSign _ _)
  unfold countRefusal
  exact Turns.ite (h1.trans (Turns.aside (frame_setSignLink _ _ _) rfl)) h1

end Sys2Proof.Machine
end

section
/-! PROOF. Each command as a chain of turns, which beside `Part.plain` may write freely the parts that `Part.direct` names for it. -/

namespace Sys2Proof.Machine

open Sys2Proof

/-- The parts a command writes itself, not by a turn of a shared operation. -/
def Part.direct : Instr → List Part
  | .powerOnReset _ _ => [.settings, .quiet, .queue, .wait, .flight, .lineFlags, .slots, .signs, .linkState, .signLinks,
      .gateUnits, .key]
  | .warmReset _ _ => [.settings, .quiet, .queue, .wait, .flight, .lineFlags, .slots, .signs, .linkState, .signLinks,
      .gateUnits, .key]
  | .configurationReadEnd _ => [.settings, .signs, .signLinks, .gateUnits, .key]
  | .settlingStart => [.settings]
  | .runningEntry => [.settings]
  | .characterReceived _ _ => [.wait, .flight]
  | .attemptStart => [.queue, .wait, .flight]
  | .attemptSuccess => [.flight, .lineFlags]
  | .attemptFailed => [.wait, .flight, .lineFlags]
  | .pageSetSent => [.linkState]
  | .ackReceived _ _ => [.linkState, .signLinks]
  | .nakUnknownTemplate _ _ => [.linkState, .signLinks]
  | .nakBadFormat _ _ => [.linkState, .signLinks]
  | .replyTimeout => [.linkState, .signLinks]
  | .xoffReceived => [.linkState]
  | .xonReceived => [.linkState]
  | .pauseLimit => [.linkState, .signLinks]
  | .probeDue _ => [.signLinks]
  | .keyToLocal => [.key]
  | .keyToRemote => [.key]
  | .closeButtonPress => [.key]
  | .openButtonPress _ => [.key]
  | .quietEntry => [.quiet]
  | _ => []

variable {ps : List Part}

/-! ## Start-up -/

/-- R186: the entry to CONFIG-FAULT is the change of the start-up controller, and then turns. -/
theorem turns_enterConfigFault (i : Option (List Byte)) (b : Bool) (s : State) :
    Turns ps (s.withStartup { s.startup with phase := .configFault, image := i, substituted := b }) (enterConfigFault i b s) := by
  unfold enterConfigFault
  refine Turns.ite ?_ (Turns.trans ?_ (turns_announce _))
  · exact Turns.aside (frame_startLineAndClock _) rfl
  · exact (Turns.aside (frame_startLineAndClock _) rfl).trans (Turns.aside (frame_announceTimer _ _) rfl)

/-- R182: the end of the configuration read is a change of the start-up controller, which keeps the address, QUIET and the entry
timer, and then turns. -/
theorem turns_configurationReadEnd {a : List Byte} {s : State} (h : s.phase = .configRead) :
    ∃ x : Startup, x.address = s.startup.address ∧ x.quiet = s.startup.quiet ∧ x.entryTimer = s.startup.entryTimer
      ∧ Turns [.signs, .signLinks, .gateUnits, .key] (s.withStartup x) (outcome (.configurationReadEnd a) s) := by
  rw [show outcome (.configurationReadEnd a) s = _ from if_pos h]
  split
  · next image substituted _ =>
    refine ⟨{ s.startup with phase := .configFault, image := image, substituted := substituted }, rfl, rfl, rfl, ?_⟩
    exact turns_enterConfigFault image substituted s
  · next image substituted checksum _ =>
    refine ⟨{ s.startup with
      phase := .joining, image := some image, config := configOf image,
      substituted := substituted || (channelsAtStart (configOf image).channels s.pins.sense).2,
      retainedValid := retainedValid s.startup.warm s.retained checksum }, rfl, rfl, rfl, ?_⟩
    unfold enterJoining
    refine Turns.trans ?_ (turns_evaluateHazard false _)
    refine Turns.trans ?_ (Turns.aside (frame_linkSigns _ _) rfl)
    refine Turns.trans ?_ (Turns.aside (frame_withSigns _ _) rfl)
    refine Turns.trans ?_ (Turns.aside (frame_withGates _ _) rfl)
    refine Turns.trans ?_ (Turns.aside (frame_slide _ _) rfl)
    refine Turns.trans ?_ (Turns.aside (frame_withChannels _ _) rfl)
    refine Turns.trans ?_ (Turns.aside (frame_withRetained _ _) rfl)
    exact Turns.aside (frame_startLineAndClock _) rfl

theorem configurationReadEnd_eq_self {a : List Byte} {s : State} (h : s.phase ≠ .configRead) :
    outcome (.configurationReadEnd a) s = s := if_neg h

/-- R184: the entry to SETTLING is the change of phase, and then turns. -/
theorem turns_settlingStart {s : State} (h : s.phase = .joining ∧ 10 ≤ s.now) :
    Turns ps (s.withStartup { s.startup with phase := .settling }) (outcome .settlingStart s) := by
  rw [show outcome .settlingStart s = _ from if_pos h]
  refine Turns.trans ?_ (turns_evaluateGates _)
  refine Turns.trans ?_ (turns_arbitrate _)
  refine Turns.trans ?_ (turns_evaluateSigns _)
  refine Turns.trans ?_ (turns_deliverDeferred _)
  refine Turns.trans ?_ (turns_status _)
  refine Turns.trans ?_ (turns_present (sendable_recap _ _))
  refine Turns.trans ?_ (turns_announce _)
  refine Turns.trans ?_ (turns_restartRefresh _)
  exact Turns.aside (frame_timers _ _ _ _) rfl

theorem settlingStart_eq {s : State} (h : s.phase = .joining ∧ 10 ≤ s.now) : outcome .settlingStart s
    = (let u := s.withStartup { s.startup with phase := .settling }
       evaluateGates (arbitrate (evaluateSigns (deliverDeferred (present .status (present (.recap 0#8) (present .announce
         (restartRefresh (u.withPeers { u.peers with statusTimer := some 0, announceTimer := some 0 }))))))))) := if_pos h

theorem settlingStart_eq_self {s : State} (h : ¬ (s.phase = .joining ∧ 10 ≤ s.now)) : outcome .settlingStart s = s :=
  if_neg h

/-- R185: the entry to RUNNING is the change of phase, and then turns. -/
theorem turns_runningEntry {s : State} (h : s.phase = .settling ∧ 70 ≤ s.now) :
    Turns ps (s.withStartup { s.startup with phase := .running }) (outcome .runningEntry s) := by
  rw [show outcome .runningEntry s = _ from if_pos h]
  refine Turns.trans ?_ (turns_judgeQuiet _)
  refine Turns.trans ?_ (turns_evaluateGates _)
  refine Turns.trans ?_ (turns_evaluateSigns _)
  refine Turns.trans ?_ (turns_bringForward _)
  refine Turns.trans ?_ (turns_autocloseTest _)
  refine Turns.trans ?_ (turns_restartWalker _)
  exact Turns.aside (frame_raiseSerial _) rfl

theorem runningEntry_eq_self {s : State} (h : ¬ (s.phase = .settling ∧ 70 ≤ s.now)) : outcome .runningEntry s = s :=
  if_neg h

/-! ## Observation -/

theorem turns_pulseEdge (ch : Chan) (rising : Bool) (s : State) : Turns ps s (outcome (.pulseEdge ch rising) s) := by
  dsimp only [outcome, exec, execPulseEdge]
  refine Turns.guard fun _ => ?_
  split
  · exact .refl s
  · exact Turns.guard fun _ => turns_setChannel ch _ s
  · exact Turns.guard fun _ => turns_setChannel ch _ s
  · split
    · exact turns_setChannel ch _ s
    · exact turns_widthSample ch _ s
    · exact .refl s

theorem turns_senseLineChange (ch : Chan) (high : Bool) (s : State) :
    Turns ps s (outcome (.senseLineChange ch high) s) := by
  have hpin : Turns ps s (s.withPins { s.pins with sense := s.pins.sense.set ch high }) :=
    Turns.aside (frame_withPins s _) rfl
  dsimp only [outcome, exec, execSenseLineChange]
  refine Turns.ite ?_ hpin
  split
  · exact hpin.trans (turns_setChannel ch _ _)
  · exact hpin.trans (turns_widthSample ch none _)
  · exact hpin

/-! ## The pass line -/

theorem turns_attemptSuccess (s : State) : Turns [.flight, .lineFlags] s (outcome .attemptSuccess s) := by
  have hcount : ∀ t : State, Turns [.flight, .lineFlags] t (countSuccess t) := fun t =>
    Turns.guard fun _ => Turns.ite ((Turns.aside (frame_lineTrouble t false 0) rfl).trans (turns_status _))
      (Turns.aside (frame_lineTrouble t t.line.lineTrouble _) rfl)
  exact Turns.guard fun _ => (Turns.aside (frame_land s) rfl).trans ((hcount _).trans (Turn.follow _).turns)

theorem turns_abandon (s : State) : Turns [.wait, .flight, .lineFlags] s (abandon s) := by
  have h1 : Turns [.wait, .flight, .lineFlags] s
      (s.withLine { s.line.land with lineTrouble := true, successRun := 0 }) :=
    (Turns.aside (frame_land s) rfl).trans (Turns.aside (frame_lineTrouble (s.withLine s.line.land) true 0) rfl)
  unfold abandon
  exact (Turns.ite h1 (h1.trans (turns_status _))).trans (Turn.follow _).turns

theorem turns_attemptFailed (s : State) : Turns [.wait, .flight, .lineFlags] s (outcome .attemptFailed s) := by
  have hstop : Turns [.wait, .flight, .lineFlags] s (s.withLine s.line.stopSending) :=
    Turns.aside (frame_stopSending s) rfl
  dsimp only [outcome, exec, execAttemptFailed]
  refine Turns.guard fun _ => ?_
  split
  · exact Turns.ite (hstop.trans (Turns.aside (frame_beginWait _ _ _ _) rfl)) (hstop.trans (turns_abandon _))
  · exact hstop.trans (Turns.aside (frame_land _) rfl)

/-! ## The gates -/

theorem turns_limitInputChange (g : Gate) (l : Limit) (a : Bool) (s : State) :
    Turns ps s (outcome (.limitInputChange g l a) s) := by
  have hpin : Turns ps s (takeLimit g l a s) := Turns.aside (frame_takeLimit g l a s) rfl
  dsimp only [outcome, exec, execLimitInputChange]
  refine Turns.ite (.refl s) (Turns.ite (Turns.ite ?_ (Turns.ite ?_ hpin)) hpin)
  · exact hpin.trans (turns_followLimits g _)
  · exact hpin.trans (turns_limitEvent g l a _)

theorem turns_key (k : Bool) (d : Option Demand) (s : State) :
    Turns [.key] s (s.withGates { s.gates with keyLocal := k, localDemand := d }) := Turns.aside (frame_key s k d) rfl

theorem turns_clearDemand (g : Gate) (s : State) : Turns ps s (clearDemand g s) := turns_setGate_same rfl

theorem turns_remoteDemand (g : Gate) (s : State) : Turns ps s (remoteDemand g s) := turns_setGate_same rfl

theorem turns_keyToLocal (s : State) : Turns [.key] s (outcome .keyToLocal s) := by
  have hpin : Turns [.key] s (s.withPins { s.pins with keyLocal := true }) := Turns.aside (frame_withPins s _) rfl
  exact Turns.ite (hpin.trans ((turns_key true none _).trans
    ((turns_forGates turns_clearDemand _).trans (turns_forGates turns_gateToLocal _)))) hpin

theorem turns_keyToRemote (s : State) : Turns [.key] s (outcome .keyToRemote s) := by
  have hpin : Turns [.key] s (s.withPins { s.pins with keyLocal := false }) := Turns.aside (frame_withPins s _) rfl
  exact Turns.ite (hpin.trans ((turns_key false none _).trans ((turns_forGates turns_remoteDemand _).trans
    ((turns_forGates turns_gateToRemote _).trans (turns_evaluateGates _))))) hpin

theorem turns_setLocalDemand (d : Demand) (s : State) : Turns [.key] s (setLocalDemand d s) :=
  (turns_key s.gates.keyLocal (some d) s).trans (turns_evaluateGates _)

/-! ## Every command -/

/-- The settings of start-up apart from QUIET and its timer. -/
theorem frame_settings {s : State} {x : Startup} (hq : x.quiet = s.startup.quiet)
    (he : x.entryTimer = s.startup.entryTimer) : Frame [.settings] s (s.withStartup x) := by
  intro p hp
  cases p <;> simp_all [Part.agree]


theorem turns_outcome (c : Instr) (s : State) : Turns (Part.direct c) s (outcome c s) := by
  cases c with
  | powerOnReset a r => exact Turns.aside (frame_outcome (.powerOnReset a r) s) rfl
  | warmReset a r => exact Turns.aside (frame_outcome (.warmReset a r) s) rfl
  | configurationReadEnd a =>
    by_cases h : s.phase = .configRead
    · obtain ⟨x, ha, hq, he, hx⟩ := turns_configurationReadEnd (a := a) h
      have hset : Turns [.settings, .signs, .signLinks, .gateUnits, .key] s (s.withStartup x) :=
        Turns.aside (frame_settings hq he) rfl
      have hsub : ∀ p ∈ [Part.signs, .signLinks, .gateUnits, .key],
          p ∈ ([.settings, .signs, .signLinks, .gateUnits, .key] : List Part) := by decide
      exact hset.trans (hx.mono hsub)
    · rw [configurationReadEnd_eq_self h]
      exact .refl s
  | settlingStart =>
    by_cases h : s.phase = .joining ∧ 10 ≤ s.now
    · exact (Turns.aside (frame_phase s .settling) rfl).trans (turns_settlingStart h)
    · rw [settlingStart_eq_self h]
      exact .refl s
  | runningEntry =>
    by_cases h : s.phase = .settling ∧ 70 ≤ s.now
    · exact (Turns.aside (frame_phase s .running) rfl).trans (turns_runningEntry h)
    · rw [runningEntry_eq_self h]
      exact .refl s
  | pulseEdge ch r => exact turns_pulseEdge ch r s
  | senseLineChange ch h => exact turns_senseLineChange ch h s
  | widthOverrange ch => exact Turns.guard fun _ => turns_widthSample ch none s
  | silenceTimerExpiry ch =>
    exact Turns.guard fun _ => (turns_setChannel ch _ s).trans (turns_presentSample ch _ _)
  | rateWindowEnd ch => exact Turns.guard fun _ => (turns_setChannel ch _ s).trans (turns_presentSample ch _ _)
  | minuteClose =>
    refine Turns.guard fun _ => Turns.trans ?_ (turns_evaluateSigns _)
    exact (turns_forChannels turns_closeMinute s).trans (Turns.aside (frame_withClock _ _) rfl)
  | hourClose =>
    exact Turns.guard fun _ => (Turns.aside (frame_insertHour s) rfl).trans (turns_evaluateHazard true _)
  | slideContactChange b => exact Turns.aside (frame_slideContactChange b s) rfl
  | slideConfirmationExpiry => exact Turns.guard fun _ => (turns_withSlide _ s).trans (turns_deliverSlide _)
  | rearmTimerExpiry => exact Turns.guard fun _ => turns_withSlide _ s
  | operatorFloorExpiry => exact Turns.guard fun _ => (turns_floor 0 _ s).trans (turns_recompute_test _)
  | overrideHoldExpiry => exact Turns.guard fun _ => (turns_hold none s).trans (turns_autocloseTest _)
  | receiverIdleReached => exact Turns.aside (frame_outcome .receiverIdleReached s) rfl
  | characterReceived c b => exact Turns.aside (frame_characterReceived c b s) rfl
  | frameDiscarded =>
    refine Turns.ite (.refl s) (Turns.ite ?_ (Turn.endFrame s).turns)
    exact (Turn.endFrame s).turns.trans (turns_addressConflict _)
  | announceReceived h b => exact turns_receiveFrame (fun t => .refl t) h _ s
  | statusReceived h b => exact turns_receiveFrame (fun t => .refl t) h _ s
  | closureReceived h b => exact turns_receiveFrame (fun t => turns_serveClosure false h.source b t) h _ s
  | alertReceived h b => exact turns_receiveFrame (fun t => turns_serveClosure true h.source b t) h _ s
  | floorReceived h b => exact turns_receiveFrame (fun t => turns_serveFloor h.source b t) h _ s
  | queryReceived h a => exact turns_receiveFrame (fun t => turns_serveQuery h.source a t) h _ s
  | recapReceived h a => exact turns_receiveFrame (fun t => turns_serveRecap h.source a t) h _ s
  | attemptStart => exact Turns.aside (frame_attemptStart s) rfl
  | attemptSuccess => exact turns_attemptSuccess s
  | attemptFailed => exact turns_attemptFailed s
  | peerLate a =>
    dsimp only [outcome, exec, execPeerLate]
    split
    · exact Turns.guard fun _ => turns_setPresence _ _ s
    · exact .refl s
  | peerSilent a =>
    dsimp only [outcome, exec, execPeerSilent]
    split
    · exact Turns.guard fun _ => turns_setPresence _ _ s
    · exact .refl s
  | recapTimerExpiry a =>
    dsimp only [outcome, exec, execRecapTimerExpiry]
    split
    · exact Turns.guard fun _ => (turns_storePeer _ s).trans (turns_present (sendable_recap _ _))
    · exact .refl s
  | statusTimerExpiry =>
    dsimp only [outcome, exec, execStatusTimerExpiry]
    split
    · exact Turns.guard fun _ =>
        (Turns.aside (frame_timers s _ s.peers.statusInterval s.peers.announceTimer) rfl).trans (turns_status _)
    · exact .refl s
  | announceTimerExpiry =>
    dsimp only [outcome, exec, execAnnounceTimerExpiry]
    split
    · exact Turns.guard fun _ => (Turns.aside (frame_announceTimer s _) rfl).trans (turns_announce _)
    · exact .refl s
  | leadExpiry i =>
    dsimp only [outcome, exec, execLeadExpiry]
    split
    · next r hr =>
      refine Turns.guard fun _ => (turns_queueOwn hr rfl).trans ?_
      exact turns_storeRecord ((recordAt_queueOwn _ s i).trans hr) ⟨rfl, rfl, fun _ h => h⟩
    · exact .refl s
  | durationExpiry i =>
    dsimp only [outcome, exec, execDurationExpiry]
    split
    · next r hr =>
      refine Turns.guard fun _ => (turns_queueOwn hr rfl).trans (Turns.trans ?_ (turns_tellHazard _ _ _ _))
      exact turns_storeRecord ((recordAt_queueOwn _ s i).trans hr) ⟨rfl, rfl, fun _ h => h⟩
    · exact .refl s
  | liftedDisplayExpiry i =>
    dsimp only [outcome, exec, execLiftedDisplayExpiry]
    split
    · exact Turns.guard fun _ => turns_removeRecord i _ s
    · exact .refl s
  | recordStale i =>
    dsimp only [outcome, exec, execRecordStale]
    split
    · next r hr =>
      refine Turns.guard fun hg => turns_storeRecord hr ⟨rfl, rfl, fun ho _ => ?_⟩
      simp [ho] at hg
    · exact .refl s
  | walkerStep => exact Turns.guard fun _ => turns_walkerAdvance s
  | refreshTimerExpiry n => exact Turns.guard fun _ => turns_refreshSign n s
  | pageSetSent => exact Turns.aside (frame_outcome .pageSetSent s) rfl
  | ackReceived a ck =>
    dsimp only [outcome, exec, execAckReceived]
    split
    · refine Turns.ite ?_ (turns_failTransfer _ s)
      exact (turns_endTransfer s).trans ((turns_countSuccessful _ _).trans (turns_arbitrate _))
    · exact .refl s
  | nakUnknownTemplate a p =>
    dsimp only [outcome, exec, execNakUnknownTemplate]
    split
    · exact (turns_endTransfer s).trans ((turns_countRefusal _ p _).trans (turns_arbitrate _))
    · exact .refl s
  | nakBadFormat a p =>
    dsimp only [outcome, exec, execNakBadFormat]
    split
    · exact turns_failTransfer _ s
    · exact .refl s
  | replyTimeout =>
    dsimp only [outcome, exec, execReplyTimeout]
    split
    · exact Turns.guard fun _ => turns_failTransfer _ s
    · exact .refl s
  | xoffReceived => exact Turns.aside (frame_outcome .xoffReceived s) rfl
  | xonReceived => exact Turns.aside (frame_outcome .xonReceived s) rfl
  | pauseLimit =>
    dsimp only [outcome, exec, execPauseLimit]
    split
    · exact Turns.guard fun _ => turns_failTransfer _ s
    · exact .refl s
  | probeDue n =>
    dsimp only [outcome, exec, execProbeDue]
    split
    · exact Turns.guard fun _ => (Turns.aside (frame_setSignLink s n _) rfl).trans (turns_arbitrate _)
    · exact .refl s
  | limitInputChange g l a => exact turns_limitInputChange g l a s
  | gateLeadElapsed g => exact Turns.guard fun _ => turns_beginTravel (by simp)
  | dwellEnd g => exact Turns.guard fun _ => turns_resumeTravel g s
  | travelStall g =>
    exact Turns.guard fun _ =>
      Turns.ite (turns_putGate (mayBecome_of_ne (by simp))) (turns_putGate (mayBecome_of_ne (by simp)))
  | stallRetry g => exact Turns.guard fun _ => turns_resumeTravel g s
  | keyToLocal => exact turns_keyToLocal s
  | keyToRemote => exact turns_keyToRemote s
  | closeButtonPress => exact Turns.guard fun _ => turns_setLocalDemand .closed s
  | openButtonPress b => exact Turns.guard fun _ => turns_setLocalDemand .opened s
  | quietEntry => exact Turns.guard fun _ => Turns.ite (turns_enterQuiet s) (turns_judgeQuiet s)

/-- A law that every turn keeps which writes nothing it looks at is kept by every command that does not write itself what it
looks at. -/
theorem keep_of_turns {supp : List Part} {law : State → Prop} {c : Instr}
    (hturn : ∀ qs : List Part, Part.apart supp (Part.plain ++ qs) = true → ∀ s t, Turn qs s t → law s → law t)
    (hd : Part.apart supp (Part.plain ++ Part.direct c) = true) {s : State} : law s → law (outcome c s) :=
  (turns_outcome c s).keep (hturn _ hd)

end Sys2Proof.Machine
end

section
/-! PROOF. What a tick does, in the stages the laws are proved by; what a turn can do to the transmit queue and the register, and the
laws of both (R65 to R68, R95, R109, R110, R114). -/

namespace Sys2Proof.Machine

open Sys2Proof

/-! ## A tick in stages -/

/-- The timers that count seconds, before QUIET is judged at the whole second. -/
def secondTimers (s : State) : State :=
  let s1 := (s.withClock { s.clock with time := s.clock.time + 1, tick := 0 }).withPeers s.peers.second
  let s2 := if s.phase.operating then
      (s1.withHazard s.hazard.second).withRegister { s.register with
        slots := s.register.slots.map (Option.map ClosureRecord.second),
        walkerTimer := s.register.walkerTimer.map (· - 1) }
    else s1
  if s.phase.serving then secondServing s2 else s2

theorem advanceSecond_eq (s : State) :
    advanceSecond s = if s.phase.serving then secondQuiet (secondTimers s) else secondTimers s := by
  unfold advanceSecond secondTimers
  dsimp only
  split <;> rfl

theorem frame_withHazard (s : State) (x : Hazard) :
    Frame [.computation, .floor, .neighbours, .effective, .liftCounter, .hold] s (s.withHazard x) := by
  intro p hp
  cases p <;> simp_all [Part.agree]

theorem frame_withPeers (s : State) (x : PeerTable) :
    Frame [.peerEntries, .statusTimer, .announceTimer] s (s.withPeers x) := by
  intro p hp
  cases p <;> simp_all [Part.agree]

theorem frame_slotsWalker (s : State) (l : List (Option ClosureRecord)) (w : Option Nat) :
    Frame [.slots, .walker] s (s.withRegister { s.register with slots := l, walkerTimer := w }) := by
  intro p hp
  cases p <;> simp_all [Part.agree]

theorem frame_hazardSecond (s : State) : Frame [.floor, .hold] s (s.withHazard s.hazard.second) := by
  intro p hp
  cases p <;> simp_all [Part.agree, Hazard.second]

theorem frame_secondTimers (s : State) :
    Frame [.clock, .peerEntries, .statusTimer, .announceTimer, .floor, .hold, .slots, .walker, .signs] s
      (secondTimers s) := by
  have h1 : Frame [.clock, .peerEntries, .statusTimer, .announceTimer, .floor, .hold, .slots, .walker, .signs] s
      ((s.withClock { s.clock with time := s.clock.time + 1, tick := 0 }).withPeers s.peers.second) :=
    ((frame_withClock s _).widen rfl).trans ((frame_withPeers _ _).widen rfl)
  have h2 := h1.trans ((frame_hazardSecond _).widen rfl)
  have h3 := h2.trans ((frame_slotsWalker _ (s.register.slots.map (Option.map ClosureRecord.second))
    (s.register.walkerTimer.map (· - 1))).widen rfl)
  have h4 := Frame.ite (p := s.phase.operating = true) h3 h1
  unfold secondTimers
  exact Frame.ite (h4.trans ((frame_withSigns _ _).widen rfl)) h4

theorem frame_lineAdvance (s : State) (rate : Nat) :
    Frame [.receiver, .wait, .flight] s (s.withLine (s.line.advance rate)) := by
  intro p hp
  cases p <;> simp_all [Part.agree, Line.advance]

theorem frame_tickTimers (s : State) (c : PerChan Channel) (x : Slide) (u : PerGate GateUnit) (k : Link) :
    Frame [.channels, .slide, .gateUnits, .linkState, .signLinks] s
      ((((s.withChannels c).withSlide x).withGates { s.gates with units := u }).withLink k) := by
  intro p hp
  cases p <;> simp_all [Part.agree]

theorem frame_advanceTick (s : State) :
    Frame [.receiver, .wait, .flight, .replyPair, .pending, .channels, .slide, .gateUnits, .linkState, .signLinks] s
      (advanceTick s) := by
  have h1 : Frame [.receiver, .wait, .flight, .replyPair, .pending, .channels, .slide, .gateUnits, .linkState, .signLinks] s
      (hearReplyPair (s.withLine (s.line.advance (lineRate s.startup.rateCode)))) :=
    ((frame_lineAdvance s _).widen rfl).trans ((frame_hearReplyPair _).widen rfl)
  have hgates : (hearReplyPair (s.withLine (s.line.advance (lineRate s.startup.rateCode)))).gates = s.gates := by
    obtain ⟨p, more, h, -⟩ := hearReplyPair_eq (s.withLine (s.line.advance (lineRate s.startup.rateCode)))
    rw [h]
    rfl
  have h2 := frame_tickTimers (hearReplyPair (s.withLine (s.line.advance (lineRate s.startup.rateCode))))
    ⟨s.channels.one.advance s.pins.sense.one, s.channels.two.advance s.pins.sense.two,
      s.channels.three.advance s.pins.sense.three, s.channels.four.advance s.pins.sense.four⟩
    { s.slide with confirm := tickUp s.slide.confirm, rearm := tickUp s.slide.rearm }
    ⟨s.gates.units.east.advance, s.gates.units.west.advance⟩
    (if s.phase.serving then s.link.advance.advanceProbes else s.link.advance)
  rw [hgates] at h2
  unfold advanceTick
  exact Frame.ite (h1.trans (h2.widen rfl)) h1

theorem turns_secondQuiet {ps : List Part} (s : State) : Turns ps s (secondQuiet s) := by
  unfold secondQuiet
  split
  · exact Turns.ite ((turns_entryTimer _ s).trans (turns_judgeQuiet _)) (turns_entryTimer _ s)
  · exact .refl s

/-- A law is kept by a tick when it is kept by each of its stages. -/
theorem advance_keeps {law : State → Prop} (htick : ∀ s, law s → law (advanceTick s))
    (hclock : ∀ s x, law s → law (s.withClock x)) (hsecond : ∀ s, law s → law (secondTimers s))
    (hquiet : ∀ s, law s → law (secondQuiet s)) (s : State) (hs : law s) : law (advance s) := by
  have ht := htick s hs
  unfold advance
  split
  · exact hs
  · dsimp only
    split
    · exact hclock _ _ ht
    · rw [advanceSecond_eq]
      split
      · exact hquiet _ (hsecond _ ht)
      · exact hsecond _ ht

/-! ## What a turn does to the queue and to the register -/

/-- What becomes of the transmit queue and the register's places in one turn. -/
inductive Booked (s t : State) : Prop
  | same (hq : t.line.queue = s.line.queue) (hs : t.register.slots = s.register.slots)
  | presented {e : Bulletin} (h : Sendable e s) (hq : t.line.queue = enqueue e s.line.queue)
      (hs : t.register.slots = s.register.slots)
  | removed {i : Nat} {r : ClosureRecord} (h : s.recordAt i = some r)
      (hq : t.line.queue = s.line.queue.filter (fun e => decide (e ≠ .closure r.id ∧ e ≠ .alert r.id)))
      (hs : t.register.slots = s.register.slots.set i none)
  | placed {i : Nat} {r : ClosureRecord} (hfree : s.register.slots[i]? = some none)
      (hfresh : s.register.slots.length ≤ 16 → ∀ j q, s.recordAt j = some q → q.id ≠ r.id)
      (hown : r.own = true ↔ r.id.origin = s.startup.address) (hnew : r.stale = false ∧ r.age = 0)
      (hq : t.line.queue = s.line.queue) (hs : t.register.slots = s.register.slots.set i (some r))
  | amended {i : Nat} {a b : ClosureRecord} (h : s.recordAt i = some a) (hab : Amends a b)
      (hq : t.line.queue = s.line.queue) (hs : t.register.slots = s.register.slots.set i (some b))

theorem Booked.of_frame {qs : List Part} {s t : State} (h : Frame qs s t)
    (hd : Part.apart [.queue, .slots] qs = true) : Booked s t :=
  .same (h .queue (Part.not_mem_of_apart hd (by simp))).symm (h.slots_eq (Part.not_mem_of_apart hd (by simp)))

theorem queue_dropEntries (id : RecId) (s : State) : (dropEntries id s).line.queue
    = s.line.queue.filter (fun e => decide (e ≠ .closure id ∧ e ≠ .alert id)) := followQueue_queue _

theorem queue_removeEntries (i : Nat) (r : ClosureRecord) (s : State) : (removeEntries i r s).line.queue
    = s.line.queue.filter (fun e => decide (e ≠ .closure r.id ∧ e ≠ .alert r.id)) := by
  have h : (dropEntries r.id (s.setSlot i none)).line.queue = (removeEntries i r s).line.queue :=
    frame_dropDisplayed r.id _ .queue (by decide)
  rw [← h, queue_dropEntries]
  rfl

/-- What a presented entry makes of the queue. -/
theorem queue_present (e : Bulletin) (s : State) : (present e s).line.queue
    = if s.phase = .configRead ∨ (s.phase = .configFault ∧ e = .status) then s.line.queue else enqueue e s.line.queue := by
  obtain ⟨w, d, h⟩ := present_eq e s
  rw [h]
  rfl

theorem Turn.booked {ps : List Part} {s t : State} (h : Turn ps s t)
    (hd : Part.apart [.queue, .slots] (Part.plain ++ ps) = true) : Booked s t := by
  cases h with
  | aside h => exact .of_frame h hd
  | @present e _ h =>
    have hs := (frame_present e s).slots_eq (by decide)
    have hq := queue_present e s
    split at hq
    · exact .same hq hs
    · exact .presented h hq hs
  | follow => exact .of_frame (frame_followQueue s) rfl
  | endFrame => exact .of_frame (frame_endFrame s) rfl
  | conflict => exact .same rfl rfl
  | remove h => exact .removed h (queue_removeEntries _ _ s) (slots_removeEntries _ _ s)
  | place hfree hfresh hown hnew => exact .placed hfree hfresh hown hnew rfl rfl
  | amend h hab => exact .amended h hab rfl rfl
  | rebuild n => exact .same rfl rfl
  | offer => exact .same rfl rfl
  | transfer => exact .same rfl rfl
  | refresh => exact .same rfl rfl
  | acknowledge => exact .same rfl rfl
  | forget => exact .same rfl rfl
  | refuse => exact .same rfl rfl
  | quiet => exact .same rfl rfl
  | gate => exact .same rfl rfl

/-- No turn moves the station's address, its phase or its configuration. -/
theorem Turn.settings_eq {ps : List Part} {s t : State} (h : Turn ps s t) (hd : Part.settings ∉ ps) :
    t.phase = s.phase ∧ t.config = s.config ∧ t.startup.address = s.startup.address := by
  cases h with
  | aside h =>
    refine h.settings_eq fun hm => ?_
    rcases List.mem_append.mp hm with hm | hm
    · revert hm; decide
    · exact hd hm
  | present => exact (frame_present _ s).settings_eq (by decide)
  | follow => exact (frame_followQueue s).settings_eq (by decide)
  | endFrame => exact (frame_endFrame s).settings_eq (by decide)
  | conflict => exact ⟨rfl, rfl, rfl⟩
  | remove => exact (frame_removeEntries _ _ s).settings_eq (by decide)
  | place => exact ⟨rfl, rfl, rfl⟩
  | amend => exact ⟨rfl, rfl, rfl⟩
  | rebuild => exact ⟨rfl, rfl, rfl⟩
  | offer => exact ⟨rfl, rfl, rfl⟩
  | transfer => exact ⟨rfl, rfl, rfl⟩
  | refresh => exact ⟨rfl, rfl, rfl⟩
  | acknowledge => exact ⟨rfl, rfl, rfl⟩
  | forget => exact ⟨rfl, rfl, rfl⟩
  | refuse => exact ⟨rfl, rfl, rfl⟩
  | quiet => exact ⟨rfl, rfl, rfl⟩
  | gate => exact ⟨rfl, rfl, rfl⟩

/-! ## The queue's law (R65 to R67) -/

theorem supports_queueLaw : Supports [.queue] QueueLaw := fun s t h hs => by
  have hq : s.line.queue = t.line.queue := h .queue (by simp)
  unfold QueueLaw at hs ⊢
  rwa [← hq]

theorem queueLaw_of_booked {s t : State} (h : Booked s t) (hs : QueueLaw s) : QueueLaw t := by
  unfold QueueLaw at hs ⊢
  cases h with
  | same hq => rwa [hq]
  | presented _ hq => rw [hq]; exact enqueue_ok _ hs
  | removed _ hq => rw [hq]; exact queueOk_sublist hs List.filter_sublist
  | placed _ _ _ _ hq => rwa [hq]
  | amended _ _ hq => rwa [hq]

theorem queueLaw_of_turn {ps : List Part} (hd : Part.apart [.queue, .slots] (Part.plain ++ ps) = true) (s t : State)
    (h : Turn ps s t) : QueueLaw s → QueueLaw t := queueLaw_of_booked (h.booked hd)

end Sys2Proof.Machine
end

section
/-! PROOF. The transmit queue's law, the register's law, and the law of the entries queued (R65 to R68, R95, R109, R110, R114). -/

namespace Sys2Proof.Machine

open Sys2Proof

/-! ## Joining the queue (R65 to R67) -/

/-- In an ordered queue an entry takes its place after those of its class or a lower one. -/
theorem insertEntry_eq (e : Bulletin) : ∀ {q : List Bulletin}, q.Pairwise (fun a b => a.cls ≤ b.cls) →
    insertEntry e q = q.filter (fun x => decide (x.cls ≤ e.cls)) ++ e :: q.filter (fun x => decide (e.cls < x.cls))
  | [], _ => rfl
  | x :: rest, h => by
    obtain ⟨hx, hrest⟩ := List.pairwise_cons.mp h
    unfold insertEntry
    split
    · next hle =>
      rw [insertEntry_eq e hrest, List.filter_cons_of_pos (by simpa using hle),
        List.filter_cons_of_neg (by simpa using hle)]
      rfl
    · next hgt =>
      have hall : ∀ y ∈ x :: rest, e.cls < y.cls := by
        intro y hy
        rcases List.mem_cons.mp hy with rfl | hy
        · omega
        · have := hx y hy
          omega
      rw [List.filter_eq_nil_iff.mpr fun y hy => by simpa using hall y hy,
        List.filter_eq_self.mpr fun y hy => by simpa using hall y hy]
      rfl

theorem mem_of_mem_enqueue {e x : Bulletin} {q : List Bulletin} (h : x ∈ enqueue e q) : x = e ∨ x ∈ q := by
  have hins : ∀ {l : List Bulletin}, x ∈ insertEntry e l → x = e ∨ x ∈ l := fun hx =>
    List.mem_cons.mp ((insertEntry_perm e _).mem_iff.mp hx)
  unfold enqueue at h
  split at h
  · exact .inr h
  · split at h
    · exact hins h
    · split at h
      · split at h
        · exact (hins h).imp id List.mem_of_mem_dropLast
        · exact .inr h
      · exact hins h

/-- R65 to R67: what an entry presented to an ordered queue makes of it. -/
theorem enqueue_spec (e : Bulletin) (q : List Bulletin) (hq : q.Pairwise (fun a b => a.cls ≤ b.cls)) :
    let joined : List Bulletin → List Bulletin := fun q =>
      q.filter (fun x => decide (x.cls ≤ e.cls)) ++ e :: q.filter (fun x => decide (e.cls < x.cls))
    (e ∈ q → enqueue e q = q)
      ∧ (e ∉ q → q.length < 12 → enqueue e q = joined q)
      ∧ (∀ w, e ∉ q → 12 ≤ q.length → q.getLast? = some w →
          enqueue e q = if e.cls < w.cls then joined q.dropLast else q) := by
  refine ⟨fun h => if_pos h, fun h hl => ?_, fun w h hl hw => ?_⟩
  · rw [enqueue, if_neg h, if_pos hl, insertEntry_eq e hq]
  · rw [enqueue, if_neg h, if_neg (by omega), hw]
    exact if_congr Iff.rfl (insertEntry_eq e (hq.sublist (List.dropLast_sublist q))) rfl

/-! ## The queue's law -/

theorem queue_attemptStart_sublist (s : State) : (outcome .attemptStart s).line.queue.Sublist s.line.queue := by
  have hflight : ∀ (e : Bulletin) (t : State), (enterFlight e t).line.queue = t.line.queue := fun e t =>
    (frame_enterFlight e t .queue (by decide)).symm
  dsimp only [outcome, exec, execAttemptStart]
  split
  · split
    · exact List.Sublist.refl _
    · split
      · next e rest hq =>
        rw [hq]
        unfold firstAttempt
        split
        · rw [followQueue_queue]
          exact List.sublist_cons_self e rest
        · rw [hflight]
          exact List.sublist_cons_self e rest
      · exact List.Sublist.refl _
  · exact List.Sublist.refl _

theorem queueLaw_outcome (c : Instr) (s : State) (hs : QueueLaw s) : QueueLaw (outcome c s) := by
  have hreset : ∀ a r w m, QueueLaw (resetWith a r w m s) := fun _ _ _ _ => ⟨by simp [resetWith, State.reset, Line.reset],
    by simp [resetWith, State.reset, Line.reset], by simp [resetWith, State.reset, Line.reset]⟩
  have hturn : ∀ qs : List Part, Part.apart [.queue, .slots] (Part.plain ++ qs) = true → ∀ a b, Turn qs a b →
      QueueLaw a → QueueLaw b := fun qs h => queueLaw_of_turn h
  cases c with
  | powerOnReset a r => exact hreset a r _ _
  | warmReset a r => exact hreset a r _ _
  | attemptStart => exact queueOk_sublist hs (queue_attemptStart_sublist s)
  | _ => exact keep_of_turns hturn rfl hs

/-- R65, R66: every step keeps the queue's law. -/
theorem queueLaw_kept : KeptByEveryStep QueueLaw :=
  keptByEveryStep_of (fun _ _ h => h) queueLaw_outcome
    (advance_keeps (fun s => supports_queueLaw.keep (frame_advanceTick s) rfl) (fun _ _ h => h)
      (fun s => supports_queueLaw.keep (frame_secondTimers s) rfl)
      (fun s => (turns_secondQuiet (ps := []) s).keep (queueLaw_of_turn rfl)))

/-- Settles O5: every turn keeps the queue's law, and `enqueue` is read branch by branch. -/
theorem transmitQueueLawIsKept : Obligations.TransmitQueueLawIsKept := by
  refine ⟨queueLaw_kept, fun e q hq => ?_⟩
  obtain ⟨hin, hroom, hfull⟩ := enqueue_spec e q hq
  exact ⟨hin, hroom, hfull, by cases e <;> rfl⟩

/-! ## The register's law (R95, R109) -/

theorem indexed_pairwise : ∀ (k : Nat) (l : List (Option ClosureRecord)),
    (indexed k l).Pairwise (fun p q => p.1 < q.1) ∧ ∀ p ∈ indexed k l, k ≤ p.1
  | _, [] => ⟨List.Pairwise.nil, by simp [indexed]⟩
  | k, some r :: rest => by
    obtain ⟨hp, hle⟩ := indexed_pairwise (k + 1) rest
    refine ⟨List.pairwise_cons.mpr ⟨fun p hm => Nat.lt_of_succ_le (hle p hm), hp⟩, fun p hm => ?_⟩
    rcases List.mem_cons.mp hm with rfl | hm
    · exact le_refl k
    · exact (Nat.le_succ k).trans (hle p hm)
  | k, none :: rest => by
    obtain ⟨hp, hle⟩ := indexed_pairwise (k + 1) rest
    exact ⟨hp, fun p hm => (Nat.le_succ k).trans (hle p hm)⟩

/-- The records' ids are distinct exactly when no two places hold one id. -/
theorem records_ids_nodup_iff (s : State) : (s.records.map (fun p => p.2.id)).Nodup
    ↔ ∀ i j q r, s.recordAt i = some q → s.recordAt j = some r → q.id = r.id → i = j := by
  have hnodup : s.records.Nodup := (indexed_pairwise 0 _).1.imp fun h e => by
    rw [e] at h
    exact lt_irrefl _ h
  rw [List.nodup_map_iff_inj_on hnodup]
  constructor
  · intro h i j q r hi hj hid
    have := h (i, q) (mem_records.mpr hi) (j, r) (mem_records.mpr hj) hid
    exact congrArg Prod.fst this
  · rintro h ⟨i, q⟩ hi ⟨j, r⟩ hj hid
    obtain rfl := h i j q r (mem_records.mp hi) (mem_records.mp hj) hid
    have := (mem_records.mp hi).symm.trans (mem_records.mp hj)
    rw [Option.some.inj this]

/-- What the register's law asks of a record held. -/
def RecordOk (address : Byte) (r : ClosureRecord) : Prop :=
  (r.own = true ↔ r.id.origin = address) ∧ (r.own = true → r.stale = false ∧ r.age = 0)

/-- The register's law, by places. -/
theorem registerLaw_iff (s : State) : RegisterLaw s ↔ s.register.slots.length = 16
    ∧ (∀ i j q r, s.recordAt i = some q → s.recordAt j = some r → q.id = r.id → i = j)
    ∧ ∀ i r, s.recordAt i = some r → RecordOk s.startup.address r := by
  unfold RegisterLaw
  rw [records_ids_nodup_iff]
  refine and_congr_right fun _ => and_congr_right fun _ => ⟨fun h i r hr => h (i, r) (mem_records.mpr hr), ?_⟩
  rintro h ⟨i, r⟩ hm
  exact h i r (mem_records.mp hm)

theorem recordAt_of_set {s t : State} {i : Nat} {x : Option ClosureRecord} (h : t.register.slots = s.register.slots.set i x)
    (hi : i < s.register.slots.length) (j : Nat) : t.recordAt j = if j = i then x else s.recordAt j :=
  (recordAt_congr (s := s.setSlot i x) h j).trans (recordAt_setSlot s i j x hi)

theorem registerLaw_congr {s t : State} (hs : t.register.slots = s.register.slots)
    (ha : t.startup.address = s.startup.address) (h : RegisterLaw s) : RegisterLaw t := by
  rw [registerLaw_iff] at h ⊢
  simp only [recordAt_congr hs]
  rwa [hs, ha]

theorem registerLaw_of_booked {s t : State} (h : Booked s t) (ha : t.startup.address = s.startup.address)
    (hs : RegisterLaw s) : RegisterLaw t := by
  cases h with
  | same _ hslots => exact registerLaw_congr hslots ha hs
  | presented _ _ hslots => exact registerLaw_congr hslots ha hs
  | @removed i r h _ hslots =>
    obtain ⟨hlen, hinj, hok⟩ := (registerLaw_iff s).mp hs
    have hat := recordAt_of_set hslots (lt_length_of_recordAt h)
    have hold : ∀ j q, t.recordAt j = some q → s.recordAt j = some q := fun j q hq => by
      rw [hat] at hq
      split at hq
      · cases hq
      · exact hq
    refine (registerLaw_iff t).mpr ⟨by rw [hslots, List.length_set, hlen], ?_, fun j q hq => ha ▸ hok j q (hold j q hq)⟩
    exact fun j k q p hj hk => hinj j k q p (hold j q hj) (hold k p hk)
  | @placed i r hfree hfresh hown hnew _ hslots =>
    obtain ⟨hlen, hinj, hok⟩ := (registerLaw_iff s).mp hs
    have hi : i < s.register.slots.length := (List.getElem?_eq_some_iff.mp hfree).1
    have hat := recordAt_of_set hslots hi
    have hfresh := hfresh hlen.le
    refine (registerLaw_iff t).mpr ⟨by rw [hslots, List.length_set, hlen], fun j k q p hj hk hid => ?_, fun j q hq => ?_⟩
    · rw [hat] at hj hk
      split at hj <;> split at hk
      · next h1 h2 => exact h1.trans h2.symm
      · cases hj; exact absurd hid.symm (hfresh k p hk)
      · cases hk; exact absurd hid (hfresh j q hj)
      · exact hinj j k q p hj hk hid
    · rw [hat] at hq
      rw [ha]
      split at hq
      · cases hq; exact ⟨hown, fun _ => hnew⟩
      · exact hok j q hq
  | @amended i a b h hab _ hslots =>
    obtain ⟨hlen, hinj, hok⟩ := (registerLaw_iff s).mp hs
    obtain ⟨hid, hown, hnew⟩ := hab
    have hat := recordAt_of_set hslots (lt_length_of_recordAt h)
    have hold : ∀ j q, t.recordAt j = some q → ∃ p, s.recordAt j = some p ∧ p.id = q.id := fun j q hq => by
      rw [hat] at hq
      split at hq
      · next e => cases hq; exact ⟨a, e ▸ h, hid.symm⟩
      · exact ⟨q, hq, rfl⟩
    refine (registerLaw_iff t).mpr ⟨by rw [hslots, List.length_set, hlen], fun j k q p hj hk he => ?_, fun j q hq => ?_⟩
    · obtain ⟨q', hq', hqid⟩ := hold j q hj
      obtain ⟨p', hp', hpid⟩ := hold k p hk
      exact hinj j k q' p' hq' hp' (by rw [hqid, hpid, he])
    · rw [hat] at hq
      rw [ha]
      split at hq
      · cases hq
        obtain ⟨h1, h2⟩ := hok i a h
        rw [← hid, ← hown] at h1
        exact ⟨h1, fun ho => hnew (hown ▸ ho) (h2 (hown ▸ ho))⟩
      · exact hok j q hq

theorem registerLaw_of_turn {ps : List Part} (hd : Part.apart [.settings, .queue, .slots] (Part.plain ++ ps) = true)
    (s t : State) (h : Turn ps s t) : RegisterLaw s → RegisterLaw t := by
  have hset : Part.settings ∉ ps := fun hm => Part.not_mem_of_apart hd (by simp) (List.mem_append_right _ hm)
  refine registerLaw_of_booked (h.booked ?_) (h.settings_eq hset).2.2
  unfold Part.apart at hd ⊢
  rw [List.all_cons, Bool.and_eq_true] at hd
  exact hd.2

/-- The register's places a second later. -/
theorem recordAt_secondTimers (s : State) (i : Nat) : (secondTimers s).recordAt i
    = if s.phase.operating then (s.recordAt i).map ClosureRecord.second else s.recordAt i := by
  have hslots : (secondTimers s).register.slots
      = if s.phase.operating then s.register.slots.map (Option.map ClosureRecord.second) else s.register.slots := by
    unfold secondTimers secondServing
    cases s.phase.operating <;> cases s.phase.serving <;> rfl
  unfold State.recordAt
  rw [hslots]
  split
  · rw [List.getElem?_map]
    cases s.register.slots[i]? with
    | none => rfl
    | some x => cases x <;> rfl
  · rfl

theorem length_secondTimers (s : State) : (secondTimers s).register.slots.length = s.register.slots.length := by
  unfold secondTimers secondServing
  cases s.phase.operating <;> cases s.phase.serving <;> simp

/-- A record held a second later is one held before, with its id and own flag. -/
theorem recordAt_secondTimers_some {s : State} {i : Nat} {q : ClosureRecord} (h : (secondTimers s).recordAt i = some q) :
    ∃ r, s.recordAt i = some r ∧ q.id = r.id ∧ q.own = r.own ∧ q.stale = r.stale ∧ (r.own = true → q.age = r.age) := by
  rw [recordAt_secondTimers] at h
  split at h
  · obtain ⟨r, hr, rfl⟩ := Option.map_eq_some_iff.mp h
    exact ⟨r, hr, rfl, rfl, rfl, fun ho => by simp [ClosureRecord.second, ho]⟩
  · exact ⟨q, h, rfl, rfl, rfl, fun _ => rfl⟩

theorem registerLaw_secondTimers (s : State) (hs : RegisterLaw s) : RegisterLaw (secondTimers s) := by
  obtain ⟨hlen, hinj, hok⟩ := (registerLaw_iff s).mp hs
  refine (registerLaw_iff _).mpr ⟨(length_secondTimers s).trans hlen, fun i j q r hi hj hid => ?_, fun i q hq => ?_⟩
  · obtain ⟨q', hq', hqid, -⟩ := recordAt_secondTimers_some hi
    obtain ⟨r', hr', hrid, -⟩ := recordAt_secondTimers_some hj
    exact hinj i j q' r' hq' hr' (by rw [← hqid, ← hrid, hid])
  · obtain ⟨r, hr, hid, hown, hstale, hage⟩ := recordAt_secondTimers_some hq
    rw [((frame_secondTimers s).settings_eq (by decide)).2.2]
    obtain ⟨h1, h2⟩ := hok i r hr
    refine ⟨by rw [hid, hown]; exact h1, fun ho => ?_⟩
    rw [hown] at ho
    rw [hstale, hage ho]
    exact h2 ho

/-! ## The laws that look at the register and the address -/

/-- A law that looks at the address, the queue and the register's places, and that every turn keeps, is kept by the commands that
move the phase. -/
theorem keep_of_phase_change {supp : List Part} {law : State → Prop}
    (hturn : ∀ qs : List Part, Part.apart supp (Part.plain ++ qs) = true → ∀ s t, Turn qs s t → law s → law t)
    (hstart : ∀ (s : State) (x : Startup), x.address = s.startup.address → law s → law (s.withStartup x))
    (hd : Part.apart supp (Part.plain ++ [.signs, .signLinks, .gateUnits, .key]) = true)
    (hnil : Part.apart supp (Part.plain ++ []) = true) (s : State) (hs : law s) :
    (∀ a, law (outcome (.configurationReadEnd a) s)) ∧ law (outcome .settlingStart s) ∧ law (outcome .runningEntry s) := by
  refine ⟨fun a => ?_, ?_, ?_⟩
  · by_cases h : s.phase = .configRead
    · obtain ⟨x, ha, -, -, ht⟩ := turns_configurationReadEnd (a := a) h
      exact ht.keep (hturn _ hd) (hstart s x ha hs)
    · rw [configurationReadEnd_eq_self h]
      exact hs
  · by_cases h : s.phase = .joining ∧ 10 ≤ s.now
    · exact (turns_settlingStart (ps := []) h).keep (hturn _ hnil) (hstart s _ rfl hs)
    · rw [settlingStart_eq_self h]
      exact hs
  · by_cases h : s.phase = .settling ∧ 70 ≤ s.now
    · exact (turns_runningEntry (ps := []) h).keep (hturn _ hnil) (hstart s _ rfl hs)
    · rw [runningEntry_eq_self h]
      exact hs

theorem recordAt_resetWith (a : BitVec 5) (r : BitVec 2) (w : Bool) (m : Retained) (s : State) (i : Nat) :
    (resetWith a r w m s).recordAt i = none := by
  show (List.replicate 16 (none : Option ClosureRecord))[i]?.join = none
  rw [List.getElem?_replicate]
  split <;> rfl

theorem registerLaw_resetWith (a : BitVec 5) (r : BitVec 2) (w : Bool) (m : Retained) (s : State) :
    RegisterLaw (resetWith a r w m s) := by
  refine (registerLaw_iff _).mpr ⟨rfl, fun i j q r' hq => ?_, fun i q hq => ?_⟩
  all_goals rw [recordAt_resetWith] at hq; cases hq

theorem registerLaw_outcome (c : Instr) (s : State) (hs : RegisterLaw s) : RegisterLaw (outcome c s) := by
  have hturn : ∀ qs : List Part, Part.apart [.settings, .queue, .slots] (Part.plain ++ qs) = true →
    ∀ a b, Turn qs a b → RegisterLaw a → RegisterLaw b := fun qs h => registerLaw_of_turn h
  obtain ⟨hread, hsettling, hrunning⟩ := keep_of_phase_change hturn
    (fun s x ha h => registerLaw_congr (s := s) (t := s.withStartup x) rfl ha h) rfl rfl s hs
  cases c with
  | powerOnReset a r => exact registerLaw_resetWith a r _ _ s
  | warmReset a r => exact registerLaw_resetWith a r _ _ s
  | configurationReadEnd a => exact hread a
  | settlingStart => exact hsettling
  | runningEntry => exact hrunning
  | attemptStart =>
    have hf := frame_outcome .attemptStart s
    exact registerLaw_congr (hf.slots_eq (by decide)) (hf.settings_eq (by decide)).2.2 hs
  | _ => exact keep_of_turns hturn rfl hs

theorem registerLaw_advance (s : State) (hs : RegisterLaw s) : RegisterLaw (advance s) := by
  refine advance_keeps (fun s h => ?_) (fun _ _ h => h) registerLaw_secondTimers
    (fun s => (turns_secondQuiet (ps := []) s).keep (registerLaw_of_turn rfl)) s hs
  have hf := frame_advanceTick s
  exact registerLaw_congr (hf.slots_eq (by decide)) (hf.settings_eq (by decide)).2.2 h

/-- Settles O7: every turn keeps the register's law, and a second ages no own record. -/
theorem registerLawIsKept : Obligations.RegisterLawIsKept :=
  keptByEveryStep_of (fun _ _ h => h) registerLaw_outcome registerLaw_advance

/-! ## The laws of the entries queued (R68, R110, R114) -/

/-- Whether every record held before is still held, perhaps changed. -/
def IdsKept (s t : State) : Prop := ∀ i r, s.recordAt i = some r → ∃ q, t.recordAt i = some q ∧ q.id = r.id

theorem idsKept_of_slots {s t : State} (h : t.register.slots = s.register.slots) : IdsKept s t := fun i r hr =>
  ⟨r, recordAt_congr h i ▸ hr, rfl⟩

theorem idsKept_secondTimers (s : State) : IdsKept s (secondTimers s) := fun i r hr => by
  rw [recordAt_secondTimers, hr]
  split
  · exact ⟨_, rfl, rfl⟩
  · exact ⟨r, rfl, rfl⟩

theorem idsKept_of_placed {s t : State} {i : Nat} {r : ClosureRecord} (hfree : s.register.slots[i]? = some none)
    (hslots : t.register.slots = s.register.slots.set i (some r)) : IdsKept s t := fun j q hj => by
  refine ⟨q, ?_, rfl⟩
  rw [recordAt_of_set hslots (List.getElem?_eq_some_iff.mp hfree).1]
  split
  · next e =>
    rw [e, State.recordAt, hfree] at hj
    cases hj
  · exact hj

theorem idsKept_of_amended {s t : State} {i : Nat} {a b : ClosureRecord} (h : s.recordAt i = some a) (hid : b.id = a.id)
    (hslots : t.register.slots = s.register.slots.set i (some b)) : IdsKept s t := fun j q hj => by
  rw [recordAt_of_set hslots (lt_length_of_recordAt h)]
  split
  · next e =>
    rw [e, h] at hj
    cases hj
    exact ⟨b, rfl, hid⟩
  · exact ⟨q, hj, rfl⟩

/-- A record other than the one that leaves is still held. -/
theorem recordAt_of_removed {s t : State} {i j : Nat} {r q : ClosureRecord} (h : s.recordAt i = some r)
    (hslots : t.register.slots = s.register.slots.set i none) (hj : s.recordAt j = some q) (hne : q.id ≠ r.id) :
    t.recordAt j = some q := by
  rw [recordAt_of_set hslots (lt_length_of_recordAt h)]
  split
  · next e =>
    rw [e, h] at hj
    cases hj
    exact absurd rfl hne
  · exact hj

theorem entryLaw_iff (s : State) : EntryLaw s ↔ ∀ id, Bulletin.closure id ∈ s.line.queue ∨ Bulletin.alert id ∈ s.line.queue →
    ∃ i r, s.recordAt i = some r ∧ r.id = id := by
  unfold EntryLaw
  simp only [findRecord_isSome_iff]

/-- Both laws are kept by what takes entries out of the queue and keeps the ids held. -/
theorem alertLaw_sublist {s t : State} (hq : t.line.queue.Sublist s.line.queue)
    (ha : t.startup.address = s.startup.address) (hs : AlertLaw s) : AlertLaw t := fun id hid => by
  rw [ha]
  exact hs id (hq.subset hid)

theorem entryLaw_sublist {s t : State} (hq : t.line.queue.Sublist s.line.queue)
    (hid : IdsKept s t) (hs : EntryLaw s) : EntryLaw t := by
  rw [entryLaw_iff] at hs ⊢
  intro id hmem
  obtain ⟨i, r, hr, hrid⟩ := hs id (hmem.imp (fun h => hq.subset h) (fun h => hq.subset h))
  obtain ⟨q, hq, hqid⟩ := hid i r hr
  exact ⟨i, q, hq, hqid.trans hrid⟩

theorem alertLaw_of_booked {s t : State} (h : Booked s t) (ha : t.startup.address = s.startup.address)
    (hr : RegisterLaw s) (hs : AlertLaw s) : AlertLaw t := by
  cases h with
  | same hq => exact alertLaw_sublist (hq ▸ .refl _) ha hs
  | placed _ _ _ _ hq => exact alertLaw_sublist (hq ▸ .refl _) ha hs
  | amended _ _ hq => exact alertLaw_sublist (hq ▸ .refl _) ha hs
  | removed _ hq => exact alertLaw_sublist (hq ▸ List.filter_sublist) ha hs
  | presented hsend hq =>
    intro id hid
    rw [ha]
    rw [hq] at hid
    rcases mem_of_mem_enqueue hid with rfl | hid
    · obtain ⟨i, r, hi, rfl, hown⟩ := hsend id (.inr rfl)
      obtain ⟨-, -, hok⟩ := (registerLaw_iff s).mp hr
      exact (hok i r hi).1.mp (hown rfl)
    · exact hs id hid

theorem entryLaw_of_booked {s t : State} (h : Booked s t) (hs : EntryLaw s) : EntryLaw t := by
  cases h with
  | same hq hslots => exact entryLaw_sublist (hq ▸ .refl _) (idsKept_of_slots hslots) hs
  | placed hfree _ _ _ hq hslots => exact entryLaw_sublist (hq ▸ .refl _) (idsKept_of_placed hfree hslots) hs
  | amended h hab hq hslots => exact entryLaw_sublist (hq ▸ .refl _) (idsKept_of_amended h hab.1 hslots) hs
  | removed h hq hslots =>
    rw [entryLaw_iff] at hs ⊢
    intro id hmem
    simp only [hq, List.mem_filter, decide_eq_true_eq] at hmem
    obtain ⟨j, q, hj, rfl⟩ := hs id (hmem.imp And.left And.left)
    refine ⟨j, q, recordAt_of_removed h hslots hj fun e => ?_, rfl⟩
    simp [e] at hmem
  | @presented e hsend hq hslots =>
    rw [entryLaw_iff] at hs ⊢
    intro id hmem
    simp only [recordAt_congr hslots]
    have hcases : (e = .closure id ∨ e = .alert id) ∨ Bulletin.closure id ∈ s.line.queue ∨ Bulletin.alert id ∈ s.line.queue := by
      rw [hq] at hmem
      rcases hmem with hm | hm <;> rcases mem_of_mem_enqueue hm with h | h
      · exact .inl (.inl h.symm)
      · exact .inr (.inl h)
      · exact .inl (.inr h.symm)
      · exact .inr (.inr h)
    rcases hcases with he | hold
    · obtain ⟨i, r, hi, hid, -⟩ := hsend id he
      exact ⟨i, r, hi, hid⟩
    · exact hs id hold

/-- A law of the entries queued, of which a register is the ground, is kept by every step together with the register's law. -/
theorem kept_with_register {law : State → Prop}
    (hbooked : ∀ {s t}, Booked s t → t.startup.address = s.startup.address → RegisterLaw s → law s → law t)
    (hshrink : ∀ {s t}, t.line.queue.Sublist s.line.queue → t.startup.address = s.startup.address → IdsKept s t → law s →
      law t)
    (hempty : ∀ s, s.line.queue = [] → law s) : KeptByEveryStep (fun s => RegisterLaw s ∧ law s) := by
  have hturn : ∀ qs : List Part, Part.apart [.settings, .queue, .slots] (Part.plain ++ qs) = true →
      ∀ a b, Turn qs a b → RegisterLaw a ∧ law a → RegisterLaw b ∧ law b := fun qs hd a b h hl => by
    have hset : Part.settings ∉ qs := fun hm => Part.not_mem_of_apart hd (by simp) (List.mem_append_right _ hm)
    have hd' : Part.apart [.queue, .slots] (Part.plain ++ qs) = true := by
      unfold Part.apart at hd ⊢
      rw [List.all_cons, Bool.and_eq_true] at hd
      exact hd.2
    exact ⟨registerLaw_of_turn hd a b h hl.1, hbooked (h.booked hd') (h.settings_eq hset).2.2 hl.1 hl.2⟩
  refine keptByEveryStep_of (fun s x h => ⟨h.1, hshrink (s := s) (.refl _) rfl (idsKept_of_slots rfl) h.2⟩)
    (fun c s hs => ?_) (fun s hs => ?_)
  · obtain ⟨hread, hsettling, hrunning⟩ := keep_of_phase_change hturn
      (fun s x ha h => ⟨registerLaw_congr (s := s) (t := s.withStartup x) rfl ha h.1,
        hshrink (s := s) (t := s.withStartup x) (.refl _) ha (idsKept_of_slots rfl) h.2⟩) rfl rfl s hs
    cases c with
    | powerOnReset a r => exact ⟨registerLaw_resetWith a r _ _ s, hempty _ rfl⟩
    | warmReset a r => exact ⟨registerLaw_resetWith a r _ _ s, hempty _ rfl⟩
    | configurationReadEnd a => exact hread a
    | settlingStart => exact hsettling
    | runningEntry => exact hrunning
    | attemptStart =>
      have hf := frame_outcome .attemptStart s
      exact ⟨registerLaw_outcome _ s hs.1, hshrink (queue_attemptStart_sublist s) (hf.settings_eq (by decide)).2.2
        (idsKept_of_slots (hf.slots_eq (by decide))) hs.2⟩
    | _ => exact keep_of_turns hturn rfl hs
  · have hframe : ∀ {ps : List Part} {a b : State}, Frame ps a b → Part.queue ∉ ps → Part.settings ∉ ps → IdsKept a b →
        law a → law b := fun hf hq hset hids =>
      hshrink (by rw [hf .queue hq]) (hf.settings_eq hset).2.2 hids
    refine ⟨registerLaw_advance s hs.1, (advance_keeps (law := fun s => RegisterLaw s ∧ law s) (fun s h => ?_)
      (fun s x h => ⟨h.1, hshrink (s := s) (.refl _) rfl (idsKept_of_slots rfl) h.2⟩) (fun s h => ?_)
      (fun s => (turns_secondQuiet (ps := []) s).keep (hturn _ rfl)) s hs).2⟩
    · have hf := frame_advanceTick s
      exact ⟨registerLaw_congr (hf.slots_eq (by decide)) (hf.settings_eq (by decide)).2.2 h.1,
        hframe hf (by decide) (by decide) (idsKept_of_slots (hf.slots_eq (by decide))) h.2⟩
    · exact ⟨registerLaw_secondTimers s h.1,
        hframe (frame_secondTimers s) (by decide) (by decide) (idsKept_secondTimers s) h.2⟩

/-- Settles O8: an entry joins the queue for a record held, an ALERT for an own one, and leaves it with its record. -/
theorem queuedAlertsStayOwn : Obligations.QueuedAlertsStayOwn := by
  constructor
  · refine kept_with_register alertLaw_of_booked (fun hq ha _ => alertLaw_sublist hq ha) (fun s hq id hid => ?_)
    rw [hq] at hid
    cases hid
  · refine kept_with_register (fun h _ _ => entryLaw_of_booked h) (fun hq _ hids => entryLaw_sublist hq hids)
      (fun s hq id hid => ?_)
    rw [hq] at hid
    rcases hid with hid | hid <;> cases hid

end Sys2Proof.Machine
end

section
/-! PROOF. The law of the displayed-since maps (R138) and the law of the sign link (R142, R143, R146, R150), with the blocks that stand
at their reset values outside operation. -/

namespace Sys2Proof.Machine

open Sys2Proof

/-! ## How a transfer's ending moves its sign -/

/-- R146, R138: a sign that has come to FAULT, its displayed-since map emptied. -/
def faulted (n : Sign) (s : State) : State :=
  forgetDisplayed n (s.setSignLink n { s.link.signs.get n with health := .fault, failures := 3, probe := .counting 0 })

/-- R146: a failure below the third in a row: the failed page set is pending again unless a newer one is. -/
def failedOnce (t : Transfer) (s : State) : State :=
  let k := s.link.signs.get t.sign
  s.setSignLink t.sign
    { k with failures := min (k.failures + 1) 3, waiting := if k.waiting.isSome then k.waiting else some t.pages }

/-- R149: a failed probe. -/
def probeFailed (n : Sign) (s : State) : State :=
  s.setSignLink n { s.link.signs.get n with failures := 3, probe := .counting 0 }

/-- R146: what a failure makes of the sign's health and run, before the reports of a FAULT. -/
inductive Failure (t : Transfer) (s : State) : State → Prop
  | unfitted (h : s.health t.sign = .notFitted) : Failure t s s
  | probe (h : s.health t.sign = .fault) : Failure t s (probeFailed t.sign s)
  | once (h1 : s.health t.sign ≠ .fault) (h2 : s.health t.sign ≠ .notFitted)
      (h3 : min ((s.link.signs.get t.sign).failures + 1) 3 ≠ 3) : Failure t s (failedOnce t s)
  | third (h2 : s.health t.sign ≠ .notFitted) : Failure t s (faulted t.sign s)

theorem countFailure_spec (t : Transfer) (s : State) : ∃ u, Failure t s u ∧ Turns [] u (countFailure t s) := by
  unfold countFailure
  dsimp only
  split
  · next h => exact ⟨s, .unfitted h, .refl s⟩
  · next h => exact ⟨_, .probe h, .refl _⟩
  · next h1 h2 =>
    split
    · refine ⟨faulted t.sign s, .third fun e => h1 e, ?_⟩
      exact (turns_signReport _ _).trans ((turns_status _).trans (turns_judgeQuiet _))
    · next h3 => exact ⟨_, .once (fun e => h2 e) (fun e => h1 e) h3, .refl _⟩

/-- R147: a sign whose transfer succeeded. -/
def succeeded (n : Sign) (s : State) : State :=
  s.setSignLink n { s.link.signs.get n with health := .ok, failures := 0, probe := .stopped }

theorem health_succeeded (n : Sign) (s : State) : (succeeded n s).health n = .ok := by
  simp [succeeded, State.health]

theorem countSuccessful_turns (t : Transfer) (s : State) : Turns [] (succeeded t.sign s) (countSuccessful t s) := by
  unfold countSuccessful
  dsimp only
  split
  · exact turns_reportAck (health_succeeded _ s)
  · exact (turns_reportOk _ _ _).trans
      (turns_reportAck (((turns_reportOk _ _ _).health_eq _).trans (health_succeeded _ s)))

/-- R148: a refusal is an evaluation, after which the probe of a sign in FAULT may be due. -/
theorem countRefusal_spec (t : Transfer) (p : BitVec 4) (s : State) : ∃ u, Turns [] s u ∧ (countRefusal t p s = u
    ∨ u.health t.sign = .fault ∧ countRefusal t p s = u.setSignLink t.sign { u.link.signs.get t.sign with probe := .due }) := by
  refine ⟨_, (Turn.refuse t.sign (refuseTemplate (refusedTemplate t.pages p) (s.signs.get t.sign).refused) s).turns.trans
    (turns_evaluateSign t.sign _), ?_⟩
  unfold countRefusal
  dsimp only
  split
  · next h => exact .inr ⟨h.2, rfl⟩
  · exact .inl rfl

theorem awaited_spec {s : State} {a : BitVec 4} {t : Transfer} (h : s.awaited a = some t) :
    s.link.transfer = some t ∧ (s.link.state = .awaiting ∨ s.link.state = .pausedAwaiting) ∧ a.toNat = signAddress t.sign := by
  unfold State.awaited at h
  split at h
  · next x hx =>
    split at h
    · next hc =>
      cases h
      exact ⟨hx, hc⟩
    · cases h
  · cases h

/-- A law that every turn keeps and each of the moves above keeps; `fit` is what the law says of the sign of a transfer. -/
structure KeptByTransfers (law : State → Prop) (fit : Sign → State → Prop) : Prop where
  turn : ∀ s t, Turn [] s t → law s → law t
  ended : ∀ {s t}, s.link.transfer = some t → law s → law (endTransfer s) ∧ fit t.sign (endTransfer s)
  failure : ∀ {t s u}, Failure t s u → law s → law u
  success : ∀ {n s}, fit n s → law s → law (succeeded n s)
  due : ∀ {n s}, s.health n = .fault → law s → law (s.setSignLink n { s.link.signs.get n with probe := .due })

variable {law : State → Prop} {fit : Sign → State → Prop} {s : State}

theorem KeptByTransfers.turns (h : KeptByTransfers law fit) {t : State} (ht : Turns [] s t) (hs : law s) : law t :=
  ht.keep h.turn hs

theorem KeptByTransfers.failTransfer (h : KeptByTransfers law fit) {t : Transfer} (ht : s.link.transfer = some t)
    (hs : law s) : law (failTransfer t s) := by
  obtain ⟨u, hu, hturns⟩ := countFailure_spec t (endTransfer s)
  exact h.turns (turns_arbitrate _) (h.turns hturns (h.failure hu (h.ended ht hs).1))

theorem KeptByTransfers.ackReceived (h : KeptByTransfers law fit) (hs : law s) (a : BitVec 4) (c : Word16) :
    law (outcome (.ackReceived a c) s) := by
  dsimp only [outcome, exec, execAckReceived]
  split
  · next t ha =>
    obtain ⟨ht, -⟩ := awaited_spec ha
    obtain ⟨hend, hfit⟩ := h.ended ht hs
    split
    · exact h.turns (turns_arbitrate _) (h.turns (countSuccessful_turns t _) (h.success hfit hend))
    · exact h.failTransfer ht hs
  · exact hs

theorem KeptByTransfers.nakUnknownTemplate (h : KeptByTransfers law fit) (hs : law s) (a p : BitVec 4) :
    law (outcome (.nakUnknownTemplate a p) s) := by
  dsimp only [outcome, exec, execNakUnknownTemplate]
  split
  · next t ha =>
    obtain ⟨ht, -⟩ := awaited_spec ha
    obtain ⟨u, hturns, hu⟩ := countRefusal_spec t p (endTransfer s)
    have hlaw := h.turns hturns (h.ended ht hs).1
    refine h.turns (turns_arbitrate _) ?_
    rcases hu with hu | ⟨hfault, hu⟩
    · rw [hu]; exact hlaw
    · rw [hu]; exact h.due hfault hlaw
  · exact hs

theorem KeptByTransfers.nakBadFormat (h : KeptByTransfers law fit) (hs : law s) (a p : BitVec 4) :
    law (outcome (.nakBadFormat a p) s) := by
  dsimp only [outcome, exec, execNakBadFormat]
  split
  · next t ha => exact h.failTransfer (awaited_spec ha).1 hs
  · exact hs

theorem KeptByTransfers.replyTimeout (h : KeptByTransfers law fit) (hs : law s) : law (outcome .replyTimeout s) := by
  dsimp only [outcome, exec, execReplyTimeout]
  split
  · next t ht =>
    split
    · exact h.failTransfer ht hs
    · exact hs
  · exact hs

theorem KeptByTransfers.pauseLimit (h : KeptByTransfers law fit) (hs : law s) : law (outcome .pauseLimit s) := by
  dsimp only [outcome, exec, execPauseLimit]
  split
  · next t ht =>
    split
    · exact h.failTransfer ht hs
    · exact hs
  · exact hs

theorem KeptByTransfers.probeDue (h : KeptByTransfers law fit) (hs : law s) (n : Sign) : law (outcome (.probeDue n) s) := by
  dsimp only [outcome, exec, execProbeDue]
  split
  · split
    · next hc =>
      rw [Bool.and_eq_true, decide_eq_true_eq] at hc
      exact h.turns (turns_arbitrate _) (h.due hc.2.1 hs)
    · exact hs
  · exact hs

end Sys2Proof.Machine
end

section
/-! PROOF. The displayed-since maps (R137, R138): what each turn makes of them, and their law. -/

namespace Sys2Proof.Machine

open Sys2Proof

/-! ## The end of the configuration read in two stages -/

/-- R182: the blocks as they start in JOINING, before the hazard unit evaluates the ring. -/
def joiningBlocks (image : List Byte) (substituted : Bool) (checksum : Word16) (s : State) : State :=
  let k := configOf image
  let c := channelsAtStart k.channels s.pins.sense
  let s1 := startLineAndClock (s.withStartup { s.startup with
    phase := .joining, image := some image, config := k, substituted := substituted || c.2,
    retainedValid := retainedValid s.startup.warm s.retained checksum })
  let s2 := ((s1.withRetained (judgeRetained s.startup.warm s.retained checksum)).withChannels c.1).withSlide
    (slideAtStart s.pins.contact)
  let s3 := (s2.withGates (gatesAtStart s k.fitted)).withSigns ⟨signAtStart k .s1, signAtStart k .s2, signAtStart k .s3⟩
  s3.withLink { s3.link with signs := ⟨signLinkAtStart k .s1, signLinkAtStart k .s2, signLinkAtStart k .s3⟩ }

theorem enterJoining_eq (image : List Byte) (substituted : Bool) (checksum : Word16) (s : State) :
    enterJoining image substituted checksum s = evaluateHazard false (joiningBlocks image substituted checksum s) := rfl

theorem signs_joiningBlocks (image : List Byte) (b : Bool) (x : Word16) (s : State) (n : Sign) :
    (joiningBlocks image b x s).signs.get n = signAtStart (configOf image) n := by
  cases n <;> rfl

theorem signLinks_joiningBlocks (image : List Byte) (b : Bool) (x : Word16) (s : State) (n : Sign) :
    (joiningBlocks image b x s).link.signs.get n = signLinkAtStart (configOf image) n := by
  cases n <;> rfl

/-- R182: the end of the configuration read enters CONFIG-FAULT, or JOINING with an evaluation. -/
theorem configurationReadEnd_cases (a : List Byte) {s : State} (h : s.phase = .configRead) :
    (∃ i b, outcome (.configurationReadEnd a) s = enterConfigFault i b s)
      ∨ ∃ i b x, outcome (.configurationReadEnd a) s = evaluateHazard false (joiningBlocks i b x s) := by
  rw [show outcome (.configurationReadEnd a) s = _ from if_pos h]
  split
  · exact .inl ⟨_, _, rfl⟩
  · exact .inr ⟨_, _, _, rfl⟩

/-! ## The law of the maps, sign by sign -/

/-- What R138 asks of one sign's map. -/
def DisplayOk (s : State) (n : Sign) (g : SignState) : Prop :=
  (∀ e ∈ g.displayed, s.health n = .ok ∧ (s.findRecord e.1).isSome = true
      ∧ ∃ ps, g.acknowledged = some ps ∧ e.1 ∈ ps.carried)
    ∧ g.displayed.length ≤ 2 ∧ (g.displayed.map Prod.fst).Nodup

theorem displayOk_of_empty {s : State} {n : Sign} {g : SignState} (h : g.displayed = []) : DisplayOk s n g := by
  unfold DisplayOk
  rw [h]
  exact ⟨fun e he => (List.not_mem_nil he).elim, Nat.zero_le _, List.nodup_nil⟩

theorem DisplayOk.mono {s t : State} {n : Sign} {g k : SignState} (h : DisplayOk s n g)
    (hhealth : s.health n = .ok → t.health n = .ok) (hheld : IdsKept s t) (hd : k.displayed = g.displayed)
    (ha : k.acknowledged = g.acknowledged) : DisplayOk t n k := by
  obtain ⟨hall, hlen, hnodup⟩ := h
  unfold DisplayOk
  rw [hd, ha]
  refine ⟨fun e he => ?_, hlen, hnodup⟩
  obtain ⟨hok, hfound, hack⟩ := hall e he
  obtain ⟨i, r, hr, hid⟩ := findRecord_isSome_iff.mp hfound
  obtain ⟨q, hq, hqid⟩ := hheld i r hr
  exact ⟨hhealth hok, findRecord_isSome_iff.mpr ⟨i, q, hq, hqid.trans hid⟩, hack⟩

theorem displayLaw_mono {s t : State} (hs : DisplayLaw s) (hhealth : ∀ n, s.health n = .ok → t.health n = .ok)
    (hheld : IdsKept s t) (hd : ∀ n, (t.signs.get n).displayed = (s.signs.get n).displayed)
    (ha : ∀ n, (t.signs.get n).acknowledged = (s.signs.get n).acknowledged) : DisplayLaw t :=
  fun n => DisplayOk.mono (hs n) (hhealth n) hheld (hd n) (ha n)

/-- One sign changes: the law holds if it holds of that sign as it becomes. -/
theorem displayLaw_setSign {s : State} (hs : DisplayLaw s) (n : Sign) {g : SignState} (hg : DisplayOk s n g) :
    DisplayLaw (s.setSign n g) := by
  intro m
  show DisplayOk s m ((s.signs.set n g).get m)
  by_cases h : m = n
  · subst h
    rw [PerSign.get_set_same]
    exact hg
  · rw [PerSign.get_set_other _ _ _ _ h]
    exact hs m

theorem displayLaw_setSign_same {s : State} (hs : DisplayLaw s) (n : Sign) {g : SignState}
    (hd : g.displayed = (s.signs.get n).displayed) (ha : g.acknowledged = (s.signs.get n).acknowledged) :
    DisplayLaw (s.setSign n g) :=
  displayLaw_setSign hs n (DisplayOk.mono (hs n) id (idsKept_of_slots rfl) hd ha)

theorem displayLaw_withLink {s : State} (hs : DisplayLaw s) (k : Link)
    (hhealth : ∀ n, s.health n = .ok → (k.signs.get n).health = .ok) : DisplayLaw (s.withLink k) :=
  displayLaw_mono (s := s) hs hhealth (idsKept_of_slots rfl) (fun _ => rfl) (fun _ => rfl)

theorem displayLaw_setSignLink {s : State} (hs : DisplayLaw s) (n : Sign) {k : SignLink}
    (h : s.health n = .ok → k.health = .ok) : DisplayLaw (s.setSignLink n k) := by
  refine displayLaw_withLink hs _ fun m hm => ?_
  show ((s.link.signs.set n k).get m).health = .ok
  by_cases hmn : m = n
  · subst hmn
    rw [PerSign.get_set_same]
    exact h hm
  · rw [PerSign.get_set_other _ _ _ _ hmn]
    exact hm

theorem displayLaw_frame {ps : List Part} {s t : State} (h : Frame ps s t)
    (hd : Part.apart [.slots, .signs, .signLinks] ps = true) (hs : DisplayLaw s) : DisplayLaw t := by
  have hsigns : s.signs = t.signs := h .signs (Part.not_mem_of_apart hd (by simp))
  have hlink : s.link.signs = t.link.signs := h .signLinks (Part.not_mem_of_apart hd (by simp))
  refine displayLaw_mono hs (fun n hn => ?_) (idsKept_of_slots (h.slots_eq (Part.not_mem_of_apart hd (by simp))))
    (fun n => by rw [hsigns]) (fun n => by rw [hsigns])
  unfold State.health at hn ⊢
  rwa [← hlink]

/-! ## An acknowledged page set (R137) -/

theorem carried_bounds (ps : PageSet) : ps.carried.length ≤ 2 ∧ ps.carried.Nodup := by
  unfold PageSet.carried
  split
  · simp
  · simp
  · simp
  · split
    · simp
    · next h => simp [h]

theorem alignDisplayed_ids (map : List (RecId × Nat)) (carried held : List RecId) (now : Nat)
    (hmap : (map.map Prod.fst).Nodup) (hcarried : carried.Nodup) :
    ((alignDisplayed map carried held now).map Prod.fst).Nodup
      ∧ ∀ e ∈ alignDisplayed map carried held now, e.1 ∈ carried ∧ (e ∈ map ∨ e.1 ∈ held) := by
  unfold alignDisplayed
  constructor
  · rw [List.map_append, List.map_map]
    refine List.Nodup.append (hmap.sublist (List.filter_sublist.map _)) ?_ ?_
    · simpa [Function.comp_def] using hcarried.filter _
    · intro id hold hnew
      obtain ⟨e, he, rfl⟩ := List.mem_map.mp hold
      simp only [Function.comp_def, List.map_id', List.mem_filter, decide_eq_true_eq] at hnew
      exact hnew.2.1 (List.mem_map_of_mem (List.mem_filter.mp he).1)
  · intro e he
    rcases List.mem_append.mp he with h | h
    · obtain ⟨hm, hc⟩ := List.mem_filter.mp h
      exact ⟨of_decide_eq_true hc, .inl hm⟩
    · obtain ⟨id, hid, rfl⟩ := List.mem_map.mp h
      obtain ⟨hc, hh⟩ := List.mem_filter.mp hid
      exact ⟨hc, .inr (of_decide_eq_true hh).2⟩

theorem displayLaw_acknowledge {s : State} (hs : DisplayLaw s) (n : Sign) (ps : PageSet) (h : s.health n = .ok) :
    DisplayLaw (acknowledge n ps s) := by
  refine displayLaw_setSign hs n ?_
  obtain ⟨hall, -, hnodup⟩ := hs n
  obtain ⟨hlen, hcarried⟩ := carried_bounds ps
  obtain ⟨hids, hmem⟩ := alignDisplayed_ids (s.signs.get n).displayed ps.carried (s.records.map fun p => p.2.id) s.now
    hnodup hcarried
  refine ⟨fun e he => ?_, ?_, hids⟩
  · obtain ⟨hc, hor⟩ := hmem e he
    refine ⟨h, ?_, ps, rfl, hc⟩
    rcases hor with hold | hheld
    · exact (hall e hold).2.1
    · obtain ⟨⟨i, r⟩, hr, hid⟩ := List.mem_map.mp hheld
      exact findRecord_isSome_iff.mpr ⟨i, r, mem_records.mp hr, hid⟩
  · have hsub := (List.subperm_of_subset hids (fun id hid => ?_ : _ ⊆ ps.carried)).length_le
    · rw [List.length_map] at hsub
      exact hsub.trans hlen
    · obtain ⟨e, he, rfl⟩ := List.mem_map.mp hid
      exact (hmem e he).1

/-! ## A record that leaves (R138) -/

theorem signs_dropDisplayed (id : RecId) (s : State) (n : Sign) : (dropDisplayed id s).signs.get n
    = { s.signs.get n with displayed := (s.signs.get n).displayed.filter (fun e => decide (e.1 ≠ id)) } := by
  cases n <;> rfl

theorem signs_removeEntries (i : Nat) (r : ClosureRecord) (s : State) (n : Sign) : (removeEntries i r s).signs.get n
    = { s.signs.get n with displayed := (s.signs.get n).displayed.filter (fun e => decide (e.1 ≠ r.id)) } := by
  have h : s.signs = (dropEntries r.id (s.setSlot i none)).signs :=
    (((frame_setSlot s i none).widen rfl).trans ((frame_dropEntries r.id _).widen rfl) :
      Frame [.slots, .queue, .wait] _ _) .signs (by decide)
  rw [h]
  exact signs_dropDisplayed _ _ n

theorem displayLaw_removeEntries {s : State} {i : Nat} {r : ClosureRecord} (h : s.recordAt i = some r) (hs : DisplayLaw s) :
    DisplayLaw (removeEntries i r s) := by
  have hhealth : ∀ n, (removeEntries i r s).health n = s.health n := fun n =>
    Turn.health_eq (.remove h) n
  intro n
  show DisplayOk _ n _
  rw [signs_removeEntries]
  obtain ⟨hall, hlen, hnodup⟩ := hs n
  refine ⟨fun e he => ?_, (List.length_filter_le _ _).trans hlen, hnodup.sublist (List.filter_sublist.map _)⟩
  obtain ⟨hmem, hne⟩ := List.mem_filter.mp he
  obtain ⟨hok, hfound, hack⟩ := hall e hmem
  obtain ⟨j, q, hq, hid⟩ := findRecord_isSome_iff.mp hfound
  refine ⟨(hhealth n).trans hok, findRecord_isSome_iff.mpr ⟨j, q, ?_, hid⟩, hack⟩
  exact recordAt_of_removed h (slots_removeEntries i r s) hq (hid ▸ of_decide_eq_true hne)

/-! ## The law -/

theorem displayLaw_of_turn {ps : List Part} (hd : Part.apart [.slots, .signs, .signLinks] (Part.plain ++ ps) = true)
    (s t : State) (h : Turn ps s t) (hs : DisplayLaw s) : DisplayLaw t := by
  have hslots : ∀ {i : Nat} {x : Option ClosureRecord}, IdsKept s (s.setSlot i x) → DisplayLaw (s.setSlot i x) := fun hi =>
    displayLaw_mono (s := s) hs (fun _ h => h) hi (fun _ => rfl) (fun _ => rfl)
  cases h with
  | aside h => exact displayLaw_frame h hd hs
  | present => exact displayLaw_frame (frame_present _ s) rfl hs
  | follow => exact displayLaw_frame (frame_followQueue s) rfl hs
  | endFrame => exact displayLaw_frame (frame_endFrame s) rfl hs
  | conflict => exact hs
  | remove h => exact displayLaw_removeEntries h hs
  | place hfree => exact hslots (idsKept_of_placed hfree rfl)
  | amend h hab => exact hslots (idsKept_of_amended h hab.1 rfl)
  | rebuild n => exact displayLaw_setSign_same hs n rfl rfl
  | @offer n x =>
    have h1 : DisplayLaw (s.setSign n { s.signs.get n with offered := some x, refresh := s.refreshStart n }) :=
      displayLaw_setSign_same hs n rfl rfl
    exact displayLaw_setSignLink h1 n id
  | @transfer n => exact displayLaw_setSignLink (s := s) hs n id
  | refresh n => exact displayLaw_setSign_same hs n rfl rfl
  | acknowledge h => exact displayLaw_acknowledge hs _ _ h
  | forget n => exact displayLaw_setSign hs n (displayOk_of_empty rfl)
  | refuse n => exact displayLaw_setSign_same hs n rfl rfl
  | quiet => exact hs
  | gate => exact hs

theorem displayLaw_faulted {s : State} (hs : DisplayLaw s) (n : Sign) : DisplayLaw (faulted n s) := by
  intro m
  show DisplayOk _ m ((s.signs.set n _).get m)
  by_cases h : m = n
  · subst h
    rw [PerSign.get_set_same]
    exact displayOk_of_empty rfl
  · rw [PerSign.get_set_other _ _ _ _ h]
    refine DisplayOk.mono (hs m) (fun hm => ?_) (idsKept_of_slots rfl) rfl rfl
    show ((s.link.signs.set n _).get m).health = .ok
    rw [PerSign.get_set_other _ _ _ _ h]
    exact hm

theorem displayLaw_transfers : KeptByTransfers DisplayLaw (fun _ _ => True) where
  turn := displayLaw_of_turn rfl
  ended _ hs := ⟨displayLaw_withLink hs _ fun _ h => h, trivial⟩
  failure h hs := by
    cases h with
    | unfitted => exact hs
    | probe h => exact displayLaw_setSignLink hs _ fun h => h
    | once => exact displayLaw_setSignLink hs _ fun h => h
    | third => exact displayLaw_faulted hs _
  success _ hs := displayLaw_setSignLink hs _ fun _ => rfl
  due _ hs := displayLaw_setSignLink hs _ fun h => h

theorem displayLaw_of_empty {s : State} (h : ∀ n, (s.signs.get n).displayed = []) : DisplayLaw s :=
  fun n => displayOk_of_empty (h n)

theorem displayLaw_outcome (c : Instr) (s : State) (hs : DisplayLaw s) : DisplayLaw (outcome c s) := by
  have hturn : ∀ qs : List Part, Part.apart [.slots, .signs, .signLinks] (Part.plain ++ qs) = true →
    ∀ a b, Turn qs a b → DisplayLaw a → DisplayLaw b := fun qs h => displayLaw_of_turn h
  have hreset : ∀ a r w m, DisplayLaw (resetWith a r w m s) := fun _ _ _ _ =>
    displayLaw_of_empty fun n => by cases n <;> rfl
  cases c with
  | powerOnReset a r => exact hreset a r _ _
  | warmReset a r => exact hreset a r _ _
  | configurationReadEnd a =>
    by_cases h : s.phase = .configRead
    · rcases configurationReadEnd_cases a h with ⟨i, b, he⟩ | ⟨i, b, x, he⟩
      · rw [he]
        exact (turns_enterConfigFault (ps := []) i b s).keep (hturn _ rfl) hs
      · rw [he]
        refine (turns_evaluateHazard (ps := []) false _).keep (hturn _ rfl) (displayLaw_of_empty fun n => ?_)
        rw [signs_joiningBlocks]
        rfl
    · rw [configurationReadEnd_eq_self h]
      exact hs
  | ackReceived a x => exact displayLaw_transfers.ackReceived hs a x
  | nakUnknownTemplate a p => exact displayLaw_transfers.nakUnknownTemplate hs a p
  | nakBadFormat a p => exact displayLaw_transfers.nakBadFormat hs a p
  | replyTimeout => exact displayLaw_transfers.replyTimeout hs
  | pauseLimit => exact displayLaw_transfers.pauseLimit hs
  | probeDue n => exact displayLaw_transfers.probeDue hs n
  | _ => exact keep_of_turns hturn rfl hs

/-! ## A tick -/

theorem link_advanceTick (s : State) : (advanceTick s).link = if s.phase.operating then
    (if s.phase.serving then s.link.advance.advanceProbes else s.link.advance) else s.link := by
  have hhear : ∀ t : State, (hearReplyPair t).link = t.link := fun t => by
    unfold hearReplyPair
    split <;> rfl
  unfold advanceTick
  dsimp only
  split
  · rfl
  · exact hhear _

theorem Link.advance_signs (k : Link) : k.advance.signs = k.signs := by
  unfold Link.advance
  split
  · rfl
  · split
    · exact apply_ite Link.signs _ _ _ |>.trans (by simp)
    all_goals rfl

theorem Link.advanceProbes_signs (k : Link) (n : Sign) : k.advanceProbes.signs.get n = (k.signs.get n).advance := by
  cases n <;> rfl

/-- The link of a sign after a tick: only the probe timer may have moved. -/
theorem signLink_advanceTick (s : State) (n : Sign) : (advanceTick s).link.signs.get n
    = if s.phase.serving then (s.link.signs.get n).advance else s.link.signs.get n := by
  rw [link_advanceTick]
  unfold Phase.serving Phase.operating
  cases s.phase <;> simp [Link.advanceProbes_signs, Link.advance_signs]

theorem health_advanceTick (s : State) (n : Sign) : (advanceTick s).health n = s.health n := by
  unfold State.health
  rw [signLink_advanceTick]
  split <;> rfl

theorem sign_secondTimers (s : State) (n : Sign) : (secondTimers s).signs.get n
    = if s.phase.serving then (s.signs.get n).second else s.signs.get n := by
  unfold secondTimers secondServing Phase.serving Phase.operating
  cases s.phase <;> cases n <;> rfl

theorem link_secondTimers (s : State) : (secondTimers s).link = s.link := by
  unfold secondTimers secondServing Phase.serving Phase.operating
  cases s.phase <;> rfl

theorem displayLaw_advance (s : State) (hs : DisplayLaw s) : DisplayLaw (advance s) := by
  refine advance_keeps (fun s h => ?_) (fun _ _ h => h) (fun s h => ?_)
    (fun s => (turns_secondQuiet (ps := []) s).keep (displayLaw_of_turn rfl)) s hs
  · have hf := frame_advanceTick s
    have hsigns : s.signs = (advanceTick s).signs := hf .signs (by decide)
    exact displayLaw_mono h (fun n => (health_advanceTick s n).trans) (idsKept_of_slots (hf.slots_eq (by decide)))
      (fun n => by rw [hsigns]) (fun n => by rw [hsigns])
  · refine displayLaw_mono h (fun n hn => ?_) (idsKept_secondTimers s) (fun n => ?_) (fun n => ?_)
    · unfold State.health
      rw [link_secondTimers]
      exact hn
    all_goals rw [sign_secondTimers]; split <;> rfl

/-- Settles O12: an entry is made only by an acknowledged page set, and leaves with its record or with the sign's health. -/
theorem displayedSinceLawIsKept : Obligations.DisplayedSinceLawIsKept :=
  keptByEveryStep_of (fun _ _ h => h) displayLaw_outcome displayLaw_advance

end Sys2Proof.Machine
end

section
/-! PROOF. The law of the sign link (R142, R143, R146, R150). -/

namespace Sys2Proof.Machine

open Sys2Proof

/-! ## The law, sign by sign -/

/-- What the sign link's law asks of one sign, by its role and its record in the controller. -/
def LinkOk (role : SignRole) (k : SignLink) : Prop :=
  k.failures ≤ 3 ∧ (k.failures = 3 ↔ k.health = .fault) ∧ (k.probe ≠ .stopped → k.health = .fault)
    ∧ (role = .notFitted ↔ k.health = .notFitted) ∧ (k.health = .notFitted → k.waiting = none)

/-- R142: the link is idle exactly without a transfer, and a transfer is to a fitted sign. -/
def TransferOk (state : LinkState) (transfer : Option Transfer) (signs : PerSign SignLink) : Prop :=
  (state = .idle ↔ transfer = none) ∧ ∀ t, transfer = some t → (signs.get t.sign).health ≠ .notFitted

theorem linkLaw_iff (s : State) : LinkLaw s ↔ TransferOk s.link.state s.link.transfer s.link.signs
    ∧ ∀ n, LinkOk (s.signs.get n).role (s.link.signs.get n) := by
  constructor
  · rintro ⟨hidle, hall⟩
    refine ⟨⟨hidle, fun t ht => ?_⟩, fun n => ?_⟩
    · obtain ⟨-, -, -, -, -, hfit⟩ := hall t.sign
      exact hfit t ht rfl
    · obtain ⟨h1, h2, h3, h4, h5, -⟩ := hall n
      exact ⟨h1, h2, h3, h4, h5⟩
  · rintro ⟨⟨hidle, hfit⟩, hall⟩
    refine ⟨hidle, fun n => ?_⟩
    obtain ⟨h1, h2, h3, h4, h5⟩ := hall n
    exact ⟨h1, h2, h3, h4, h5, fun t ht hn => hn ▸ hfit t ht⟩

variable {s t : State}

theorem linkLaw_congr (hlink : t.link.state = s.link.state) (htransfer : t.link.transfer = s.link.transfer)
    (hsigns : t.link.signs = s.link.signs) (hrole : ∀ n, (t.signs.get n).role = (s.signs.get n).role) (hs : LinkLaw s) :
    LinkLaw t := by
  rw [linkLaw_iff] at hs ⊢
  simp only [hlink, htransfer, hsigns, hrole]
  exact hs

theorem linkLaw_frame {ps : List Part} (h : Frame ps s t) (hd : Part.apart [.signs, .linkState, .signLinks] ps = true)
    (hs : LinkLaw s) : LinkLaw t := by
  obtain ⟨h1, -, h3, -⟩ := h .linkState (Part.not_mem_of_apart hd (by simp))
  have hsigns : s.signs = t.signs := h .signs (Part.not_mem_of_apart hd (by simp))
  have hlink : s.link.signs = t.link.signs := h .signLinks (Part.not_mem_of_apart hd (by simp))
  exact linkLaw_congr h1.symm h3.symm hlink.symm (fun n => by rw [hsigns]) hs

theorem linkLaw_setSign (hs : LinkLaw s) (n : Sign) {g : SignState} (hg : g.role = (s.signs.get n).role) :
    LinkLaw (s.setSign n g) := by
  refine linkLaw_congr (s := s) rfl rfl rfl (fun m => ?_) hs
  show ((s.signs.set n g).get m).role = _
  by_cases h : m = n
  · subst h
    rw [PerSign.get_set_same]
    exact hg
  · rw [PerSign.get_set_other _ _ _ _ h]

/-- The record of one sign changes, and with it perhaps the state of the link. -/
theorem linkLaw_withLink (hs : LinkLaw s) (n : Sign) {k : SignLink} {st : LinkState} {x : Option Transfer} {last : Sign}
    (hk : LinkOk (s.signs.get n).role k) (hlink : TransferOk st x (s.link.signs.set n k)) :
    LinkLaw (s.withLink { s.link with state := st, transfer := x, lastServed := last, signs := s.link.signs.set n k }) := by
  refine (linkLaw_iff _).mpr ⟨hlink, fun m => ?_⟩
  show LinkOk (s.signs.get m).role ((s.link.signs.set n k).get m)
  by_cases h : m = n
  · subst h
    rw [PerSign.get_set_same]
    exact hk
  · rw [PerSign.get_set_other _ _ _ _ h]
    exact ((linkLaw_iff s).mp hs).2 m

theorem transferOk_set {st : LinkState} {x : Option Transfer} {signs : PerSign SignLink} {n : Sign} {k : SignLink}
    (h : TransferOk st x signs) (hk : k.health = .notFitted → (signs.get n).health = .notFitted) :
    TransferOk st x (signs.set n k) := by
  refine ⟨h.1, fun t ht => ?_⟩
  have hfit := h.2 t ht
  by_cases hn : t.sign = n
  · subst hn
    rw [PerSign.get_set_same]
    exact fun e => hfit (hk e)
  · rw [PerSign.get_set_other _ _ _ _ hn]
    exact hfit

theorem linkLaw_setSignLink (hs : LinkLaw s) (n : Sign) {k : SignLink} (hk : LinkOk (s.signs.get n).role k)
    (hhealth : k.health = .notFitted → s.health n = .notFitted) : LinkLaw (s.setSignLink n k) :=
  linkLaw_withLink (last := s.link.lastServed) hs n hk (transferOk_set ((linkLaw_iff s).mp hs).1 hhealth)

/-! ## The law, turn by turn -/

theorem linkLaw_offer {n : Sign} {x : PageSet} (hs : LinkLaw s) (hrole : (s.signs.get n).role ≠ .notFitted) :
    LinkLaw (offer n x s) := by
  have h1 : LinkLaw (s.setSign n { s.signs.get n with offered := some x, refresh := s.refreshStart n }) :=
    linkLaw_setSign hs n rfl
  obtain ⟨hf, hf3, hp, hr, -⟩ := ((linkLaw_iff s).mp hs).2 n
  refine linkLaw_setSignLink h1 n ?_ id
  show LinkOk ((s.signs.set n _).get n).role _
  rw [PerSign.get_set_same]
  exact ⟨hf, hf3, hp, hr, fun e => absurd (hr.mpr e) hrole⟩

theorem linkLaw_beginTransfer {n : Sign} {p : Bool} {x : PageSet} (hs : LinkLaw s) (h : s.eligible n = some (p, x)) :
    LinkLaw (beginTransfer s n p x) := by
  obtain ⟨-, hall⟩ := (linkLaw_iff s).mp hs
  obtain ⟨hf, hf3, hp, hr, hw⟩ := hall n
  have hfit : (s.link.signs.get n).health ≠ .notFitted := fun e => by
    unfold State.eligible at h
    simp [e] at h
  refine linkLaw_withLink hs n ⟨hf, hf3, fun hne => hp fun e => hne ?_, hr, fun _ => rfl⟩ ⟨?_, fun t ht => ?_⟩
  · show (if p then ProbeTimer.stopped else (s.link.signs.get n).probe) = .stopped
    rw [e, ite_self]
  · cases s.link.held <;> simp
  · cases ht
    rw [PerSign.get_set_same]
    exact hfit

theorem linkLaw_of_turn {ps : List Part} (hd : Part.apart [.signs, .linkState, .signLinks] (Part.plain ++ ps) = true)
    (s t : State) (h : Turn ps s t) (hs : LinkLaw s) : LinkLaw t := by
  cases h with
  | aside h => exact linkLaw_frame h hd hs
  | present => exact linkLaw_frame (frame_present _ s) rfl hs
  | follow => exact linkLaw_frame (frame_followQueue s) rfl hs
  | endFrame => exact linkLaw_frame (frame_endFrame s) rfl hs
  | conflict => exact hs
  | @remove i r _ h =>
    have hf := frame_removeEntries i r s
    obtain ⟨h1, -, h3, -⟩ := hf .linkState (by decide)
    have h4 : s.link.signs = (removeEntries i r s).link.signs := hf .signLinks (by decide)
    refine linkLaw_congr h1.symm h3.symm h4.symm (fun n => ?_) hs
    rw [signs_removeEntries]
  | place => exact hs
  | amend => exact hs
  | rebuild n => exact linkLaw_setSign hs n rfl
  | offer hrole => exact linkLaw_offer hs hrole
  | transfer _ h => exact linkLaw_beginTransfer hs h
  | refresh n => exact linkLaw_setSign hs n rfl
  | acknowledge => exact linkLaw_setSign hs _ rfl
  | forget n => exact linkLaw_setSign hs n rfl
  | refuse n => exact linkLaw_setSign hs n rfl
  | quiet => exact hs
  | gate => exact hs

/-! ## The law through a transfer's ending -/

theorem linkLaw_failure {x : Transfer} (h : Failure x s t) (hs : LinkLaw s) : LinkLaw t := by
  obtain ⟨hf, hf3, hp, hr, hw⟩ := ((linkLaw_iff s).mp hs).2 x.sign
  cases h with
  | unfitted => exact hs
  | probe h =>
    have hfault : (s.link.signs.get x.sign).health = .fault := h
    exact linkLaw_setSignLink hs _ ⟨le_refl 3, by simp [hfault], fun _ => hfault, hr, hw⟩ id
  | once h1 h2 h3 =>
    refine linkLaw_setSignLink hs _ ⟨Nat.min_le_right _ _, ⟨fun e => absurd e h3, fun e => absurd e h1⟩, hp, hr,
      fun e => absurd e h2⟩ id
  | third h =>
    have hfit : (s.signs.get x.sign).role ≠ .notFitted := fun e => h (hr.mp e)
    refine linkLaw_setSign (linkLaw_setSignLink hs _ ⟨le_refl 3, by simp, fun _ => rfl, by simp [hfit], by simp⟩ (by simp)) _ ?_
    rfl

theorem linkLaw_transfers : KeptByTransfers LinkLaw (fun n s => s.health n ≠ .notFitted) where
  turn := linkLaw_of_turn rfl
  ended {s t} ht hs := by
    obtain ⟨⟨hidle, hfit⟩, hall⟩ := (linkLaw_iff s).mp hs
    refine ⟨(linkLaw_iff _).mpr ⟨⟨by simp [endTransfer], ?_⟩, hall⟩, hfit t ht⟩
    intro x hx
    cases hx
  failure h hs := linkLaw_failure h hs
  success {n s} hfit hs := by
    obtain ⟨-, -, -, hr, -⟩ := ((linkLaw_iff s).mp hs).2 n
    have hrole : (s.signs.get n).role ≠ .notFitted := fun e => hfit (hr.mp e)
    exact linkLaw_setSignLink hs n ⟨Nat.zero_le 3, by simp, by simp, by simp [hrole], by simp⟩ (by simp)
  due {n s} hfault hs := by
    obtain ⟨hf, hf3, -, hr, hw⟩ := ((linkLaw_iff s).mp hs).2 n
    exact linkLaw_setSignLink hs n ⟨hf, hf3, fun _ => hfault, hr, hw⟩ id

/-- Only the state of the link changes, and a transfer in progress stays one to the same sign. -/
theorem linkLaw_state (hs : LinkLaw s) (held : Bool) {st : LinkState} {x : Option Transfer}
    (hidle : st = .idle ↔ s.link.state = .idle) (hx : x.map Transfer.sign = s.link.transfer.map Transfer.sign) :
    LinkLaw (s.withLink { s.link with state := st, held := held, transfer := x }) := by
  obtain ⟨⟨hiff, hfit⟩, hall⟩ := (linkLaw_iff s).mp hs
  refine (linkLaw_iff _).mpr ⟨⟨?_, fun t ht => ?_⟩, hall⟩
  · show st = .idle ↔ x = none
    rw [hidle, hiff]
    cases x <;> cases hs : s.link.transfer <;> simp_all
  · obtain rfl : x = some t := ht
    obtain ⟨u, hu, hsign⟩ := Option.map_eq_some_iff.mp hx.symm
    rw [← hsign]
    exact hfit u hu

theorem linkLaw_pageSetSent (hs : LinkLaw s) : LinkLaw (outcome .pageSetSent s) := by
  dsimp only [outcome, exec, execPageSetSent]
  split
  · next x hx =>
    split
    · next h =>
      refine linkLaw_state hs s.link.held ?_ (by rw [hx]; rfl)
      rw [h.1]
      cases s.link.held <;> simp
    · exact hs
  · exact hs

theorem LinkState.hold_idle (k : LinkState) : k.hold = .idle ↔ k = .idle := by
  cases k <;> simp [LinkState.hold]

theorem LinkState.resume_idle (k : LinkState) : k.resume = .idle ↔ k = .idle := by
  cases k <;> simp [LinkState.resume]

theorem linkLaw_xoffReceived (hs : LinkLaw s) : LinkLaw (outcome .xoffReceived s) := by
  dsimp only [outcome, exec, execXoffReceived]
  split
  · exact linkLaw_state hs true (LinkState.hold_idle _) rfl
  · exact hs

theorem linkLaw_xonReceived (hs : LinkLaw s) : LinkLaw (outcome .xonReceived s) := by
  dsimp only [outcome, exec, execXonReceived]
  split
  · exact linkLaw_state hs false (LinkState.resume_idle _) rfl
  · exact hs

/-! ## A tick -/

/-- A tick moves the link within a transfer, which stays one to the same sign. -/
theorem Link.advance_spec (k : Link) : (k.advance.state = .idle ↔ k.state = .idle)
    ∧ k.advance.transfer.map Transfer.sign = k.transfer.map Transfer.sign ∧ k.advance.signs = k.signs
    ∧ k.advance.held = k.held ∧ k.advance.lastServed = k.lastServed := by
  unfold Link.advance
  cases ht : k.transfer with
  | none => simp [ht]
  | some x =>
    cases hk : k.state with
    | sending => dsimp only; split <;> simp
    | _ => simp [hk, ht]

theorem LinkOk.advance {r : SignRole} {k : SignLink} (h : LinkOk r k) : LinkOk r k.advance := by
  obtain ⟨hf, hf3, hp, hr, hw⟩ := h
  refine ⟨hf, hf3, fun hne => hp fun e => hne ?_, hr, hw⟩
  simp [SignLink.advance, ProbeTimer.advance, e]

theorem linkLaw_advanceTick (hs : LinkLaw s) : LinkLaw (advanceTick s) := by
  obtain ⟨⟨hiff, hfit⟩, hall⟩ := (linkLaw_iff s).mp hs
  have hsigns : s.signs = (advanceTick s).signs := (frame_advanceTick s) .signs (by decide)
  have hlink : ((advanceTick s).link.state = .idle ↔ s.link.state = .idle)
      ∧ (advanceTick s).link.transfer.map Transfer.sign = s.link.transfer.map Transfer.sign := by
    obtain ⟨h1, h2, -⟩ := s.link.advance_spec
    rw [link_advanceTick]
    split
    · split
      · exact ⟨h1, h2⟩
      · exact ⟨h1, h2⟩
    · exact ⟨Iff.rfl, rfl⟩
  refine (linkLaw_iff _).mpr ⟨⟨?_, fun t ht => ?_⟩, fun n => ?_⟩
  · rw [hlink.1, hiff, ← Option.map_eq_none_iff (f := Transfer.sign), ← hlink.2, Option.map_eq_none_iff]
  · have hsome := hlink.2
    rw [ht] at hsome
    obtain ⟨u, hu, hsign⟩ := Option.map_eq_some_iff.mp hsome.symm
    have hhealth := hfit u hu
    rw [hsign] at hhealth
    exact fun e => hhealth ((health_advanceTick s t.sign).symm.trans e)
  · rw [← hsigns, signLink_advanceTick]
    split
    · exact (hall n).advance
    · exact hall n

theorem linkLaw_secondTimers (hs : LinkLaw s) : LinkLaw (secondTimers s) := by
  have h := link_secondTimers s
  refine linkLaw_congr (by rw [h]) (by rw [h]) (by rw [h]) (fun n => ?_) hs
  rw [sign_secondTimers]
  split <;> rfl

theorem linkLaw_advance (s : State) (hs : LinkLaw s) : LinkLaw (advance s) :=
  advance_keeps (law := LinkLaw) (fun _ => linkLaw_advanceTick) (fun _ _ h => h) (fun _ => linkLaw_secondTimers)
    (fun s => (turns_secondQuiet (ps := []) s).keep (linkLaw_of_turn rfl)) s hs

/-! ## Every command -/

theorem linkLaw_joiningBlocks {i : List Byte} {b : Bool} {x : Word16} (hs : LinkLaw s) (hlink : s.link = .reset) :
    LinkLaw (joiningBlocks i b x s) := by
  refine (linkLaw_iff _).mpr ⟨⟨?_, fun t ht => ?_⟩, fun n => ?_⟩
  · exact ((linkLaw_iff s).mp hs).1.1
  · have : s.link.transfer = some t := ht
    rw [hlink] at this
    cases this
  · rw [signs_joiningBlocks, signLinks_joiningBlocks]
    unfold signAtStart signLinkAtStart LinkOk SignLink.reset SignState.reset
    by_cases h : (configOf i).signRoles.get n = .notFitted <;> simp [h]

theorem linkLaw_outcome (c : Instr) (hs : LinkLaw s) (hinert : s.phase = .configRead → s.link = .reset) :
    LinkLaw (outcome c s) := by
  have hturn : ∀ qs : List Part, Part.apart [.signs, .linkState, .signLinks] (Part.plain ++ qs) = true →
    ∀ a b, Turn qs a b → LinkLaw a → LinkLaw b := fun qs h => linkLaw_of_turn h
  have hreset : ∀ a r w m, LinkLaw (resetWith a r w m s) := fun _ _ _ _ => by
    refine (linkLaw_iff _).mpr ⟨⟨?_, fun t ht => ?_⟩, fun n => ?_⟩
    · exact ⟨fun _ => rfl, fun _ => rfl⟩
    · cases ht
    · have hk : LinkOk SignState.reset.role SignLink.reset := by
        unfold LinkOk
        decide
      cases n <;> exact hk
  cases c with
  | powerOnReset a r => exact hreset a r _ _
  | warmReset a r => exact hreset a r _ _
  | configurationReadEnd a =>
    by_cases h : s.phase = .configRead
    · rcases configurationReadEnd_cases a h with ⟨i, b, he⟩ | ⟨i, b, x, he⟩
      · rw [he]
        exact (turns_enterConfigFault (ps := []) i b s).keep (hturn _ rfl) hs
      · rw [he]
        exact (turns_evaluateHazard (ps := []) false _).keep (hturn _ rfl) (linkLaw_joiningBlocks hs (hinert h))
    · rw [configurationReadEnd_eq_self h]
      exact hs
  | pageSetSent => exact linkLaw_pageSetSent hs
  | xoffReceived => exact linkLaw_xoffReceived hs
  | xonReceived => exact linkLaw_xonReceived hs
  | ackReceived a x => exact linkLaw_transfers.ackReceived hs a x
  | nakUnknownTemplate a p => exact linkLaw_transfers.nakUnknownTemplate hs a p
  | nakBadFormat a p => exact linkLaw_transfers.nakBadFormat hs a p
  | replyTimeout => exact linkLaw_transfers.replyTimeout hs
  | pauseLimit => exact linkLaw_transfers.pauseLimit hs
  | probeDue n => exact linkLaw_transfers.probeDue hs n
  | _ => exact keep_of_turns hturn rfl hs

end Sys2Proof.Machine
end

section
/-! PROOF. In CONFIG-READ and CONFIG-FAULT no command moves the blocks that stand at their reset values (R3, R35, R95, R124, R140, R172,
R186), but the one that ends CONFIG-READ. -/

namespace Sys2Proof.Machine

open Sys2Proof

variable {s : State}

/-- The blocks outside operation at their reset values. -/
def Inert (s : State) : Prop :=
  s.channels = .fill Channel.reset ∧ s.slide = .reset ∧ s.hazard = .reset ∧ s.register = .reset
    ∧ s.signs = .fill SignState.reset ∧ s.link = .reset ∧ s.gates = .reset ∧ s.startup.quiet = false
    ∧ s.startup.entryTimer = none ∧ { s.replyPair with arriving := [] } = ReplyPair.reset

theorem inertLaw_iff (s : State) : InertLaw s ↔ (s.phase.operating = false → Inert s) := Iff.rfl

/-- The parts that a command may write outside operation. -/
def Part.outside : List Part :=
  [.pending, .pins, .clock, .ring, .histories, .ownSerial, .retainedMarks, .partialPending, .receiver, .queue, .wait, .flight,
   .lineFlags, .peerEntries, .statusTimer, .announceTimer]

/-! ## Blocks left alone part by part -/

theorem Frame.keeps {ps qs : List Part} {s t : State} (h : Frame ps s t) (hd : Part.apart qs ps = true) {p : Part}
    (hp : p ∈ qs) : p.agree s t := h p (Part.not_mem_of_apart hd hp)

theorem Frame.hazard_eq {ps : List Part} {s t : State} (h : Frame ps s t)
    (hd : Part.apart [.computation, .floor, .neighbours, .effective, .liftCounter, .hold] ps = true) :
    t.hazard = s.hazard := by
  have heff : s.hazard.effective = t.hazard.effective := h.keeps hd (p := .effective) (by simp)
  have hlift : s.hazard.liftCounter = t.hazard.liftCounter := h.keeps hd (p := .liftCounter) (by simp)
  have hhold : s.hazard.hold = t.hazard.hold := h.keeps hd (p := .hold) (by simp)
  obtain ⟨ha, hb, hc, hdd, hscore, hdeg, hcomp⟩ := h.keeps hd (p := .computation) (by simp)
  obtain ⟨hfl, hfr⟩ := h.keeps hd (p := .floor) (by simp)
  obtain ⟨hnf, hns⟩ := h.keeps hd (p := .neighbours) (by simp)
  cases hx : s.hazard; cases hy : t.hazard
  simp_all

theorem Frame.register_eq {ps : List Part} {s t : State} (h : Frame ps s t)
    (hd : Part.apart [.slots, .walker, .registerFull, .slidePending] ps = true) : t.register = s.register := by
  have hslots : s.register.slots = t.register.slots := h.keeps hd (p := .slots) (by simp)
  have hfull : s.register.full = t.register.full := h.keeps hd (p := .registerFull) (by simp)
  have hpending : s.register.slidePending = t.register.slidePending := h.keeps hd (p := .slidePending) (by simp)
  obtain ⟨hw1, hw2, hw3⟩ := h.keeps hd (p := .walker) (by simp)
  cases hx : s.register; cases hy : t.register
  simp_all

theorem Frame.link_eq {ps : List Part} {s t : State} (h : Frame ps s t)
    (hd : Part.apart [.linkState, .signLinks] ps = true) : t.link = s.link := by
  have hlinks : s.link.signs = t.link.signs := h.keeps hd (p := .signLinks) (by simp)
  obtain ⟨hl1, hl2, hl3, hl4⟩ := h.keeps hd (p := .linkState) (by simp)
  cases hx : s.link; cases hy : t.link
  simp_all

theorem Frame.gates_eq {ps : List Part} {s t : State} (h : Frame ps s t)
    (hd : Part.apart [.gateUnits, .key] ps = true) : t.gates = s.gates := by
  have hunits : s.gates.units = t.gates.units := h.keeps hd (p := .gateUnits) (by simp)
  obtain ⟨hk1, hk2⟩ := h.keeps hd (p := .key) (by simp)
  cases hx : s.gates; cases hy : t.gates
  simp_all

/-- What leaves the inert blocks alone keeps them at their reset values. -/
theorem Inert.of_frame {t : State} (h : Frame Part.outside s t) (hs : Inert s) : Inert t := by
  have hch : s.channels = t.channels := h .channels (by decide)
  have hslide : s.slide = t.slide := h .slide (by decide)
  have hsigns : s.signs = t.signs := h .signs (by decide)
  have hreply : s.replyPair = t.replyPair := h .replyPair (by decide)
  obtain ⟨hq1, hq2⟩ := h .quiet (by decide)
  obtain ⟨hc, hsl, hh, hr, hsi, hl, hg, hq, he, hp⟩ := hs
  exact ⟨hch ▸ hc, hslide ▸ hsl, (h.hazard_eq rfl).trans hh, (h.register_eq rfl).trans hr, hsigns ▸ hsi,
    (h.link_eq rfl).trans hl, (h.gates_eq rfl).trans hg, hq1 ▸ hq, hq2 ▸ he, hreply ▸ hp⟩

theorem not_serving_of_not_operating (h : s.phase.operating = false) : s.phase.serving = false := by
  cases hp : s.phase <;> simp_all [Phase.operating, Phase.serving]

theorem ne_of_not_operating (h : s.phase.operating = false) :
    s.phase ≠ .joining ∧ s.phase ≠ .settling ∧ s.phase ≠ .running := by
  cases hp : s.phase <;> simp_all [Phase.operating]

/-! ## A received frame -/

theorem reportPeers_of_not_operating (h : s.phase.operating = false) : reportPeers s = s := by
  simp [reportPeers, h]

theorem reported_storePeer_outside (h : s.phase.operating = false) (p : Peer) (b : Bool) :
    (if b = true then reportPeers (storePeer p s) else storePeer p s) = storePeer p s := by
  rw [reportPeers_of_not_operating (s := storePeer p s) h, ite_self]

/-- Outside operation the peer table is served without a report. -/
theorem frame_servePeer_outside (h : FrameHeader) (take : Peer → Peer) (hop : s.phase.operating = false) :
    Frame [.peerEntries, .queue, .wait] s (servePeer h take s).1 := by
  have hstore : ∀ p, Frame [.peerEntries, .queue, .wait] s (storePeer p s) := fun p => (frame_storePeer p s).widen rfl
  have hgap : ∀ t : State, Frame [.peerEntries, .queue, .wait] t (noteGap h.source t) := fun t =>
    (frame_noteGap h.source t).widen rfl
  unfold servePeer
  split
  · dsimp only
    rw [reported_storePeer_outside hop]
    exact hstore _
  · split
    · exact hstore _
    · dsimp only
      rw [reported_storePeer_outside hop]
      exact Frame.ite ((hstore _).trans (hgap _)) (hstore _)

theorem restartWalker_of_not_running (h : s.phase ≠ .running) : restartWalker s = s := if_neg h

/-- Outside operation a received frame moves the line and the peer table alone. -/
theorem frame_receiveFrame_outside {serve : State → State}
    (hs : ∀ t : State, t.phase.operating = false → Frame Part.outside t (serve t)) (h : FrameHeader) (take : Peer → Peer)
    (hop : s.phase.operating = false) : Frame Part.outside s (receiveFrame h take serve s) := by
  have hend : Frame Part.outside s (endFrame s) := (frame_endFrame s).widen rfl
  have hphase : (endFrame s).phase.operating = false := by
    rw [(hend.settings_eq (by decide)).1]
    exact hop
  have hpeer := frame_servePeer_outside h take hphase
  unfold receiveFrame
  refine Frame.ite (Frame.refl _ s) (Frame.ite hend (Frame.ite (hend.trans ((frame_addressConflict _).widen rfl)) ?_))
  split
  · next e =>
    rw [e] at hpeer
    refine hend.trans ((hpeer.widen rfl).trans (hs _ ?_))
    rw [(hpeer.settings_eq (by decide)).1]
    exact hphase
  · next e =>
    rw [e] at hpeer
    exact hend.trans (hpeer.widen rfl)

theorem frame_serveRecap_outside (a b : Byte) (hop : s.phase.operating = false) :
    Frame Part.outside s (serveRecap a b s) := by
  have hpresent : Frame Part.outside s (present .status (present .announce s)) :=
    ((frame_present _ _).widen rfl).trans ((frame_present _ _).widen rfl)
  have hrun : (present .status (present .announce s)).phase ≠ .running := by
    rw [(hpresent.settings_eq (by decide)).1]
    exact (ne_of_not_operating hop).2.2
  unfold serveRecap
  rw [restartWalker_of_not_running hrun]
  refine Frame.guard (Frame.ite ((frame_answerInFault s).widen rfl) (Frame.ite ?_ hpresent))
  exact hpresent.trans ((frame_returnRecords _ _).widen rfl)

theorem frame_serveQuery_outside (a b : Byte) (s : State) : Frame Part.outside s (serveQuery a b s) :=
  Frame.guard (Frame.ite ((frame_answerInFault s).widen rfl)
    (((frame_present _ _).widen rfl).trans ((frame_present _ _).widen rfl)))

theorem frame_setPresence_outside (p : Peer) (x : Presence) (hop : s.phase.operating = false) :
    Frame Part.outside s (setPresence p x s) := by
  unfold setPresence
  dsimp only
  rw [reported_storePeer_outside hop]
  exact (frame_storePeer _ s).widen rfl

/-! ## Every command -/

/-- The commands that move the phase. -/
def startsPhase : Instr → Bool
  | .powerOnReset _ _ => true
  | .warmReset _ _ => true
  | .configurationReadEnd _ => true
  | .settlingStart => true
  | .runningEntry => true
  | _ => false

theorem frame_outcome_outside (c : Instr) (hop : s.phase.operating = false) (hs : Inert s) (hc : startsPhase c = false) :
    Frame Part.outside s (outcome c s) := by
  have hserving := not_serving_of_not_operating hop
  obtain ⟨hjoining, hsettling, hrunning⟩ := ne_of_not_operating hop
  obtain ⟨hch, hslide, hhazard, hregister, hsigns, hlink, hgates, -, hentry, -⟩ := hs
  have hself : outcome c s = s → Frame Part.outside s (outcome c s) := fun h => by
    rw [h]
    exact Frame.refl _ s
  have hrecord : ∀ i, s.recordAt i = none := fun i => by
    unfold State.recordAt
    rw [hregister]
    show (List.replicate 16 (none : Option ClosureRecord))[i]?.join = none
    rw [List.getElem?_replicate]
    split <;> rfl
  have hgate : ∀ g, (s.gates.units.get g) = GateUnit.reset := fun g => by
    rw [hgates]
    cases g <;> rfl
  have htransfer : s.link.transfer = none := by rw [hlink]; rfl
  have hawaited : ∀ a, s.awaited a = none := fun a => by simp [State.awaited, htransfer]
  cases c with
  | powerOnReset => cases hc
  | warmReset => cases hc
  | configurationReadEnd => cases hc
  | settlingStart => cases hc
  | runningEntry => cases hc
  | receiverIdleReached => exact (frame_outcome .receiverIdleReached s).widen rfl
  | characterReceived c b => exact (frame_outcome (.characterReceived c b) s).widen rfl
  | frameDiscarded => exact (frame_outcome .frameDiscarded s).widen rfl
  | attemptStart => exact (frame_outcome .attemptStart s).widen rfl
  | attemptSuccess => exact (frame_outcome .attemptSuccess s).widen rfl
  | attemptFailed => exact (frame_outcome .attemptFailed s).widen rfl
  | recapTimerExpiry a => exact (frame_outcome (.recapTimerExpiry a) s).widen rfl
  | statusTimerExpiry => exact (frame_outcome .statusTimerExpiry s).widen rfl
  | announceTimerExpiry => exact (frame_outcome .announceTimerExpiry s).widen rfl
  | announceReceived h b => exact frame_receiveFrame_outside (fun t _ => Frame.refl _ t) h _ hop
  | statusReceived h b => exact frame_receiveFrame_outside (fun t _ => Frame.refl _ t) h _ hop
  | closureReceived h b =>
    refine frame_receiveFrame_outside (fun t ht => ?_) h _ hop
    simp only [serveClosure, ht, Bool.false_eq_true, if_false]
    exact Frame.refl _ t
  | alertReceived h b =>
    refine frame_receiveFrame_outside (fun t ht => ?_) h _ hop
    simp only [serveClosure, ht, Bool.false_eq_true, if_false]
    exact Frame.refl _ t
  | floorReceived h b =>
    refine frame_receiveFrame_outside (fun t ht => ?_) h _ hop
    simp only [serveFloor, ht, Bool.and_false, Bool.false_eq_true, if_false]
    exact Frame.refl _ t
  | queryReceived h a => exact frame_receiveFrame_outside (fun t _ => frame_serveQuery_outside h.source a t) h _ hop
  | recapReceived h a => exact frame_receiveFrame_outside (fun t ht => frame_serveRecap_outside h.source a ht) h _ hop
  | peerLate a =>
    dsimp only [outcome, exec, execPeerLate]
    split
    · exact Frame.guard (frame_setPresence_outside _ _ hop)
    · exact Frame.refl _ s
  | peerSilent a =>
    dsimp only [outcome, exec, execPeerSilent]
    split
    · exact Frame.guard (frame_setPresence_outside _ _ hop)
    · exact Frame.refl _ s
  | senseLineChange ch h =>
    have he : outcome (.senseLineChange ch h) s = s.withPins { s.pins with sense := s.pins.sense.set ch h } := by
      simp [outcome, exec, execSenseLineChange, hop]
    rw [he]
    exact (frame_withPins s _).widen rfl
  | slideContactChange b =>
    have he : outcome (.slideContactChange b) s = s.withPins { s.pins with contact := b } := by
      simp [outcome, exec, execSlideContactChange, hop]
    rw [he]
    exact (frame_withPins s _).widen rfl
  | keyToLocal =>
    have he : outcome .keyToLocal s = s.withPins { s.pins with keyLocal := true } := by
      simp [outcome, exec, execKeyToLocal, hop]
    rw [he]
    exact (frame_withPins s _).widen rfl
  | keyToRemote =>
    have he : outcome .keyToRemote s = s.withPins { s.pins with keyLocal := false } := by
      simp [outcome, exec, execKeyToRemote, hop]
    rw [he]
    exact (frame_withPins s _).widen rfl
  | limitInputChange g l a =>
    have hpins : Frame Part.outside s (takeLimit g l a s) := (frame_takeLimit g l a s).widen rfl
    dsimp only [outcome, exec, execLimitInputChange]
    rw [if_neg hjoining, hserving]
    exact Frame.ite (Frame.refl _ s) (Frame.ite hpins hpins)
  | pulseEdge | widthOverrange | silenceTimerExpiry | rateWindowEnd | minuteClose | hourClose | slideConfirmationExpiry
  | rearmTimerExpiry | operatorFloorExpiry | overrideHoldExpiry | xoffReceived | xonReceived | closeButtonPress
  | openButtonPress =>
    refine hself ?_
    simp [outcome, exec, execPulseEdge, execWidthOverrange, execSilenceTimerExpiry, execRateWindowEnd, State.windowDue,
      execMinuteClose, State.minuteDue, execHourClose, State.hourDue, execSlideConfirmationExpiry, execRearmTimerExpiry,
      execOperatorFloorExpiry, execOverrideHoldExpiry, execXoffReceived, execXonReceived, execCloseButtonPress,
      execOpenButtonPress, hop]
  | leadExpiry | durationExpiry | liftedDisplayExpiry | recordStale =>
    refine hself ?_
    simp [outcome, exec, execLeadExpiry, execDurationExpiry, execLiftedDisplayExpiry, execRecordStale, hrecord]
  | walkerStep | gateLeadElapsed | quietEntry =>
    refine hself ?_
    simp [outcome, exec, execWalkerStep, execGateLeadElapsed, execQuietEntry, hrunning, hserving]
  | refreshTimerExpiry n =>
    refine hself ?_
    simp [outcome, exec, execRefreshTimerExpiry, refreshSign, hserving]
  | pageSetSent | replyTimeout | pauseLimit =>
    refine hself ?_
    simp [outcome, exec, execPageSetSent, execReplyTimeout, execPauseLimit, htransfer]
  | ackReceived | nakUnknownTemplate | nakBadFormat =>
    refine hself ?_
    simp [outcome, exec, execAckReceived, execNakUnknownTemplate, execNakBadFormat, hawaited]
  | probeDue n =>
    refine hself ?_
    simp only [outcome, exec, execProbeDue, hserving, Bool.false_and, Bool.false_eq_true, if_false]
    split <;> rfl
  | dwellEnd | travelStall | stallRetry =>
    refine hself ?_
    simp [outcome, exec, execDwellEnd, execTravelStall, execStallRetry, hgate, GateUnit.reset]

/-! ## The law -/

theorem inert_resetWith (a : BitVec 5) (r : BitVec 2) (w : Bool) (m : Retained) (s : State) : Inert (resetWith a r w m s) :=
  ⟨rfl, rfl, rfl, rfl, rfl, rfl, rfl, rfl, rfl, rfl⟩

theorem settings_outcome {c : Instr} (hc : startsPhase c = false) (s : State) : (outcome c s).phase = s.phase
    ∧ (outcome c s).config = s.config ∧ (outcome c s).startup.address = s.startup.address := by
  refine (frame_outcome c s).settings_eq (Part.not_mem_of_apart (ps := [.settings]) ?_ (by simp))
  cases c with
  | powerOnReset => cases hc
  | warmReset => cases hc
  | configurationReadEnd => cases hc
  | settlingStart => cases hc
  | runningEntry => cases hc
  | _ => rfl

/-- The phase a turn leaves standing. -/
theorem Turns.phase_eq {s t : State} (h : Turns [] s t) : t.phase = s.phase :=
  h.keep (law := fun u => u.phase = s.phase) (fun _ _ h k => (h.settings_eq (by simp)).1.trans k) rfl

theorem inert_enterConfigFault (i : Option (List Byte)) (b : Bool) (hs : Inert s) : Inert (enterConfigFault i b s) := by
  have hpair : ∀ t : State, Inert t → Inert (startLineAndClock t) := fun t ht => by
    obtain ⟨hc, hsl, hh, hr, hsi, hl, hg, hq, he, -⟩ := ht
    exact ⟨hc, hsl, hh, hr, hsi, hl, hg, hq, he, rfl⟩
  have h1 := hpair (s.withStartup { s.startup with phase := .configFault, image := i, substituted := b }) hs
  unfold enterConfigFault
  dsimp only
  split
  · exact h1
  · refine Inert.of_frame ?_ h1
    exact ((frame_announceTimer _ _).widen rfl).trans ((frame_present _ _).widen rfl)

theorem inertLaw_outcome (c : Instr) (hs : InertLaw s) : InertLaw (outcome c s) := by
  rw [inertLaw_iff] at hs ⊢
  cases hc : startsPhase c with
  | false =>
    intro hop
    rw [(settings_outcome hc s).1] at hop
    exact Inert.of_frame (frame_outcome_outside c hop (hs hop) hc) (hs hop)
  | true =>
    cases c with
    | powerOnReset a r => exact fun _ => inert_resetWith a r _ _ s
    | warmReset a r => exact fun _ => inert_resetWith a r _ _ s
    | configurationReadEnd a =>
      by_cases h : s.phase = .configRead
      · have hinert : Inert s := hs (by rw [h]; rfl)
        rcases configurationReadEnd_cases a h with ⟨i, b, he⟩ | ⟨i, b, x, he⟩
        · rw [he]
          exact fun _ => inert_enterConfigFault i b hinert
        · intro hop
          rw [he, (turns_evaluateHazard (ps := []) false _).phase_eq] at hop
          cases hop
      · rw [configurationReadEnd_eq_self h]
        exact hs
    | settlingStart =>
      by_cases h : s.phase = .joining ∧ 10 ≤ s.now
      · intro hop
        rw [(turns_settlingStart (ps := []) h).phase_eq] at hop
        cases hop
      · rw [settlingStart_eq_self h]
        exact hs
    | runningEntry =>
      by_cases h : s.phase = .settling ∧ 70 ≤ s.now
      · intro hop
        rw [(turns_runningEntry (ps := []) h).phase_eq] at hop
        cases hop
      · rw [runningEntry_eq_self h]
        exact hs
    | _ => cases hc

theorem inert_advanceTick (hop : s.phase.operating = false) (hs : Inert s) : Inert (advanceTick s) := by
  have he : advanceTick s = (s.withLine (s.line.advance (lineRate s.startup.rateCode))).withReplyPair .reset := by
    unfold advanceTick hearReplyPair
    simp [hop]
  rw [he]
  obtain ⟨hc, hsl, hh, hr, hsi, hl, hg, hq, hn, -⟩ := hs
  exact ⟨hc, hsl, hh, hr, hsi, hl, hg, hq, hn, rfl⟩

theorem secondTimers_of_not_operating (hop : s.phase.operating = false) : secondTimers s
    = (s.withClock { s.clock with time := s.clock.time + 1, tick := 0 }).withPeers s.peers.second := by
  unfold secondTimers
  simp [hop, not_serving_of_not_operating hop]

theorem inertLaw_advance (s : State) (hs : InertLaw s) : InertLaw (advance s) := by
  refine advance_keeps (law := InertLaw) (fun s h => ?_) (fun _ _ h => h) (fun s h => ?_) (fun s h => ?_) s hs
  · intro hop
    rw [((frame_advanceTick s).settings_eq (by decide)).1] at hop
    exact inert_advanceTick hop (h hop)
  · intro hop
    rw [((frame_secondTimers s).settings_eq (by decide)).1] at hop
    rw [secondTimers_of_not_operating hop]
    exact h hop
  · intro hop
    rw [(turns_secondQuiet (ps := []) s).phase_eq] at hop
    obtain ⟨-, -, -, -, -, -, -, -, hentry, -⟩ := h hop
    have he : secondQuiet s = s := by
      unfold secondQuiet
      simp [hentry]
    rw [he]
    exact h hop

/-- Settles O13: the sign link's law turn by turn and through each ending of a transfer, and the guards of the commands outside
operation. -/
theorem signLinkLawIsKept : Obligations.SignLinkLawIsKept := by
  refine keptByEveryStep_of (fun _ _ h => h) (fun c s ⟨hi, hl⟩ => ⟨inertLaw_outcome c hi, ?_⟩)
    (fun s ⟨hi, hl⟩ => ⟨inertLaw_advance s hi, linkLaw_advance s hl⟩)
  refine linkLaw_outcome c hl fun hphase => ?_
  obtain ⟨-, -, -, -, -, hlink, -⟩ := hi (by rw [hphase]; rfl)
  exact hlink

end Sys2Proof.Machine
end

section
/-! PROOF. The laws of retained memory (R30, R33, R166). -/

namespace Sys2Proof.Machine

open Sys2Proof

variable {s t : State}

/-! ## The ring -/

theorem supports_ringLaw : Supports [.ring] RingLaw := fun s t h hs => by
  obtain ⟨hr, hc, hn⟩ := h .ring (by simp)
  unfold RingLaw at hs ⊢
  rwa [← hr, ← hc, ← hn]

theorem supports_historyLaw : Supports [.histories] HistoryLaw := fun s t h hs g => by
  obtain ⟨hc, ho⟩ := h .histories (by simp)
  rw [← hc, ← ho]
  exact hs g

/-- R33: the serials of a shorter ring still fall. -/
theorem serialsFall_take : ∀ (n : Nat) (next : Word16) (l : List HourRecord), serialsFall next l = true →
    serialsFall next (l.take n) = true
  | 0, _, _, _ => rfl
  | _ + 1, _, [], _ => rfl
  | n + 1, _, r :: rest, h => by
    obtain ⟨hr, hrest⟩ := Bool.and_eq_true_iff.mp h
    exact Bool.and_eq_true_iff.mpr ⟨hr, serialsFall_take n r.serial rest hrest⟩

/-- R30: a record inserted with the hour serial keeps the ring's law. -/
theorem ringLaw_insertHour (hs : RingLaw s) : RingLaw (insertHour s) := by
  obtain ⟨hlen, hcount, hfall⟩ := hs
  have hret : (insertHour s).retained = s.retained.insert s.hourRecord := by
    unfold insertHour forChannels
    rfl
  unfold RingLaw
  rw [hret]
  refine ⟨?_, Nat.min_le_right _ _, ?_⟩
  · simp only [Retained.insert, List.length_take, List.length_cons, hlen]
    omega
  · refine serialsFall_take 72 _ _ ?_
    exact Bool.and_eq_true_iff.mpr ⟨decide_eq_true rfl, hfall⟩

theorem ringOk_iff (m : Retained) : m.ringOk = true
    ↔ m.records.length = m.count ∧ m.count ≤ 72 ∧ serialsFall m.hourSerial m.records = true := by
  unfold Retained.ringOk
  rw [Bool.and_eq_true, decide_eq_true_eq]
  tauto

/-- R181, R33: what the judgement keeps passes the ring's check. -/
theorem ringOk_judgeRetained (w : Bool) (m : Retained) (x : Word16) : (judgeRetained w m x).ringOk = true := by
  unfold judgeRetained Retained.checkRing
  split
  · split
    · next h => exact h
    · rfl
  · rfl

theorem ringLaw_outcome (c : Instr) (hs : RingLaw s) : RingLaw (outcome c s) := by
  cases c with
  | powerOnReset a r => exact ⟨rfl, Nat.zero_le 72, rfl⟩
  | configurationReadEnd a =>
    by_cases h : s.phase = .configRead
    · rcases configurationReadEnd_cases a h with ⟨i, b, he⟩ | ⟨i, b, x, he⟩
      · rw [he]
        exact supports_ringLaw.keep (frame_configFault i b s) rfl hs
      · rw [he]
        refine supports_ringLaw.keep (frame_evaluateHazard_joining (s := joiningBlocks i b x s) rfl) rfl ?_
        exact (ringOk_iff _).mp (ringOk_judgeRetained s.startup.warm s.retained x)
    · rw [configurationReadEnd_eq_self h]
      exact hs
  | hourClose =>
    dsimp only [outcome, exec, execHourClose]
    split
    · exact supports_ringLaw.keep (frame_evaluateHazard true (insertHour s)) rfl (ringLaw_insertHour hs)
    · exact hs
  | _ => exact supports_ringLaw.keep (frame_outcome _ s) rfl hs

/-! ## The travel histories -/

theorem historyLaw_recordTravel (g : Gate) (d : Demand) (n : Nat) (hs : HistoryLaw s) : HistoryLaw (recordTravel g d n s) := by
  have hset : ∀ (v : PerGate (List Nat)) (l : List Nat), (∀ k, (v.get k).length ≤ 8) →
      ∀ k, ((v.set g (l.take 8)).get k).length ≤ 8 := by
    intro v l hv k
    by_cases h : k = g
    · subst h
      rw [PerGate.get_set_same]
      exact List.length_take_le 8 l
    · rw [PerGate.get_set_other _ _ _ _ h]
      exact hv k
  intro k
  cases d with
  | closed => exact ⟨hset _ _ (fun k => (hs k).1) k, (hs k).2⟩
  | opened => exact ⟨(hs k).1, hset _ _ (fun k => (hs k).2) k⟩

theorem historyLaw_completeTravel (g : Gate) (d : Demand) (hs : HistoryLaw s) : HistoryLaw (completeTravel g d s) := by
  unfold completeTravel
  dsimp only
  split
  · exact supports_historyLaw.keep (frame_putGate g _ _) rfl (historyLaw_recordTravel g d _ hs)
  · exact supports_historyLaw.keep (frame_putGate g _ _) rfl hs

theorem historyLaw_limitEvent (g : Gate) (l : Limit) (a : Bool) (hs : HistoryLaw s) : HistoryLaw (limitEvent g l a s) := by
  have hput : ∀ u, HistoryLaw (putGate g u s) := fun u => supports_historyLaw.keep (frame_putGate g u s) rfl hs
  have htravel : ∀ b d, HistoryLaw (beginTravel b g d s) := fun b d =>
    supports_historyLaw.keep (frame_beginTravel b g d s) rfl hs
  have hevaluate : ∀ u, HistoryLaw (evaluateGate g (putGate g u s)) := fun u =>
    supports_historyLaw.keep (frame_evaluateGate g _) rfl (hput u)
  unfold limitEvent
  dsimp only
  split
  · exact hs
  · split
    · exact hput _
    · split
      · split
        · exact historyLaw_completeTravel g .closed hs
        · exact hs
      · split
        · exact historyLaw_completeTravel g .opened hs
        · exact hs
      · split
        · exact hs
        · split
          · exact htravel _ _
          · exact hput _
      · split
        · exact hs
        · split
          · exact htravel _ _
          · exact hput _
      · split
        · exact hevaluate _
        · exact hs
      · split
        · exact hevaluate _
        · exact hs
      · split
        · exact hput _
        · exact hs
      · exact hs
      · exact hs

theorem historyLaw_lost : ∀ g : Gate, (Retained.lost.closing.get g).length ≤ 8 ∧ (Retained.lost.opening.get g).length ≤ 8 := by
  intro g
  cases g <;> exact ⟨Nat.zero_le 8, Nat.zero_le 8⟩

theorem historyLaw_outcome (c : Instr) (hs : HistoryLaw s) : HistoryLaw (outcome c s) := by
  cases c with
  | powerOnReset a r => exact historyLaw_lost
  | configurationReadEnd a =>
    by_cases h : s.phase = .configRead
    · rcases configurationReadEnd_cases a h with ⟨i, b, he⟩ | ⟨i, b, x, he⟩
      · rw [he]
        exact supports_historyLaw.keep (frame_configFault i b s) rfl hs
      · rw [he]
        refine supports_historyLaw.keep (frame_evaluateHazard_joining (s := joiningBlocks i b x s) rfl) rfl fun g => ?_
        show ((judgeRetained s.startup.warm s.retained x).closing.get g).length ≤ 8
          ∧ ((judgeRetained s.startup.warm s.retained x).opening.get g).length ≤ 8
        unfold judgeRetained Retained.checkRing
        split
        · split
          · exact hs g
          · exact hs g
        · exact historyLaw_lost g
    · rw [configurationReadEnd_eq_self h]
      exact hs
  | limitInputChange g l a =>
    have hpin : HistoryLaw (takeLimit g l a s) := hs
    dsimp only [outcome, exec, execLimitInputChange]
    split
    · exact hs
    · split
      · split
        · exact supports_historyLaw.keep (frame_followLimits g _) rfl hpin
        · split
          · exact historyLaw_limitEvent g l a hpin
          · exact hpin
      · exact hpin
  | _ => exact supports_historyLaw.keep (frame_outcome _ s) rfl hs

theorem frame_secondQuiet (s : State) : Frame Part.ofQuiet s (secondQuiet s) := by
  have htimer : ∀ x, Frame Part.ofQuiet s (s.withStartup { s.startup with entryTimer := x }) := fun x =>
    (frame_quiet s s.startup.quiet x).widen rfl
  unfold secondQuiet
  split
  · exact Frame.ite ((htimer _).trans (frame_judgeQuiet _)) (htimer _)
  · exact Frame.refl _ s

/-- Settles O9: a record enters the ring with the hour serial, a duration enters a history of eight. -/
theorem retainedLawsAreKept : Obligations.RetainedLawsAreKept :=
  keptByEveryStep_of (fun _ _ h => h) (fun c _ ⟨hr, hh⟩ => ⟨ringLaw_outcome c hr, historyLaw_outcome c hh⟩)
    (advance_keeps (fun s => (supports_ringLaw.and supports_historyLaw).keep (frame_advanceTick s) rfl) (fun _ _ h => h)
      (fun s => (supports_ringLaw.and supports_historyLaw).keep (frame_secondTimers s) rfl)
      (fun s => (supports_ringLaw.and supports_historyLaw).keep (frame_secondQuiet s) rfl))

end Sys2Proof.Machine
end

section
/-! PROOF. What the seven commands of a received bulletin share, and the laws of the transmitter and the receiver (R59, R71 to R75). -/

namespace Sys2Proof.Machine

open Sys2Proof

variable {s t : State}

/-! ## The commands of a received bulletin -/

/-- What a command of a received bulletin hands the handler: its header, what the sender's entry takes, and the service of its
kind. -/
def reception : Instr → Option (FrameHeader × (Peer → Peer) × (State → State))
  | .announceReceived h b => some (h, takeAnnounce b, fun s => s)
  | .statusReceived h b => some (h, takeStatus b, fun s => s)
  | .closureReceived h b => some (h, fun p => p, serveClosure false h.source b)
  | .alertReceived h b => some (h, fun p => p, serveClosure true h.source b)
  | .floorReceived h b => some (h, fun p => p, serveFloor h.source b)
  | .queryReceived h a => some (h, fun p => p, serveQuery h.source a)
  | .recapReceived h a => some (h, fun p => p, serveRecap h.source a)
  | _ => none

/-- The parts the service of a bulletin may write. -/
def Part.ofServe : List Part :=
  [.floor, .hold, .walker, .peerEntries, .neighbours, .lineFlags, .effective] ++ Part.ofRecords

/-- A RECAP's answer presents entries and restarts the walker. -/
theorem frame_serveRecap_parts (a b : Byte) (s : State) : Frame (.walker :: Part.ofPresent) s (serveRecap a b s) := by
  have hboth : Frame (.walker :: Part.ofPresent) s (restartWalker (present .status (present .announce s))) :=
    ((frame_present _ s).widen rfl).trans (((frame_present _ _).widen rfl).trans ((frame_restartWalker _).widen rfl))
  exact Frame.guard (Frame.ite ((frame_answerInFault s).widen rfl)
    (Frame.ite (hboth.trans ((frame_returnRecords _ _).widen rfl)) hboth))

theorem frame_serve {c : Instr} {h : FrameHeader} {take : Peer → Peer} {serve : State → State}
    (hc : reception c = some (h, take, serve)) (s : State) : Frame Part.ofServe s (serve s) := by
  have hanswer : ∀ t : State, Frame Part.ofServe t (answerInFault t) := fun t => (frame_answerInFault t).widen rfl
  have hpresent : ∀ (e : Bulletin) (t : State), Frame Part.ofServe t (present e t) := fun e t => (frame_present e t).widen rfl
  cases c <;> cases hc
  case announceReceived => exact Frame.refl _ s
  case statusReceived => exact Frame.refl _ s
  case closureReceived => exact Frame.guard ((frame_takeClosure _ _ _ s).widen rfl)
  case alertReceived => exact Frame.guard ((frame_takeClosure _ _ _ s).widen rfl)
  case floorReceived => exact Frame.guard ((frame_applyFloor _ _ s).widen rfl)
  case queryReceived => exact Frame.guard (Frame.ite (hanswer s) ((hpresent _ s).trans (hpresent _ _)))
  case recapReceived => exact (frame_serveRecap_parts _ _ s).widen rfl

theorem outcome_reception {c : Instr} {h : FrameHeader} {take : Peer → Peer} {serve : State → State}
    (hc : reception c = some (h, take, serve)) (s : State) : outcome c s = receiveFrame h take serve s := by
  cases c <;> cases hc <;> rfl

/-- The parts the peer table's service of a frame may write. -/
def Part.ofPeers : List Part := [.peerEntries, .neighbours, .effective] ++ Part.ofQuiet

theorem frame_servePeer_parts (h : FrameHeader) (take : Peer → Peer) (s : State) :
    Frame Part.ofPeers s (servePeer h take s).1 := by
  have hstore : ∀ p, Frame Part.ofPeers s (storePeer p s) := fun p => (frame_storePeer p s).widen rfl
  have hreport : ∀ t, Frame Part.ofPeers t (reportPeers t) := fun t => (frame_reportPeers t).widen rfl
  have hgap : ∀ t, Frame Part.ofPeers t (noteGap h.source t) := fun t => (frame_noteGap h.source t).widen rfl
  have hboth : ∀ p, Frame Part.ofPeers s (reportPeers (storePeer p s)) := fun p => (hstore p).trans (hreport _)
  unfold servePeer
  split
  · exact Frame.ite (hboth _) (hstore _)
  · split
    · exact hstore _
    · have hserved : ∀ p (b : Bool), Frame Part.ofPeers s (if b = true then reportPeers (storePeer p s) else storePeer p s) :=
        fun p _ => Frame.ite (hboth p) (hstore p)
      exact Frame.ite ((hserved _ _).trans (hgap _)) (hserved _ _)

/-- Once the frame has ended the service of a received bulletin leaves the receiver as it is. -/
theorem frame_received_of_active {h : FrameHeader} {take : Peer → Peer} {serve : State → State} {ps : List Part}
    (hs : ∀ t, Frame ps t (serve t)) (hps : Part.within (.lineFlags :: Part.ofPeers) ps = true)
    (hactive : s.line.receiver ≠ .inactive) : Frame ps (endFrame s) (receiveFrame h take serve s) := by
  have hconflict : Frame ps (endFrame s) (addressConflict (endFrame s)) :=
    ((frame_addressConflict _).widen (qs := .lineFlags :: Part.ofPeers) rfl).widen hps
  have hpeer : Frame ps (endFrame s) (servePeer h take (endFrame s)).1 :=
    ((frame_servePeer_parts h take _).widen (qs := .lineFlags :: Part.ofPeers) rfl).widen hps
  unfold receiveFrame
  rw [if_neg hactive]
  refine Frame.ite (Frame.refl _ _) (Frame.ite hconflict ?_)
  split
  · next e =>
    rw [e] at hpeer
    exact hpeer.trans (hs _)
  · next e =>
    rw [e] at hpeer
    exact hpeer

/-- R58, R78: a received frame leaves the state alone, or is the end of the frame and then what serves it. -/
theorem frame_received {h : FrameHeader} {take : Peer → Peer} {serve : State → State} {ps : List Part}
    (hs : ∀ t, Frame ps t (serve t)) (hps : Part.within (.lineFlags :: Part.ofPeers) ps = true) (s : State) :
    receiveFrame h take serve s = s ∨ Frame ps (endFrame s) (receiveFrame h take serve s) := by
  by_cases hactive : s.line.receiver = .inactive
  · exact .inl (if_pos hactive)
  · exact .inr (frame_received_of_active hs hps hactive)

theorem frame_reception {c : Instr} {h : FrameHeader} {take : Peer → Peer} {serve : State → State}
    (hc : reception c = some (h, take, serve)) (s : State) :
    outcome c s = s ∨ Frame Part.ofServe (endFrame s) (outcome c s) := by
  rw [outcome_reception hc]
  exact frame_received (frame_serve hc) rfl s

/-- A law is kept by a received frame when it is kept by the end of the frame, by ADDRESS-CONFLICT, by the peer table and by the
service of the frame's kind. -/
theorem receiveFrame_cases {law : State → Prop} {h : FrameHeader} {take : Peer → Peer} {serve : State → State} (hs : law s)
    (hend : law (endFrame s)) (hconflict : law (addressConflict (endFrame s)))
    (hpeer : law (servePeer h take (endFrame s)).1) (hserve : ∀ t, law t → law (serve t)) :
    law (receiveFrame h take serve s) := by
  unfold receiveFrame
  split
  · exact hs
  · dsimp only
    split
    · exact hend
    · split
      · exact hconflict
      · split
        · next e =>
          rw [e] at hpeer
          exact hserve _ hpeer
        · next e =>
          rw [e] at hpeer
          exact hpeer

/-! ## The transmitter's law, on the line -/

/-- R71 to R75: what the law of the transmitter asks of the line. -/
def FlightOk (l : Line) : Prop :=
  l.attempts ≤ 16 ∧ (l.inFlight = none ↔ l.attempts = 0) ∧ (l.sending ≠ none → l.inFlight ≠ none ∧ l.wait = none)
    ∧ (l.inFlight ≠ none → l.sending = none → l.attempts < 16) ∧ l.successRun < 4
    ∧ (l.lineTrouble = false → l.successRun = 0)

theorem flightLaw_iff (s : State) : FlightLaw s ↔ FlightOk s.line := Iff.rfl

/-- The wait may change where nothing is being sent. -/
theorem FlightOk.wait {l m : Line} (h : FlightOk l) (ha : m.attempts = l.attempts) (hf : m.inFlight = l.inFlight)
    (hs : m.sending = l.sending) (hr : m.successRun = l.successRun) (ht : m.lineTrouble = l.lineTrouble)
    (hw : l.sending ≠ none → m.wait = l.wait) : FlightOk m := by
  obtain ⟨h1, h2, h3, h4, h5, h6⟩ := h
  unfold FlightOk
  rw [ha, hf, hs, hr, ht]
  exact ⟨h1, h2, fun hne => ⟨(h3 hne).1, (hw hne).trans (h3 hne).2⟩, h4, h5, h6⟩

theorem followQueue_wait {s : State} (h : s.line.inFlight ≠ none) : followQueue s = s := by
  unfold followQueue
  cases hf : s.line.inFlight with
  | none => exact absurd hf h
  | some f => simp

theorem flightLaw_followQueue (hs : FlightLaw s) : FlightLaw (followQueue s) := by
  by_cases h : s.line.inFlight = none
  · obtain ⟨w, d, he⟩ := followQueue_eq s
    rw [he]
    obtain ⟨-, -, h3, -⟩ := id hs
    exact FlightOk.wait (l := s.line) hs rfl rfl rfl rfl rfl fun hne => absurd h (h3 hne).1
  · rw [followQueue_wait h]
    exact hs

theorem flightLaw_present (e : Bulletin) (hs : FlightLaw s) : FlightLaw (present e s) := by
  unfold present
  split
  · exact hs
  · split
    · exact hs
    · exact flightLaw_followQueue hs

theorem Line.restartWait_spec (l : Line) : ∃ w d, l.restartWait = { l with wait := w, draws := d }
    ∧ (l.wait ≠ some .interrupted → w = l.wait) := by
  unfold Line.restartWait
  split
  · next hw =>
    split
    · exact ⟨_, _, rfl, fun hne => absurd hw hne⟩
    · split
      · exact ⟨_, _, rfl, fun hne => absurd hw hne⟩
      · exact ⟨_, l.draws, rfl, fun hne => absurd hw hne⟩
  · exact ⟨l.wait, l.draws, rfl, fun _ => rfl⟩

theorem flightLaw_endFrame (hs : FlightLaw s) : FlightLaw (endFrame s) := by
  obtain ⟨-, -, h3, -⟩ := id hs
  unfold endFrame
  split
  · exact hs
  · obtain ⟨w, d, he, hw⟩ := Line.restartWait_spec { s.line with receiver := .hunting, echo := false }
    rw [he]
    refine FlightOk.wait (l := s.line) hs rfl rfl rfl rfl rfl fun hne => hw ?_
    show s.line.wait ≠ some .interrupted
    rw [(h3 hne).2]
    exact nofun

theorem supports_flightLaw : Supports [.wait, .flight, .lineFlags] FlightLaw := fun s t h hs => by
  obtain ⟨hw, -⟩ := h .wait (by simp)
  obtain ⟨hf, ha, hsend, -⟩ := h .flight (by simp)
  obtain ⟨ht, hr, -⟩ := h .lineFlags (by simp)
  exact FlightOk.wait (l := s.line) hs ha.symm hf.symm hsend.symm hr.symm ht.symm fun _ => hw.symm

theorem flightLaw_of_turn {ps : List Part} (hd : Part.apart [.wait, .flight, .lineFlags] (Part.plain ++ ps) = true)
    (s t : State) (h : Turn ps s t) (hs : FlightLaw s) : FlightLaw t := by
  cases h with
  | aside h => exact supports_flightLaw.keep h hd hs
  | @present e => exact flightLaw_present e hs
  | follow => exact flightLaw_followQueue hs
  | endFrame => exact flightLaw_endFrame hs
  | conflict => exact hs
  | @remove i r =>
    refine supports_flightLaw.keep (frame_dropDisplayed r.id _) rfl ?_
    exact flightLaw_followQueue (s := (s.setSlot i none).withLine { s.line with
      queue := s.line.queue.filter (fun e => decide (e ≠ .closure r.id ∧ e ≠ .alert r.id)) }) hs
  | _ => exact hs

/-! ## The commands of the transmitter -/

theorem flightLaw_characterReceived (c : Byte) (b : Bool) (hs : FlightLaw s) :
    FlightLaw (outcome (.characterReceived c b) s) := by
  dsimp only [outcome, exec, execCharacterReceived]
  split
  · exact hs
  · obtain ⟨r, d, e, i, w, x, he, hw, hx, -⟩ := characterReceived_line s c b
    rw [he]
    obtain ⟨h1, h2, h3, h4, h5, h6⟩ := hs
    refine ⟨h1, h2, fun hne => ?_, fun hf hnone => h4 hf (hx.mp hnone), h5, h6⟩
    obtain ⟨hflight, hwait⟩ := h3 fun e => hne (hx.mpr e)
    exact ⟨hflight, hw hwait⟩

theorem flightLaw_firstAttempt (e : Bulletin) (rest : List Bulletin) (hs : FlightLaw s) :
    FlightLaw (firstAttempt e rest s) := by
  obtain ⟨-, -, -, -, h5, h6⟩ := id hs
  unfold firstAttempt
  split
  · exact flightLaw_followQueue (s := s.withLine { s.line with queue := rest }) hs
  · refine supports_flightLaw.keep (frame_enterFlight e _) rfl ?_
    exact ⟨(by decide : 1 ≤ 16), ⟨nofun, nofun⟩, fun _ => ⟨nofun, rfl⟩, fun _ => nofun, h5, h6⟩

theorem sending_of_waitDone {l : Line} (h : l.waitDone = true) : l.sending = none := by
  unfold Line.waitDone at h
  split at h
  · exact Option.isNone_iff_eq_none.mp (Bool.and_eq_true_iff.mp h).1
  · cases h

theorem flightLaw_attemptStart (hs : FlightLaw s) : FlightLaw (outcome .attemptStart s) := by
  obtain ⟨h1, h2, h3, h4, h5, h6⟩ := id hs
  dsimp only [outcome, exec, execAttemptStart]
  split
  · next h =>
    have hsending := sending_of_waitDone (Bool.and_eq_true_iff.mp h).2
    split
    · next f hf =>
      have hlt := h4 (by rw [hf]; exact nofun) hsending
      exact ⟨hlt, ⟨nofun, nofun⟩, fun _ => ⟨nofun, rfl⟩, fun _ => nofun, h5, h6⟩
    · split
      · exact flightLaw_firstAttempt _ _ hs
      · exact ⟨h1, h2, fun hne => absurd hsending hne, h4, h5, h6⟩
  · exact hs

/-- With no bulletin in flight the law asks the success run alone. -/
theorem flightOk_land {l : Line} (hrun : l.successRun < 4) (ht : l.lineTrouble = false → l.successRun = 0) :
    FlightOk l.land :=
  ⟨Nat.zero_le 16, ⟨fun _ => rfl, fun _ => rfl⟩, fun h => absurd rfl h, fun h => absurd rfl h, hrun, ht⟩

theorem flightLaw_countSuccess (hs : FlightLaw s) : FlightLaw (countSuccess s) := by
  obtain ⟨h1, h2, h3, h4, h5, h6⟩ := id hs
  unfold countSuccess
  split
  · next ht =>
    split
    · exact flightLaw_present .status (s := s.withLine { s.line with lineTrouble := false, successRun := 0 })
        ⟨h1, h2, h3, h4, (by decide : 0 < 4), fun _ => rfl⟩
    · refine ⟨h1, h2, h3, h4, ?_, fun hf => ?_⟩
      · show s.line.successRun + 1 < 4
        omega
      · rw [show s.line.lineTrouble = false from hf] at ht
        cases ht
  · exact hs

theorem flightLaw_abandon (s : State) : FlightLaw (abandon s) := by
  have hland : FlightLaw (s.withLine { s.line.land with lineTrouble := true, successRun := 0 }) :=
    ⟨Nat.zero_le 16, ⟨fun _ => rfl, fun _ => rfl⟩, fun h => absurd rfl h, fun h => absurd rfl h,
      (by decide : 0 < 4), nofun⟩
  unfold abandon
  dsimp only
  split
  · exact flightLaw_followQueue hland
  · exact flightLaw_followQueue (flightLaw_present .status hland)

theorem flightLaw_attemptFailed (hs : FlightLaw s) : FlightLaw (outcome .attemptFailed s) := by
  obtain ⟨h1, h2, h3, h4, h5, h6⟩ := id hs
  dsimp only [outcome, exec, execAttemptFailed]
  split
  · split
    · split
      · next f hf hlt => exact ⟨h1, h2, fun hne => absurd rfl hne, fun _ _ => hlt, h5, h6⟩
      · exact flightLaw_abandon _
    · exact flightOk_land (l := s.line.stopSending) h5 h6
  · exact hs

theorem flightLaw_outcome (c : Instr) (hs : FlightLaw s) : FlightLaw (outcome c s) := by
  have hturn : ∀ qs : List Part, Part.apart [.wait, .flight, .lineFlags] (Part.plain ++ qs) = true →
    ∀ a b, Turn qs a b → FlightLaw a → FlightLaw b := fun qs h => flightLaw_of_turn h
  have hreset : ∀ a r w m, FlightLaw (resetWith a r w m s) := fun _ _ _ _ =>
    ⟨Nat.zero_le 16, ⟨fun _ => rfl, fun _ => rfl⟩, fun h => absurd rfl h, fun h => absurd rfl h, Nat.zero_lt_succ 3,
      fun _ => rfl⟩
  cases c with
  | powerOnReset a r => exact hreset a r _ _
  | warmReset a r => exact hreset a r _ _
  | characterReceived c b => exact flightLaw_characterReceived c b hs
  | attemptStart => exact flightLaw_attemptStart hs
  | attemptSuccess =>
    obtain ⟨-, -, -, -, h5, h6⟩ := id hs
    dsimp only [outcome, exec, execAttemptSuccess]
    split
    · exact flightLaw_followQueue (flightLaw_countSuccess (s := s.withLine s.line.land) (flightOk_land h5 h6))
    · exact hs
  | attemptFailed => exact flightLaw_attemptFailed hs
  | _ => exact keep_of_turns hturn rfl hs

/-! ## The assembly buffer -/

theorem supports_bufferLaw : Supports [.receiver] BufferLaw := fun s t h hs => by
  obtain ⟨-, hb, -⟩ := h .receiver (by simp)
  unfold BufferLaw at hs ⊢
  rwa [← hb]

theorem buffer_endFrame (s : State) : (endFrame s).line.buffer = s.line.buffer := by
  unfold endFrame
  split
  · rfl
  · obtain ⟨w, d, he, -⟩ := Line.restartWait_spec { s.line with receiver := .hunting, echo := false }
    rw [he]
    rfl

theorem bufferLaw_endFrame (hs : BufferLaw s) : BufferLaw (endFrame s) := by
  unfold BufferLaw
  rwa [buffer_endFrame]

theorem bufferLaw_reception {c : Instr} {x} (hc : reception c = some x) (hs : BufferLaw s) : BufferLaw (outcome c s) := by
  rcases frame_reception hc s with h | h
  · rw [h]
    exact hs
  · exact supports_bufferLaw.keep h rfl (bufferLaw_endFrame hs)

theorem bufferLaw_attemptFailed (hs : BufferLaw s) : BufferLaw (outcome .attemptFailed s) := by
  have hstop : BufferLaw (s.withLine s.line.stopSending) := hs
  have hland : ∀ u : State, BufferLaw u → BufferLaw (abandon u) := fun u hu => by
    have h1 : BufferLaw (u.withLine { u.line.land with lineTrouble := true, successRun := 0 }) := hu
    unfold abandon
    dsimp only
    split
    · exact supports_bufferLaw.keep (frame_followQueue _) rfl h1
    · exact supports_bufferLaw.keep (frame_followQueue _) rfl (supports_bufferLaw.keep (frame_present _ _) rfl h1)
  dsimp only [outcome, exec, execAttemptFailed]
  split
  · split
    · split
      · exact hs
      · exact hland _ hstop
    · exact hs
  · exact hs

theorem bufferLaw_outcome (c : Instr) (hs : BufferLaw s) : BufferLaw (outcome c s) := by
  cases c with
  | powerOnReset a r => exact Nat.zero_le 54
  | warmReset a r => exact Nat.zero_le 54
  | configurationReadEnd a =>
    by_cases h : s.phase = .configRead
    · rcases configurationReadEnd_cases a h with ⟨i, b, he⟩ | ⟨i, b, x, he⟩
      · rw [he]
        have hstart : BufferLaw (startLineAndClock
            (s.withStartup { s.startup with phase := .configFault, image := i, substituted := b })) := hs
        unfold enterConfigFault
        dsimp only
        split
        · exact hstart
        · exact supports_bufferLaw.keep (frame_present _ _) rfl hstart
      · rw [he]
        exact supports_bufferLaw.keep (frame_evaluateHazard _ _) rfl hs
    · rw [configurationReadEnd_eq_self h]
      exact hs
  | receiverIdleReached =>
    dsimp only [outcome, exec, execReceiverIdleReached]
    split <;> exact hs
  | characterReceived c b =>
    dsimp only [outcome, exec, execCharacterReceived]
    split
    · exact hs
    · obtain ⟨r, d, e, i, w, x, he, -, -, hbuf⟩ := characterReceived_line s c b
      rw [he]
      exact hbuf hs
  | frameDiscarded =>
    dsimp only [outcome, exec, execFrameDiscarded]
    split
    · exact hs
    · split
      · exact supports_bufferLaw.keep (frame_addressConflict _) rfl (bufferLaw_endFrame hs)
      · exact bufferLaw_endFrame hs
  | announceReceived h b => exact bufferLaw_reception rfl hs
  | statusReceived h b => exact bufferLaw_reception rfl hs
  | closureReceived h b => exact bufferLaw_reception rfl hs
  | alertReceived h b => exact bufferLaw_reception rfl hs
  | floorReceived h b => exact bufferLaw_reception rfl hs
  | queryReceived h a => exact bufferLaw_reception rfl hs
  | recapReceived h a => exact bufferLaw_reception rfl hs
  | attemptFailed => exact bufferLaw_attemptFailed hs
  | _ => exact supports_bufferLaw.keep (frame_outcome _ s) rfl hs

/-! ## A tick -/

/-- A tick moves the line's times alone. -/
theorem line_advanceTick (s : State) : (advanceTick s).line = s.line.advance (lineRate s.startup.rateCode) := by
  have hhear : ∀ t : State, (hearReplyPair t).line = t.line := fun t => by
    unfold hearReplyPair
    split <;> rfl
  unfold advanceTick
  dsimp only
  split
  · exact hhear _
  · exact hhear _

theorem flightLaw_advanceTick (hs : FlightLaw s) : FlightLaw (advanceTick s) := by
  obtain ⟨h1, h2, h3, h4, h5, h6⟩ := hs
  rw [flightLaw_iff, line_advanceTick]
  have hsome : ∀ {α : Type} {f : α → α} {o : Option α}, o.map f ≠ none → o ≠ none := fun h e => h (by rw [e]; rfl)
  refine ⟨h1, h2, fun hne => ?_, fun hf hnone => h4 hf (Option.map_eq_none_iff.mp hnone), h5, h6⟩
  obtain ⟨hflight, hwait⟩ := h3 (hsome hne)
  exact ⟨hflight, by simp [Line.advance, hwait]⟩

/-- Settles O14: the transmitter's law turn by turn and by each command of an attempt; a character joins a buffer of less than
54. -/
theorem transmitterLawIsKept : Obligations.TransmitterLawIsKept :=
  keptByEveryStep_of (fun _ _ h => h) (fun c _ ⟨hf, hb⟩ => ⟨flightLaw_outcome c hf, bufferLaw_outcome c hb⟩)
    (advance_keeps (law := fun s => FlightLaw s ∧ BufferLaw s)
      (fun s ⟨hf, hb⟩ => ⟨flightLaw_advanceTick hf, by unfold BufferLaw; rw [line_advanceTick]; exact hb⟩)
      (fun _ _ h => h)
      (fun s => (supports_flightLaw.and supports_bufferLaw).keep (frame_secondTimers s) rfl)
      (fun s ⟨hf, hb⟩ => ⟨(turns_secondQuiet (ps := []) s).keep (flightLaw_of_turn rfl) hf,
        supports_bufferLaw.keep (frame_secondQuiet s) rfl hb⟩))

end Sys2Proof.Machine
end

section
/-! PROOF. The laws of the refresh walker and of the published values (R9, R117, R118). -/

namespace Sys2Proof.Machine

open Sys2Proof

variable {s t : State}

/-! ## The walker -/

/-- What R117 and R118 ask of the walker, by whether it runs. -/
def WalkerOk (running : Prop) (index : Nat) (fast : Bool) (timer : Option Nat) : Prop :=
  index < 16 ∧ (timer.isSome = true ↔ running) ∧ timer.getD 0 ≤ (if fast then 2 else 20)

theorem walkerLaw_iff (s : State) : WalkerLaw s
    ↔ WalkerOk (s.phase = .running) s.register.walkerIndex s.register.walkerFast s.register.walkerTimer := Iff.rfl

theorem supports_walkerLaw : Supports [.settings, .walker] WalkerLaw := fun s t h hs => by
  obtain ⟨hi, hf, ht⟩ := h .walker (by simp)
  have hphase : t.phase = s.phase := by
    have := congrArg Startup.phase (h .settings (by simp))
    exact this.symm
  rw [walkerLaw_iff] at hs ⊢
  rwa [hphase, ← hi, ← hf, ← ht]

theorem walkerLaw_walkerAdvance (h : s.phase = .running) : WalkerLaw (walkerAdvance s) := by
  have hframe : ∀ (u : State) (i : Nat) (f : Bool) (n : Nat), u.phase = .running → i < 16 → n ≤ (if f then 2 else 20) →
      WalkerLaw (u.withRegister { u.register with walkerIndex := i, walkerFast := f, walkerTimer := some n }) :=
    fun u i f n hu hi hn => ⟨hi, ⟨fun _ => hu, fun _ => rfl⟩, hn⟩
  have hpresent : ∀ e, (present e s).phase = .running := fun e => (((frame_present e s).settings_eq (by decide)).1).trans h
  have hmod : ∀ n : Nat, n % 16 < 16 := fun n => Nat.mod_lt n (by decide)
  have hpace : ∀ f : Bool, (if f then 2 else 20) ≤ (if f then 2 else 20) := fun f => le_refl _
  unfold walkerAdvance
  dsimp only
  split
  · split
    · exact hframe _ _ _ _ (hpresent _) (hmod _) (hpace _)
    · exact hframe _ _ _ _ h (hmod _) (hpace _)
  · exact hframe _ _ _ _ h (hmod _) (hpace _)

theorem walkerLaw_restartWalker (h : s.phase ≠ .running → WalkerLaw s) : WalkerLaw (restartWalker s) := by
  unfold restartWalker
  split
  · next hr => exact walkerLaw_walkerAdvance hr
  · next hr => exact h hr

theorem walkerLaw_serveRecap (a b : Byte) (hs : WalkerLaw s) : WalkerLaw (serveRecap a b s) := by
  have keep : ∀ {u v : State}, Frame Part.ofPresent u v → WalkerLaw u → WalkerLaw v := fun hf => supports_walkerLaw.keep hf rfl
  have hboth : WalkerLaw (restartWalker (present .status (present .announce s))) :=
    walkerLaw_restartWalker fun _ => keep (frame_present _ _) (keep (frame_present _ _) hs)
  unfold serveRecap
  split
  · split
    · exact keep (frame_answerInFault s) hs
    · dsimp only
      split
      · exact keep (frame_returnRecords _ _) hboth
      · exact hboth
  · exact hs

/-- With the walker at rest the law holds in every phase but RUNNING. -/
theorem walkerLaw_of_not_running (hs : WalkerLaw s) (hr : s.phase ≠ .running) (hn : t.phase ≠ .running)
    (hw : Part.walker.agree s t) : WalkerLaw t := by
  obtain ⟨hi, hf, ht⟩ := hw
  obtain ⟨h1, h2, h3⟩ := (walkerLaw_iff s).mp hs
  refine (walkerLaw_iff t).mpr ⟨hi ▸ h1, ?_, by rwa [← hf, ← ht]⟩
  rw [← ht]
  exact ⟨fun h => absurd (h2.mp h) hr, fun h => absurd h hn⟩

theorem phase_configurationReadEnd (a : List Byte) (h : s.phase = .configRead) :
    (outcome (.configurationReadEnd a) s).phase = .configFault ∨ (outcome (.configurationReadEnd a) s).phase = .joining := by
  rcases configurationReadEnd_cases a h with ⟨i, b, he⟩ | ⟨i, b, x, he⟩
  · rw [he, (turns_enterConfigFault (ps := []) i b s).phase_eq]
    exact .inl rfl
  · rw [he, (turns_evaluateHazard (ps := []) false _).phase_eq]
    exact .inr rfl

/-- R185: after the phase and the walker, the entry to RUNNING is requests to the register and evaluations. -/
theorem frame_runningEntry_requests (u : State) :
    Frame Part.ofRecords u (judgeQuiet (evaluateGates (evaluateSigns (bringForward (autocloseTest u))))) :=
  ((frame_autocloseTest u).widen rfl).trans (((frame_bringForward _).widen rfl).trans
    (((frame_evaluateSigns _).widen rfl).trans (((frame_evaluateGates _).widen rfl).trans ((frame_judgeQuiet _).widen rfl))))

theorem runningEntry_eq (h : s.phase = .settling ∧ 70 ≤ s.now) : outcome .runningEntry s
    = judgeQuiet (evaluateGates (evaluateSigns (bringForward (autocloseTest
        (restartWalker (raiseSerial (s.withStartup { s.startup with phase := .running }))))))) := if_pos h

theorem walkerLaw_outcome (c : Instr) (hs : WalkerLaw s) : WalkerLaw (outcome c s) := by
  have hreset : ∀ a r w m, WalkerLaw (resetWith a r w m s) := fun _ _ _ _ =>
    ⟨(by decide : 0 < 16), ⟨nofun, nofun⟩, Nat.zero_le _⟩
  cases c with
  | powerOnReset a r => exact hreset a r _ _
  | warmReset a r => exact hreset a r _ _
  | configurationReadEnd a =>
    by_cases h : s.phase = .configRead
    · refine walkerLaw_of_not_running hs (by rw [h]; exact nofun) ?_
        ((frame_outcome (.configurationReadEnd a) s).keeps (qs := [.walker]) rfl (by simp))
      rcases phase_configurationReadEnd a h with he | he <;> rw [he] <;> exact nofun
    · rw [configurationReadEnd_eq_self h]
      exact hs
  | settlingStart =>
    by_cases h : s.phase = .joining ∧ 10 ≤ s.now
    · refine walkerLaw_of_not_running hs (by rw [h.1]; exact nofun) ?_ (frame_outcome .settlingStart s .walker (by decide))
      rw [(turns_settlingStart (ps := []) h).phase_eq]
      exact nofun
    · rw [settlingStart_eq_self h]
      exact hs
  | runningEntry =>
    by_cases h : s.phase = .settling ∧ 70 ≤ s.now
    · rw [runningEntry_eq h]
      refine supports_walkerLaw.keep (frame_runningEntry_requests _) rfl (walkerLaw_restartWalker fun hne => ?_)
      exact absurd rfl hne
    · rw [runningEntry_eq_self h]
      exact hs
  | recapReceived h a =>
    have hend : WalkerLaw (endFrame s) := supports_walkerLaw.keep (frame_endFrame s) rfl hs
    exact receiveFrame_cases hs hend (supports_walkerLaw.keep (frame_addressConflict _) rfl hend)
      (supports_walkerLaw.keep (frame_servePeer_parts h _ _) rfl hend) (fun t => walkerLaw_serveRecap h.source a)
  | walkerStep =>
    dsimp only [outcome, exec, execWalkerStep]
    split
    · next h => exact walkerLaw_walkerAdvance h.1
    · exact hs
  | _ => exact supports_walkerLaw.keep (frame_outcome _ s) rfl hs

theorem walkerLaw_secondTimers (hs : WalkerLaw s) : WalkerLaw (secondTimers s) := by
  obtain ⟨h1, h2, h3⟩ := (walkerLaw_iff s).mp hs
  have hreg : (secondTimers s).register = if s.phase.operating then { s.register with
      slots := s.register.slots.map (Option.map ClosureRecord.second),
      walkerTimer := s.register.walkerTimer.map (· - 1) } else s.register := by
    unfold secondTimers secondServing
    cases s.phase.operating <;> cases s.phase.serving <;> rfl
  rw [walkerLaw_iff, ((frame_secondTimers s).settings_eq (by decide)).1, hreg]
  split
  · refine ⟨h1, by rw [Option.isSome_map]; exact h2, ?_⟩
    refine le_trans ?_ h3
    cases s.register.walkerTimer with
    | none => exact le_refl 0
    | some n => exact Nat.sub_le n 1
  · exact ⟨h1, h2, h3⟩

/-! ## The values published -/

/-- What R9 asks of a channel's values. -/
def ChannelOk (ch : Channel) : Prop := valueOk ch.latest ∧ valueOk ch.hourPeak

theorem valueOk_none : valueOk none := nofun

theorem valueOk_scale (raw : Nat) (gain offset : Int) : valueOk (some (scale raw gain offset)) := by
  rintro x ⟨rfl⟩
  unfold scale clampValue
  split
  · omega
  · split <;> omega

theorem valueOk_largerValue {a b : Value} (ha : valueOk a) (hb : valueOk b) : valueOk (largerValue a b) := by
  unfold largerValue
  split
  · rintro x ⟨rfl⟩
    rcases max_choice (_ : Int) _ with h | h
    · rw [h]; exact ha _ rfl
    · rw [h]; exact hb _ rfl
  · exact hb
  · exact ha

theorem takeRaw_hourPeak (ch : Channel) (k : ChannelConfig) (raw : Option Nat) :
    (ch.takeRaw k raw).hourPeak = ch.hourPeak := by
  cases raw <;> rfl

theorem valueOk_takeRaw (ch : Channel) (k : ChannelConfig) (raw : Option Nat) : valueOk (ch.takeRaw k raw).latest := by
  cases raw with
  | none => exact valueOk_none
  | some raw => exact valueOk_scale raw k.gain k.offset

theorem supports_valueLaw : Supports [.channels] ValueLaw := fun s t h hs c => by
  have hc : s.channels = t.channels := h .channels (by simp)
  rw [← hc]
  exact hs c

theorem valueLaw_setChannel (hs : ValueLaw s) (c : Chan) {ch : Channel} (h : ChannelOk ch) : ValueLaw (s.setChannel c ch) := by
  intro d
  show valueOk ((s.channels.set c ch).get d).latest ∧ valueOk ((s.channels.set c ch).get d).hourPeak
  by_cases hd : d = c
  · subst hd
    rw [PerChan.get_set_same]
    exact h
  · rw [PerChan.get_set_other _ _ _ _ hd]
    exact hs d

theorem valueLaw_presentSample (c : Chan) (v : Value) (hs : ValueLaw s) : ValueLaw (presentSample c v s) := by
  have hset : ∀ a r, ValueLaw (s.setChannel c { s.channels.get c with alert := a, run := r }) := fun a r =>
    valueLaw_setChannel hs c (hs c)
  unfold presentSample
  dsimp only
  split
  · exact hset _ _
  · exact supports_valueLaw.keep (frame_reportAlert _) rfl (hset _ _)

theorem valueLaw_widthSample (c : Chan) (raw : Option Nat) (hs : ValueLaw s) : ValueLaw (widthSample c raw s) := by
  refine valueLaw_presentSample c _ (valueLaw_setChannel hs c ⟨valueOk_takeRaw _ _ raw, ?_⟩)
  show valueOk ((s.channels.get c).takeRaw (s.channelConfig c) raw).hourPeak
  rw [takeRaw_hourPeak]
  exact (hs c).2

theorem valueLaw_endWindow (c : Chan) (hs : ValueLaw s) : ValueLaw (endWindow c s) := by
  refine valueLaw_presentSample c _ (valueLaw_setChannel hs c ⟨valueOk_takeRaw _ _ _, ?_⟩)
  exact valueOk_largerValue (hs c).2 (valueOk_takeRaw _ _ _)

theorem valueLaw_closeMinute (c : Chan) (hs : ValueLaw s) : ValueLaw (closeMinute c s) := by
  unfold closeMinute
  dsimp only
  split
  · refine valueLaw_presentSample c _ (valueLaw_setChannel hs c ⟨valueOk_takeRaw _ _ _, ?_⟩)
    rw [takeRaw_hourPeak]
    exact (hs c).2
  · exact valueLaw_setChannel hs c (hs c)

theorem valueLaw_insertHour (hs : ValueLaw s) : ValueLaw (insertHour s) := by
  have hbegin : ∀ (c : Chan) (u : State), ValueLaw u → ValueLaw (beginHour c u) := fun c u hu =>
    valueLaw_setChannel hu c ⟨(hu c).1, valueOk_none⟩
  have hstart : ValueLaw ((s.withRetained (s.retained.insert s.hourRecord)).withPartialPending false) := hs
  exact hbegin .c4 _ (hbegin .c3 _ (hbegin .c2 _ (hbegin .c1 _ hstart)))

theorem valueLaw_outcome (c : Instr) (hs : ValueLaw s) : ValueLaw (outcome c s) := by
  have hreset : ∀ u : State, u.channels = .fill Channel.reset → ValueLaw u := fun u hu c => by
    rw [hu, PerChan.get_fill]
    exact ⟨valueOk_none, valueOk_none⟩
  have hguard : ∀ {p : Prop} [Decidable p] {u : State}, ValueLaw u → ValueLaw (if p then u else s) := fun hu => by
    split
    · exact hu
    · exact hs
  cases c with
  | powerOnReset a r => exact hreset _ rfl
  | warmReset a r => exact hreset _ rfl
  | configurationReadEnd a =>
    by_cases h : s.phase = .configRead
    · rcases configurationReadEnd_cases a h with ⟨i, b, he⟩ | ⟨i, b, x, he⟩
      · rw [he]
        exact supports_valueLaw.keep (frame_configFault i b s) rfl hs
      · rw [he]
        refine supports_valueLaw.keep (frame_evaluateHazard _ _) rfl fun c => ?_
        cases c <;> exact ⟨valueOk_none, valueOk_none⟩
    · rw [configurationReadEnd_eq_self h]
      exact hs
  | pulseEdge ch r =>
    dsimp only [outcome, exec, execPulseEdge]
    refine hguard ?_
    split
    · exact hs
    · exact hguard (valueLaw_setChannel hs ch (hs ch))
    · exact hguard (valueLaw_setChannel hs ch (hs ch))
    · split
      · exact valueLaw_setChannel hs ch (hs ch)
      · exact valueLaw_widthSample ch _ hs
      · exact hs
  | senseLineChange ch b =>
    have hpin : ValueLaw (s.withPins { s.pins with sense := s.pins.sense.set ch b }) := hs
    dsimp only [outcome, exec, execSenseLineChange]
    split
    · split
      · exact valueLaw_setChannel hpin ch (hpin ch)
      · exact valueLaw_widthSample ch none hpin
      · exact hpin
    · exact hpin
  | widthOverrange ch => exact hguard (valueLaw_widthSample ch none hs)
  | silenceTimerExpiry ch =>
    exact hguard (valueLaw_presentSample ch none (valueLaw_setChannel hs ch ⟨valueOk_none, (hs ch).2⟩))
  | rateWindowEnd ch => exact hguard (valueLaw_endWindow ch hs)
  | minuteClose =>
    refine hguard (supports_valueLaw.keep (frame_evaluateSigns _) rfl ?_)
    exact valueLaw_closeMinute .c4 (valueLaw_closeMinute .c3 (valueLaw_closeMinute .c2 (valueLaw_closeMinute .c1 hs)))
  | hourClose => exact hguard (supports_valueLaw.keep (frame_evaluateHazard _ _) rfl (valueLaw_insertHour hs))
  | _ => exact supports_valueLaw.keep (frame_outcome _ s) rfl hs

theorem channels_advanceTick (s : State) (c : Chan) : ((advanceTick s).channels.get c) = if s.phase.operating then
    (s.channels.get c).advance (s.pins.sense.get c) else s.channels.get c := by
  have hhear : ∀ t : State, (hearReplyPair t).channels = t.channels := fun t => by
    unfold hearReplyPair
    split <;> rfl
  unfold advanceTick
  dsimp only
  split
  · cases c <;> rfl
  · rw [hhear]
    rfl

theorem valueLaw_advanceTick (hs : ValueLaw s) : ValueLaw (advanceTick s) := fun c => by
  rw [channels_advanceTick]
  split
  · exact hs c
  · exact hs c

/-- Settles O16: the walker's steps and restarts, and the clamp of every value published. -/
theorem walkerAndValueLawsAreKept : Obligations.WalkerAndValueLawsAreKept :=
  keptByEveryStep_of (fun _ _ h => h) (fun c _ ⟨hw, hv⟩ => ⟨walkerLaw_outcome c hw, valueLaw_outcome c hv⟩)
    (advance_keeps (law := fun s => WalkerLaw s ∧ ValueLaw s)
      (fun s ⟨hw, hv⟩ => ⟨supports_walkerLaw.keep (frame_advanceTick s) rfl hw, valueLaw_advanceTick hv⟩)
      (fun _ _ h => h)
      (fun s ⟨hw, hv⟩ => ⟨walkerLaw_secondTimers hw, supports_valueLaw.keep (frame_secondTimers s) rfl hv⟩)
      (fun s => (supports_walkerLaw.and supports_valueLaw).keep (frame_secondQuiet s) rfl))

end Sys2Proof.Machine
end

section
/-! PROOF. The effective level is the largest of its inputs (R48), and keeps their ranges (R41, R44, R46). -/

namespace Sys2Proof.Machine

open Sys2Proof

variable {s t : State} {law : State → Prop}

/-! ## What a received frame and the peer table keep -/

/-- A law that the peer table's operations keep is kept by its service of a frame. -/
theorem servePeer_keeps (hstore : ∀ p s, law s → law (storePeer p s)) (hreport : ∀ s, law s → law (reportPeers s))
    (hpresent : ∀ e s, law s → law (present e s)) (h : FrameHeader) (take : Peer → Peer) (hs : law s) :
    law (servePeer h take s).1 := by
  have hgap : ∀ u, law u → law (noteGap h.source u) := fun u hu => by
    unfold noteGap
    split
    · exact hu
    · split
      · exact hu
      · split
        · exact hpresent _ u hu
        · exact hstore _ u hu
  have hserved : ∀ p (b : Bool), law (if b = true then reportPeers (storePeer p s) else storePeer p s) := fun p b => by
    split
    · exact hreport _ (hstore p s hs)
    · exact hstore p s hs
  unfold servePeer
  split
  · exact hserved _ _
  · split
    · exact hstore _ s hs
    · dsimp only
      split
      · exact hgap _ (hserved _ _)
      · exact hserved _ _

/-! ## The law of the effective level -/

theorem supports_levelLaw : Supports [.computation, .floor, .neighbours, .effective] LevelLaw := fun s t h hs => by
  obtain ⟨-, -, -, -, -, -, hc⟩ := h .computation (by simp)
  obtain ⟨hf, -⟩ := h .floor (by simp)
  obtain ⟨hn, -⟩ := h .neighbours (by simp)
  have he : s.hazard.effective = t.hazard.effective := h .effective (by simp)
  unfold LevelLaw at hs ⊢
  rwa [← hc, ← hf, ← hn, ← he]

/-- The ranges of the three inputs. -/
def InputsOk (h : Hazard) : Prop := h.computed ≤ 5 ∧ h.floorLevel ≤ 5 ∧ h.neighbourFloor ≤ 4

/-- R48: the recomputation forms the largest of the inputs as they stand. -/
theorem levelLaw_recomputeEffective (h : InputsOk s.hazard) : LevelLaw (recomputeEffective s) := by
  unfold recomputeEffective
  split
  · next he => exact ⟨he.symm, h⟩
  · have hset : LevelLaw (s.withHazard { s.hazard with effective := s.hazard.largest }) := ⟨rfl, h⟩
    exact supports_levelLaw.keep (frame_judgeQuiet _) rfl (supports_levelLaw.keep (frame_evaluateSigns _) rfl
      (supports_levelLaw.keep (frame_present _ _) rfl hset))

theorem neighbourFloorNow_le (s : State) : s.neighbourFloorNow ≤ 4 := by
  have hfold : ∀ (l : List Peer) (m : Nat), m ≤ 5 → l.foldl (fun m p => max m (min (p.level.getD 0) 5)) m ≤ 5 := by
    intro l
    induction l with
    | nil => exact fun m hm => hm
    | cons p rest ih => exact fun m hm => ih _ (max_le hm (Nat.min_le_right _ _))
  exact Nat.sub_le_sub_right (hfold _ 0 (Nat.zero_le 5)) 1

theorem levelLaw_reportPeers (s : State) (hs : LevelLaw s) : LevelLaw (reportPeers s) := by
  obtain ⟨-, hc, hf, -⟩ := id hs
  have hnow := neighbourFloorNow_le s
  have hrecompute : LevelLaw (recomputeNeighbours s) := by
    unfold recomputeNeighbours
    dsimp only
    have h1 := levelLaw_recomputeEffective (s := s.withHazard { s.hazard with
      neighbourFloor := s.neighbourFloorNow, neighbourSilent := s.neighbourSilentNow }) ⟨hc, hf, hnow⟩
    split
    · exact h1
    · exact supports_levelLaw.keep (frame_judgeQuiet _) rfl (supports_levelLaw.keep (frame_evaluateSigns _) rfl
        (supports_levelLaw.keep (frame_present _ _) rfl h1))
  unfold reportPeers
  split
  · exact supports_levelLaw.keep (frame_judgeQuiet _) rfl hrecompute
  · exact hs

theorem nextLevel_le {k : Thresholds} {hy score l : Nat} (h : l ≤ 5) : nextLevel k hy score l ≤ 5 := by
  unfold nextLevel
  split
  · next x hx =>
    have := List.mem_of_find?_eq_some hx
    simp only [List.mem_cons, List.not_mem_nil, or_false] at this
    omega
  · split <;> omega

/-- R55: an evaluation publishes a computed level in range and the largest of the inputs. -/
theorem levelLaw_evaluateHazard (b : Bool) (h : InputsOk s.hazard) : LevelLaw (evaluateHazard b s) := by
  have hpublish : LevelLaw (publish s) := ⟨rfl, nextLevel_le h.1, h.2⟩
  have keep : ∀ {ps : List Part} {u v : State}, Frame ps u v → Part.apart [.computation, .floor, .neighbours, .effective] ps
      = true → LevelLaw u → LevelLaw v := fun hf hd => supports_levelLaw.keep hf hd
  have hlift : ∀ u, LevelLaw u → LevelLaw (countLift u) := fun u => keep (frame_countLift u) rfl
  have htest : ∀ u, LevelLaw u → LevelLaw (bringForward (autocloseTest u)) := fun u hu =>
    keep (frame_bringForward _) rfl (keep (frame_autocloseTest u) rfl hu)
  unfold evaluateHazard
  refine keep (frame_reportEvaluation _ _) rfl ?_
  split
  · split
    · exact htest _ (hlift _ hpublish)
    · exact htest _ hpublish
  · split
    · exact hlift _ hpublish
    · exact hpublish

theorem levelLaw_applyFloor (l n : Nat) (hs : LevelLaw s) : LevelLaw (applyFloor l n s) := by
  obtain ⟨he, hc, hf, hn⟩ := id hs
  have hl : (if decide (l = 0 ∨ n = 0) = true then 0 else min l 5) ≤ 5 := by split <;> omega
  unfold applyFloor
  dsimp only
  generalize (if decide (l = 0 ∨ n = 0) = true then 0 else min l 5) = level at hl ⊢
  split
  · next h =>
    subst h
    exact ⟨he, hc, hf, hn⟩
  · exact supports_levelLaw.keep (frame_autocloseTest _) rfl (levelLaw_recomputeEffective ⟨hc, hl, hn⟩)

theorem levelLaw_serve {c : Instr} {h : FrameHeader} {take : Peer → Peer} {serve : State → State}
    (hc : reception c = some (h, take, serve)) (s : State) (hs : LevelLaw s) : LevelLaw (serve s) := by
  have keep : ∀ {ps : List Part} {u v : State}, Frame ps u v → Part.apart [.computation, .floor, .neighbours, .effective] ps
      = true → LevelLaw u → LevelLaw v := fun hf hd => supports_levelLaw.keep hf hd
  cases c <;> cases hc
  case announceReceived => exact hs
  case statusReceived => exact hs
  case closureReceived => exact keep (Frame.guard (frame_takeClosure _ _ _ s)) rfl hs
  case alertReceived => exact keep (Frame.guard (frame_takeClosure _ _ _ s)) rfl hs
  case floorReceived =>
    unfold serveFloor
    split
    · exact levelLaw_applyFloor _ _ hs
    · exact hs
  case queryReceived => exact keep (frame_serveQuery_outside _ _ s) rfl hs
  case recapReceived => exact keep (frame_serveRecap_parts _ _ s) rfl hs

theorem levelLaw_reception {c : Instr} {x} (hc : reception c = some x) (hs : LevelLaw s) : LevelLaw (outcome c s) := by
  obtain ⟨h, take, serve⟩ := x
  rw [outcome_reception hc]
  have hend : LevelLaw (endFrame s) := supports_levelLaw.keep (frame_endFrame s) rfl hs
  refine receiveFrame_cases hs hend ?_ ?_ (levelLaw_serve hc)
  · exact supports_levelLaw.keep (frame_addressConflict _) rfl hend
  · exact servePeer_keeps (fun p u => supports_levelLaw.keep (frame_storePeer p u) rfl) levelLaw_reportPeers
      (fun e u => supports_levelLaw.keep (frame_present e u) rfl) h take hend

theorem levelLaw_setPresence (p : Peer) (x : Presence) (hs : LevelLaw s) : LevelLaw (setPresence p x s) := by
  have hstore : LevelLaw (storePeer { p with presence := x } s) := hs
  unfold setPresence
  dsimp only
  split
  · exact levelLaw_reportPeers _ hstore
  · exact hstore

theorem levelLaw_outcome (c : Instr) (hs : LevelLaw s) : LevelLaw (outcome c s) := by
  obtain ⟨-, hin⟩ := id hs
  cases c with
  | powerOnReset a r => exact ⟨rfl, Nat.zero_le 5, Nat.zero_le 5, Nat.zero_le 4⟩
  | warmReset a r => exact ⟨rfl, Nat.zero_le 5, Nat.zero_le 5, Nat.zero_le 4⟩
  | configurationReadEnd a =>
    by_cases h : s.phase = .configRead
    · rcases configurationReadEnd_cases a h with ⟨i, b, he⟩ | ⟨i, b, x, he⟩
      · rw [he]
        exact supports_levelLaw.keep (frame_configFault i b s) rfl hs
      · rw [he]
        exact levelLaw_evaluateHazard (s := joiningBlocks i b x s) false hin
    · rw [configurationReadEnd_eq_self h]
      exact hs
  | hourClose =>
    have hinsert : LevelLaw (insertHour s) := supports_levelLaw.keep (frame_insertHour s) rfl hs
    obtain ⟨-, hin⟩ := hinsert
    dsimp only [outcome, exec, execHourClose]
    split
    · exact levelLaw_evaluateHazard true hin
    · exact hs
  | operatorFloorExpiry =>
    obtain ⟨hc, -, hn⟩ := hin
    dsimp only [outcome, exec, execOperatorFloorExpiry]
    split
    · exact supports_levelLaw.keep (frame_autocloseTest _) rfl
        (levelLaw_recomputeEffective (s := s.withHazard { s.hazard with floorLevel := 0 }) ⟨hc, Nat.zero_le 5, hn⟩)
    · exact hs
  | peerLate a =>
    dsimp only [outcome, exec, execPeerLate]
    split
    · split
      · exact levelLaw_setPresence _ _ hs
      · exact hs
    · exact hs
  | peerSilent a =>
    dsimp only [outcome, exec, execPeerSilent]
    split
    · split
      · exact levelLaw_setPresence _ _ hs
      · exact hs
    · exact hs
  | announceReceived h b => exact levelLaw_reception rfl hs
  | statusReceived h b => exact levelLaw_reception rfl hs
  | closureReceived h b => exact levelLaw_reception rfl hs
  | alertReceived h b => exact levelLaw_reception rfl hs
  | floorReceived h b => exact levelLaw_reception rfl hs
  | queryReceived h a => exact levelLaw_reception rfl hs
  | recapReceived h a => exact levelLaw_reception rfl hs
  | _ => exact supports_levelLaw.keep (frame_outcome _ s) rfl hs

theorem levelLaw_secondTimers (hs : LevelLaw s) : LevelLaw (secondTimers s) := by
  have hh : (secondTimers s).hazard = if s.phase.operating then s.hazard.second else s.hazard := by
    unfold secondTimers secondServing
    cases s.phase.operating <;> cases s.phase.serving <;> rfl
  unfold LevelLaw
  rw [hh]
  split <;> exact hs

/-- Settles O6: every change of an input ends in the recomputation of the largest, or in an evaluation that publishes it. -/
theorem effectiveLevelLawIsKept : Obligations.EffectiveLevelLawIsKept :=
  keptByEveryStep_of (fun _ _ h => h) (fun c _ hs => levelLaw_outcome c hs)
    (advance_keeps (law := LevelLaw) (fun s => supports_levelLaw.keep (frame_advanceTick s) rfl) (fun _ _ h => h)
      (fun _ => levelLaw_secondTimers) (fun s => supports_levelLaw.keep (frame_secondQuiet s) rfl))

end Sys2Proof.Machine
end

section
/-! PROOF. The peer table (R79) and what the hazard unit makes of it (R46, R47, R83). -/

namespace Sys2Proof.Machine

open Sys2Proof

variable {s t : State}

/-! ## Entries -/

/-- R79: the order of the table. -/
def TableSorted (ps : List Peer) : Prop := ps.Pairwise (fun a b => a.address.toNat < b.address.toNat)

theorem mem_putPeer_iff {p x : Peer} : ∀ {ps : List Peer}, TableSorted ps →
    (x ∈ putPeer p ps ↔ x = p ∨ x ∈ ps ∧ x.address ≠ p.address)
  | [], _ => by simp [putPeer]
  | q :: rest, h => by
    obtain ⟨hq, hrest⟩ := List.pairwise_cons.mp h
    have hbeyond : ∀ y ∈ rest, q.address.toNat < y.address.toNat := hq
    unfold putPeer
    split
    · next hlt =>
      have hne : ∀ y ∈ q :: rest, y.address ≠ p.address := fun y hy e => by
        rw [← e] at hlt
        rcases List.mem_cons.mp hy with rfl | hy
        · exact lt_irrefl _ hlt
        · exact lt_asymm hlt (hbeyond y hy)
      rw [List.mem_cons]
      exact or_congr_right ⟨fun hx => ⟨hx, hne x hx⟩, And.left⟩
    · split
      · next he =>
        rw [List.mem_cons, List.mem_cons]
        refine or_congr_right ⟨fun hx => ⟨.inr hx, fun e => ?_⟩, ?_⟩
        · have := hbeyond x hx
          rw [e, he] at this
          exact lt_irrefl _ this
        · rintro ⟨rfl | hx, hne⟩
          · exact absurd he hne
          · exact hx
      · next hne =>
        rw [List.mem_cons, mem_putPeer_iff hrest, List.mem_cons]
        constructor
        · rintro (rfl | rfl | ⟨hx, hxne⟩)
          · exact .inr ⟨.inl rfl, hne⟩
          · exact .inl rfl
          · exact .inr ⟨.inr hx, hxne⟩
        · rintro (rfl | ⟨rfl | hx, hxne⟩)
          · exact .inr (.inl rfl)
          · exact .inl rfl
          · exact .inr (.inr ⟨hx, hxne⟩)

theorem findPeer_some {a : Byte} {ps : List Peer} {p : Peer} (h : findPeer a ps = some p) : p ∈ ps ∧ p.address = a :=
  ⟨List.mem_of_find?_eq_some h, of_decide_eq_true (List.find?_some (p := fun x : Peer => decide (x.address = a)) h)⟩

theorem findPeer_none {a : Byte} {ps : List Peer} (h : findPeer a ps = none) : ∀ p ∈ ps, p.address ≠ a := fun p hp e => by
  have := List.find?_eq_none.mp h p hp
  exact this (decide_eq_true e)

/-- In an ordered table an address has one entry. -/
theorem TableSorted.unique {ps : List Peer} (h : TableSorted ps) {p q : Peer} (hp : p ∈ ps) (hq : q ∈ ps)
    (he : p.address = q.address) : p = q := by
  obtain ⟨i, hi, rfl⟩ := List.getElem_of_mem hp
  obtain ⟨j, hj, rfl⟩ := List.getElem_of_mem hq
  have hlt := List.pairwise_iff_getElem.mp h
  rcases lt_trichotomy i j with hij | rfl | hij
  · exact absurd (congrArg BitVec.toNat he) (hlt i j hi hj hij).ne
  · rfl
  · exact absurd (congrArg BitVec.toNat he).symm (hlt j i hj hi hij).ne

/-! ## What a peer counts for (R46, R47, R83) -/

/-- What an entry counts for in the neighbour floor: nothing outside the neighbour set. -/
def State.near (s : State) (p : Peer) : Option (Presence × Option Nat) :=
  if s.isNeighbour p then some (p.presence, p.level) else none

theorem near_of_neighbourChange {p q : Peer} (h : s.neighbourChange (some p) q = false) : s.near p = s.near q := by
  unfold State.neighbourChange at h
  unfold State.near
  simp only [Bool.or_eq_false_iff, bne_eq_false_iff_eq, Bool.and_eq_false_iff, decide_eq_false_iff_not] at h
  obtain ⟨heq, hor⟩ := h
  rw [heq]
  split
  · next hn =>
    rcases hor with hf | hd
    · rw [hn] at hf
      cases hf
    · rw [not_or, not_not, not_not] at hd
      rw [hd.1, hd.2]
  · rfl

theorem near_of_neighbourChange_new {q : Peer} (h : s.neighbourChange none q = false) : s.near q = none := by
  unfold State.near
  rw [show s.isNeighbour q = false from h]
  rfl

/-- R46: the levels that count toward the neighbour floor, with 5 for any above it. -/
def State.nearLevel (s : State) (l : Nat) : Prop :=
  ∃ p ∈ s.peers.entries, s.isNeighbour p = true ∧ p.presence ≠ .silent ∧ p.level.map (fun x => min x 5) = some l

theorem foldl_max_spec (f : Peer → Nat) : ∀ (l : List Peer) (m : Nat), m ≤ l.foldl (fun m p => max m (f p)) m
    ∧ (∀ p ∈ l, f p ≤ l.foldl (fun m p => max m (f p)) m)
    ∧ (l.foldl (fun m p => max m (f p)) m = m ∨ ∃ p ∈ l, l.foldl (fun m p => max m (f p)) m = f p)
  | [], m => ⟨le_refl m, by simp, .inl rfl⟩
  | q :: rest, m => by
    obtain ⟨h1, h2, h3⟩ := foldl_max_spec f rest (max m (f q))
    refine ⟨(le_max_left _ _).trans h1, fun p hp => ?_, ?_⟩
    · rcases List.mem_cons.mp hp with rfl | hp
      · exact (le_max_right _ _).trans h1
      · exact h2 p hp
    · rcases h3 with h3 | ⟨p, hp, h3⟩
      · rcases max_choice m (f q) with hm | hm
        · exact .inl (h3.trans hm)
        · exact .inr ⟨q, List.mem_cons_self, h3.trans hm⟩
      · exact .inr ⟨p, List.mem_cons_of_mem _ hp, h3⟩

theorem qualifies_iff (p : Peer) : s.qualifies p = true
    ↔ s.isNeighbour p = true ∧ p.presence ≠ .silent ∧ p.level.isSome = true := by
  unfold State.qualifies
  simp only [Bool.and_eq_true, bne_iff_ne, and_assoc]

/-- R46: the neighbour floor is one less than the largest level that counts. -/
theorem neighbourFloorNow_spec (s : State) : (∀ l, s.nearLevel l → l ≤ s.neighbourFloorNow + 1)
    ∧ (s.neighbourFloorNow = 0 ∨ s.nearLevel (s.neighbourFloorNow + 1)) := by
  obtain ⟨-, hge, hex⟩ := foldl_max_spec (fun p => min (p.level.getD 0) 5) (s.peers.entries.filter s.qualifies) 0
  constructor
  · rintro l ⟨p, hp, hn, hpres, hl⟩
    obtain ⟨x, hx, rfl⟩ := Option.map_eq_some_iff.mp hl
    have := hge p (List.mem_filter.mpr ⟨hp, (qualifies_iff p).mpr ⟨hn, hpres, by rw [hx]; rfl⟩⟩)
    simp only [hx, Option.getD_some] at this
    unfold State.neighbourFloorNow
    omega
  · unfold State.neighbourFloorNow
    rcases hex with h0 | ⟨p, hp, hf⟩
    · rw [h0]
      exact .inl rfl
    · obtain ⟨hmem, hq⟩ := List.mem_filter.mp hp
      obtain ⟨hn, hpres, hsome⟩ := (qualifies_iff p).mp hq
      obtain ⟨x, hx⟩ := Option.isSome_iff_exists.mp hsome
      rw [hf]
      by_cases hzero : min (p.level.getD 0) 5 = 0
      · rw [hzero]
        exact .inl rfl
      · refine .inr ⟨p, hmem, hn, hpres, ?_⟩
        rw [Nat.sub_add_cancel (Nat.pos_of_ne_zero hzero), hx]
        rfl

theorem neighbourSilentNow_iff (s : State) : s.neighbourSilentNow = true
    ↔ ∃ p ∈ s.peers.entries, s.isNeighbour p = true ∧ p.presence = .silent := by
  unfold State.neighbourSilentNow
  simp only [List.any_eq_true, Bool.and_eq_true, beq_iff_eq]

/-- Two tables with the same entries as far as they count give the same floor and the same NEIGHBOUR-SILENT. -/
theorem neighbours_eq_of_near (hn : ∀ v, (∃ p ∈ s.peers.entries, s.near p = some v) ↔ ∃ p ∈ t.peers.entries, t.near p = some v) :
    t.neighbourFloorNow = s.neighbourFloorNow ∧ t.neighbourSilentNow = s.neighbourSilentNow := by
  have hnear : ∀ (u : State) (p : Peer) v, u.near p = some v ↔ u.isNeighbour p = true ∧ v = (p.presence, p.level) := by
    intro u p v
    unfold State.near
    split
    · next h => simp [h, eq_comm]
    · next h => simp [h]
  have hlevel : ∀ u : State, ∀ l, u.nearLevel l ↔ ∃ v : Presence × Option Nat, (∃ p ∈ u.peers.entries, u.near p = some v)
      ∧ v.1 ≠ .silent ∧ v.2.map (fun x => min x 5) = some l := by
    intro u l
    constructor
    · rintro ⟨p, hp, hi, hs, hl⟩
      exact ⟨_, ⟨p, hp, (hnear u p _).mpr ⟨hi, rfl⟩⟩, hs, hl⟩
    · rintro ⟨v, ⟨p, hp, hv⟩, hs, hl⟩
      obtain ⟨hi, rfl⟩ := (hnear u p v).mp hv
      exact ⟨p, hp, hi, hs, hl⟩
  have hlevels : ∀ l, s.nearLevel l ↔ t.nearLevel l := fun l => by
    rw [hlevel, hlevel]
    exact exists_congr fun v => and_congr_left fun _ => hn v
  have hsilent : ∀ u : State, u.neighbourSilentNow = true ↔ ∃ v : Presence × Option Nat,
      (∃ p ∈ u.peers.entries, u.near p = some v) ∧ v.1 = .silent := by
    intro u
    rw [neighbourSilentNow_iff]
    constructor
    · rintro ⟨p, hp, hi, hs⟩
      exact ⟨_, ⟨p, hp, (hnear u p _).mpr ⟨hi, rfl⟩⟩, hs⟩
    · rintro ⟨v, ⟨p, hp, hv⟩, hs⟩
      obtain ⟨hi, rfl⟩ := (hnear u p v).mp hv
      exact ⟨p, hp, hi, hs⟩
  constructor
  · obtain ⟨hs1, hs2⟩ := neighbourFloorNow_spec s
    obtain ⟨ht1, ht2⟩ := neighbourFloorNow_spec t
    apply le_antisymm
    · rcases ht2 with h0 | h
      · omega
      · have := hs1 _ ((hlevels _).mpr h)
        omega
    · rcases hs2 with h0 | h
      · omega
      · have := ht1 _ ((hlevels _).mp h)
        omega
  · rw [Bool.eq_iff_iff, hsilent, hsilent]
    exact exists_congr fun v => and_congr_left fun _ => (hn v).symm

/-! ## The laws of the table -/

/-- R46, R47: the neighbour floor and NEIGHBOUR-SILENT as the hazard unit holds them. -/
def NearLaw (s : State) : Prop :=
  if s.phase.operating then s.hazard.neighbourFloor = s.neighbourFloorNow ∧ s.hazard.neighbourSilent = s.neighbourSilentNow
  else s.hazard.neighbourFloor = 0 ∧ s.hazard.neighbourSilent = false

/-- R57, R79: in CONFIG-READ the receiver is inactive and the table empty. -/
def ReadLaw (s : State) : Prop := s.phase = .configRead → s.line.receiver = .inactive ∧ s.peers.entries = []

theorem neighbourLaw_iff (s : State) : NeighbourLaw s ↔ NearLaw s ∧ ReadLaw s := Iff.rfl

/-- The two laws of the table that do not look at the receiver. -/
def TableLaw (s : State) : Prop := PeerLaw s ∧ NearLaw s

theorem nearLaw_congr (hentries : t.peers.entries = s.peers.entries) (hconfig : t.config = s.config)
    (hop : t.phase.operating = s.phase.operating) (hfloor : t.hazard.neighbourFloor = s.hazard.neighbourFloor)
    (hsilent : t.hazard.neighbourSilent = s.hazard.neighbourSilent) (hs : NearLaw s) : NearLaw t := by
  have hnear : ∀ p, t.near p = s.near p := fun p => by
    unfold State.near State.isNeighbour
    rw [hconfig]
  obtain ⟨h1, h2⟩ := neighbours_eq_of_near (s := s) (t := t) fun v => by simp only [hentries, hnear]
  unfold NearLaw at hs ⊢
  rw [hop, hfloor, hsilent, h1, h2]
  exact hs

theorem supports_tableLaw : Supports [.settings, .peerEntries, .neighbours] TableLaw := fun s t h ⟨hp, hn⟩ => by
  have he : s.peers.entries = t.peers.entries := h .peerEntries (by simp)
  obtain ⟨hf, hs⟩ := h .neighbours (by simp)
  have hset : { s.startup with quiet := false, entryTimer := none } = { t.startup with quiet := false, entryTimer := none } :=
    h .settings (by simp)
  have hphase : t.phase = s.phase := (congrArg Startup.phase hset).symm
  have hconfig : t.config = s.config := (congrArg Startup.config hset).symm
  have haddress : s.startup.address = t.startup.address := by
    have h := congrArg Startup.address hset
    exact h
  refine ⟨?_, nearLaw_congr he.symm hconfig (by rw [hphase]) hf.symm hs.symm hn⟩
  unfold PeerLaw at hp ⊢
  rwa [← he, ← haddress]

/-- R79: an address that may stand in the table. -/
def State.tableAddress (s : State) (a : Byte) : Prop := 1 ≤ a.toNat ∧ a.toNat ≤ 31 ∧ a ≠ s.startup.address

theorem peerLaw_storePeer {p : Peer} (hs : PeerLaw s) (ha : s.tableAddress p.address) : PeerLaw (storePeer p s) := by
  obtain ⟨hsorted, hall⟩ := hs
  refine ⟨putPeer_sorted p hsorted, fun q hq => ?_⟩
  rcases mem_putPeer hq with rfl | hq
  · exact ha
  · exact hall q hq

/-- An entry that counts for what the one before it counted for, or for nothing where there was none, keeps the law. -/
theorem nearLaw_storePeer {p : Peer} (hsorted : TableSorted s.peers.entries)
    (hnear : ∀ v, s.near p = some v ↔ ∃ q, s.findPeer p.address = some q ∧ s.near q = some v) (hs : NearLaw s) :
    NearLaw (storePeer p s) := by
  have heq := neighbours_eq_of_near (s := s) (t := storePeer p s) fun v => ?_
  · obtain ⟨h1, h2⟩ := heq
    unfold NearLaw at hs ⊢
    rw [h1, h2]
    exact hs
  show _ ↔ ∃ x ∈ putPeer p s.peers.entries, s.near x = some v
  constructor
  · rintro ⟨x, hx, hv⟩
    by_cases hne : x.address = p.address
    · refine ⟨p, (mem_putPeer_iff hsorted).mpr (.inl rfl), (hnear v).mpr ?_⟩
      cases hf : s.findPeer p.address with
      | none => exact absurd hne (findPeer_none hf x hx)
      | some q =>
        obtain ⟨hq, hqa⟩ := findPeer_some hf
        obtain rfl : x = q := hsorted.unique hx hq (hne.trans hqa.symm)
        exact ⟨x, rfl, hv⟩
    · exact ⟨x, (mem_putPeer_iff hsorted).mpr (.inr ⟨hx, hne⟩), hv⟩
  · rintro ⟨x, hx, hv⟩
    rcases (mem_putPeer_iff hsorted).mp hx with rfl | ⟨hx, -⟩
    · obtain ⟨q, hq, hqv⟩ := (hnear v).mp hv
      exact ⟨q, (findPeer_some hq).1, hqv⟩
    · exact ⟨x, hx, hv⟩

/-- An entry replaced by one that counts for the same. -/
theorem tableLaw_replace {p q : Peer} {a : Byte} (hs : TableLaw s) (hf : s.findPeer a = some p) (hqa : q.address = a)
    (hnear : s.near p = s.near q) : TableLaw (storePeer q s) := by
  obtain ⟨hp, hn⟩ := hs
  subst hqa
  obtain ⟨hmem, ha⟩ := findPeer_some hf
  refine ⟨peerLaw_storePeer hp (ha ▸ hp.2 p hmem), nearLaw_storePeer hp.1 (fun v => ?_) hn⟩
  rw [hf, ← hnear]
  simp

/-- An entry is stored whose address may stand in the table, and a change of what it counts for is reported. -/
theorem nearLaw_reportPeers (h : s.phase.operating = false → NearLaw s) : NearLaw (reportPeers s) := by
  unfold reportPeers
  split
  · next hop =>
    have hbase : ∀ u : State, u = s.withHazard { s.hazard with
        neighbourFloor := s.neighbourFloorNow, neighbourSilent := s.neighbourSilentNow } → NearLaw u := by
      rintro u rfl
      show if s.phase.operating = true then _ else _
      rw [if_pos hop]
      exact ⟨rfl, rfl⟩
    have keep : ∀ {ps : List Part} {u v : State}, Frame ps u v → Part.apart [.settings, .peerEntries, .neighbours] ps = true →
        NearLaw u → NearLaw v := fun hf hd hu => by
      have he : _ = _ := hf.keeps hd (p := .peerEntries) (by simp)
      obtain ⟨hfl, hsi⟩ := hf.keeps hd (p := .neighbours) (by simp)
      obtain ⟨hph, hco, -⟩ := hf.settings_eq (Part.not_mem_of_apart hd (by simp))
      exact nearLaw_congr he.symm hco (by rw [hph]) hfl.symm hsi.symm hu
    refine keep (frame_judgeQuiet _) rfl ?_
    unfold recomputeNeighbours
    have h1 := keep (frame_recomputeEffective _) rfl (hbase _ rfl)
    dsimp only
    split
    · exact h1
    · exact keep (frame_judgeQuiet _) rfl (keep (frame_evaluateSigns _) rfl (keep (frame_present _ _) rfl h1))
  · next hop => exact h (Bool.not_eq_true _ ▸ hop)

theorem nearLaw_storePeer_outside (p : Peer) (hop : s.phase.operating = false) (hs : NearLaw s) : NearLaw (storePeer p s) := by
  unfold NearLaw at hs
  show if s.phase.operating = true then _ else _
  rw [hop] at hs ⊢
  exact hs

theorem tableLaw_reportPeers {p : Peer} (hs : TableLaw s) (ha : s.tableAddress p.address) :
    TableLaw (reportPeers (storePeer p s)) := by
  obtain ⟨hp, hn⟩ := hs
  refine ⟨?_, nearLaw_reportPeers fun hop => nearLaw_storePeer_outside p hop hn⟩
  have hf := frame_reportPeers (storePeer p s)
  have he : (storePeer p s).peers.entries = (reportPeers (storePeer p s)).peers.entries := hf .peerEntries (by decide)
  have h1 := peerLaw_storePeer hp ha
  unfold PeerLaw at h1 ⊢
  rw [← he, (hf.settings_eq (by decide)).2.2]
  exact h1

/-! ## A frame -/

theorem tableLaw_present (e : Bulletin) (hs : TableLaw s) : TableLaw (present e s) :=
  supports_tableLaw.keep (frame_present e s) rfl hs

theorem tableLaw_noteGap (a : Byte) (hs : TableLaw s) : TableLaw (noteGap a s) := by
  unfold noteGap
  split
  · exact hs
  · next p hp =>
    split
    · exact hs
    · split
      · exact tableLaw_present _ hs
      · exact tableLaw_replace hs hp (findPeer_some hp).2 rfl

/-- R80 to R83: the table takes a frame of an address that may stand in it. -/
theorem tableLaw_servePeer {h : FrameHeader} {take : Peer → Peer} (htake : ∀ p, (take p).address = p.address)
    (ha : s.tableAddress h.source) (hs : TableLaw s) : TableLaw (servePeer h take s).1 := by
  unfold servePeer
  split
  · next hnone =>
    have haddr : (take (s.newPeer h)).address = h.source := htake _
    dsimp only
    split
    · exact tableLaw_reportPeers hs (haddr.symm ▸ ha)
    · next hc =>
      have hnear := near_of_neighbourChange_new (Bool.not_eq_true _ ▸ hc)
      refine ⟨peerLaw_storePeer hs.1 (haddr.symm ▸ ha), nearLaw_storePeer hs.1.1 (fun v => ?_) hs.2⟩
      rw [haddr, hnone, hnear]
      simp
  · next p hp =>
    obtain ⟨-, hpa⟩ := findPeer_some hp
    split
    · exact tableLaw_replace hs hp hpa rfl
    · have hq : ∀ q : Peer, q.address = h.source → TableLaw
          (if s.neighbourChange (some p) q = true then reportPeers (storePeer q s) else storePeer q s) := fun q hqa => by
        split
        · exact tableLaw_reportPeers hs (hqa.symm ▸ ha)
        · next hc =>
          exact tableLaw_replace hs hp hqa (near_of_neighbourChange (Bool.not_eq_true _ ▸ hc))
      have hserved := hq (take { p with lastSequence := h.sequence, age := 0, presence := .heard }) ((htake _).trans hpa)
      dsimp only
      split
      · exact tableLaw_noteGap _ hserved
      · exact hserved

theorem take_address {c : Instr} {h : FrameHeader} {take : Peer → Peer} {serve : State → State}
    (hc : reception c = some (h, take, serve)) (p : Peer) : (take p).address = p.address := by
  cases c <;> cases hc
  case announceReceived =>
    unfold takeAnnounce
    split <;> rfl
  all_goals rfl

theorem tableLaw_serve {c : Instr} {h : FrameHeader} {take : Peer → Peer} {serve : State → State}
    (hc : reception c = some (h, take, serve)) (s : State) (hs : TableLaw s) : TableLaw (serve s) := by
  have keep : ∀ {ps : List Part} {u v : State}, Frame ps u v → Part.apart [.settings, .peerEntries, .neighbours] ps
      = true → TableLaw u → TableLaw v := fun hf hd => supports_tableLaw.keep hf hd
  cases c <;> cases hc
  case announceReceived => exact hs
  case statusReceived => exact hs
  case closureReceived => exact keep (Frame.guard (frame_takeClosure _ _ _ s)) rfl hs
  case alertReceived => exact keep (Frame.guard (frame_takeClosure _ _ _ s)) rfl hs
  case floorReceived => exact keep (Frame.guard (frame_applyFloor _ _ s)) rfl hs
  case queryReceived => exact keep (Frame.guard (Frame.ite ((frame_answerInFault s).widen (qs := Part.ofPresent) rfl)
      (((frame_present _ _).widen rfl).trans ((frame_present _ _).widen rfl)))) rfl hs
  case recapReceived => exact keep (frame_serveRecap_parts _ _ s) rfl hs

theorem tableLaw_reception {c : Instr} {x} (hc : reception c = some x) (hs : TableLaw s) : TableLaw (outcome c s) := by
  obtain ⟨h, take, serve⟩ := x
  rw [outcome_reception hc]
  have hend : TableLaw (endFrame s) := supports_tableLaw.keep (frame_endFrame s) rfl hs
  have haddr : (endFrame s).startup.address = s.startup.address := ((frame_endFrame s).settings_eq (by decide)).2.2
  unfold receiveFrame
  split
  · exact hs
  · dsimp only
    split
    · exact hend
    · next hgood =>
      split
      · exact supports_tableLaw.keep (frame_addressConflict _) rfl hend
      · next hown =>
        have ha : (endFrame s).tableAddress h.source := by
          simp only [Bool.or_eq_true, Bool.not_eq_true', not_or, Bool.not_eq_false] at hgood
          obtain ⟨h1, h31⟩ := of_decide_eq_true hgood.2
          exact ⟨h1, h31, haddr ▸ hown⟩
        have hpeer := tableLaw_servePeer (take := take) (take_address hc) ha hend
        split
        · next e =>
          rw [e] at hpeer
          exact tableLaw_serve hc _ hpeer
        · next e =>
          rw [e] at hpeer
          exact hpeer

/-! ## The other commands -/

theorem tableLaw_setPresence {p : Peer} (x : Presence) (hf : s.findPeer p.address = some p) (hs : TableLaw s) :
    TableLaw (setPresence p x s) := by
  obtain ⟨hmem, -⟩ := findPeer_some hf
  unfold setPresence
  dsimp only
  split
  · exact tableLaw_reportPeers hs (hs.1.2 p hmem)
  · next hn =>
    refine tableLaw_replace hs hf rfl ?_
    unfold State.near
    rw [if_neg hn, if_neg (show ¬ s.isNeighbour { p with presence := x } = true from hn)]

theorem tableLaw_enterFlight (e : Bulletin) (hs : TableLaw s) : TableLaw (enterFlight e s) := by
  unfold enterFlight
  split
  · exact hs
  · exact hs
  · split
    · next p hp => exact tableLaw_replace hs hp (findPeer_some hp).2 rfl
    · exact hs
  · exact hs

theorem tableLaw_attemptStart (hs : TableLaw s) : TableLaw (outcome .attemptStart s) := by
  have hline : ∀ l, TableLaw (s.withLine l) := fun l => supports_tableLaw.keep (frame_withLine s l) rfl hs
  dsimp only [outcome, exec, execAttemptStart]
  split
  · split
    · exact hline _
    · split
      · unfold firstAttempt
        split
        · exact supports_tableLaw.keep (frame_followQueue _) rfl (hline _)
        · exact tableLaw_enterFlight _ (hline _)
      · exact hline _
  · exact hs

/-- A change of phase within operation, or within the phases outside it, keeps the law. -/
theorem tableLaw_phase {x : Startup} (hs : TableLaw s) (hop : x.phase.operating = s.phase.operating)
    (hk : x.config = s.config) (ha : x.address = s.startup.address) : TableLaw (s.withStartup x) := by
  refine ⟨?_, nearLaw_congr (s := s) rfl hk hop rfl rfl hs.2⟩
  unfold PeerLaw
  show _ ∧ ∀ p ∈ s.peers.entries, _ ∧ _ ∧ p.address ≠ x.address
  rw [ha]
  exact hs.1

theorem tableLaw_of_empty (he : s.peers.entries = []) (hf : s.hazard.neighbourFloor = 0)
    (hn : s.hazard.neighbourSilent = false) : TableLaw s := by
  refine ⟨⟨by rw [he]; exact List.Pairwise.nil, fun p hp => ?_⟩, ?_⟩
  · rw [he] at hp
    cases hp
  · unfold NearLaw State.neighbourFloorNow State.neighbourSilentNow
    rw [he]
    split
    · exact ⟨hf, hn⟩
    · exact ⟨hf, hn⟩

theorem tableLaw_outcome (c : Instr) (hs : TableLaw s) (hr : ReadLaw s) : TableLaw (outcome c s) := by
  cases c with
  | powerOnReset a r => exact tableLaw_of_empty rfl rfl rfl
  | warmReset a r => exact tableLaw_of_empty rfl rfl rfl
  | configurationReadEnd a =>
    by_cases h : s.phase = .configRead
    · obtain ⟨-, hempty⟩ := hr h
      have hf := frame_outcome (.configurationReadEnd a) s
      obtain ⟨hfloor, hsilent⟩ := hf.keeps (qs := [.neighbours]) rfl (p := .neighbours) (by simp)
      have hentries : s.peers.entries = _ := hf.keeps (qs := [.peerEntries]) rfl (p := .peerEntries) (by simp)
      have hnear := hs.2
      unfold NearLaw at hnear
      rw [h] at hnear
      exact tableLaw_of_empty (hentries.symm.trans hempty) (hfloor.symm.trans hnear.1) (hsilent.symm.trans hnear.2)
    · rw [configurationReadEnd_eq_self h]
      exact hs
  | settlingStart =>
    by_cases h : s.phase = .joining ∧ 10 ≤ s.now
    · rw [settlingStart_eq h]
      exact supports_tableLaw.keep (frame_settling _) rfl
        (tableLaw_phase (x := { s.startup with phase := .settling }) hs (by rw [h.1]; rfl) rfl rfl)
    · rw [settlingStart_eq_self h]
      exact hs
  | runningEntry =>
    by_cases h : s.phase = .settling ∧ 70 ≤ s.now
    · rw [runningEntry_eq h]
      refine supports_tableLaw.keep (frame_runningEntry_requests _) rfl (supports_tableLaw.keep (frame_restartWalker _) rfl
        (supports_tableLaw.keep (frame_raiseSerial _) rfl
          (tableLaw_phase (x := { s.startup with phase := .running }) hs (by rw [h.1]; rfl) rfl rfl)))
    · rw [runningEntry_eq_self h]
      exact hs
  | announceReceived h b => exact tableLaw_reception rfl hs
  | statusReceived h b => exact tableLaw_reception rfl hs
  | closureReceived h b => exact tableLaw_reception rfl hs
  | alertReceived h b => exact tableLaw_reception rfl hs
  | floorReceived h b => exact tableLaw_reception rfl hs
  | queryReceived h a => exact tableLaw_reception rfl hs
  | recapReceived h a => exact tableLaw_reception rfl hs
  | attemptStart => exact tableLaw_attemptStart hs
  | peerLate a =>
    dsimp only [outcome, exec, execPeerLate]
    split
    · next p hp =>
      split
      · exact tableLaw_setPresence _ ((findPeer_some hp).2 ▸ hp) hs
      · exact hs
    · exact hs
  | peerSilent a =>
    dsimp only [outcome, exec, execPeerSilent]
    split
    · next p hp =>
      split
      · exact tableLaw_setPresence _ ((findPeer_some hp).2 ▸ hp) hs
      · exact hs
    · exact hs
  | recapTimerExpiry a =>
    dsimp only [outcome, exec, execRecapTimerExpiry]
    split
    · next p hp =>
      split
      · exact tableLaw_present _ (tableLaw_replace hs hp (findPeer_some hp).2 rfl)
      · exact hs
    · exact hs
  | _ => exact supports_tableLaw.keep (frame_outcome _ s) rfl hs

/-! ## Before the end of CONFIG-READ -/

theorem readLaw_of_ne (h : s.phase ≠ .configRead) : ReadLaw s := fun e => absurd e h

theorem readLaw_frame {ps : List Part} (hf : Frame ps s t) (hd : Part.apart [.settings, .peerEntries, .receiver] ps = true)
    (hs : ReadLaw s) : ReadLaw t := fun h => by
  rw [(hf.settings_eq (Part.not_mem_of_apart hd (by simp))).1] at h
  obtain ⟨hr, he⟩ := hs h
  obtain ⟨hrec, -⟩ := hf.keeps hd (p := .receiver) (by simp)
  have hent : s.peers.entries = t.peers.entries := hf.keeps hd (p := .peerEntries) (by simp)
  exact ⟨hrec ▸ hr, hent ▸ he⟩

theorem readLaw_attemptFailed (hs : ReadLaw s) : ReadLaw (outcome .attemptFailed s) := by
  have hstop : ReadLaw (s.withLine s.line.stopSending) := fun h => by
    obtain ⟨hr, he⟩ := hs h
    refine ⟨?_, he⟩
    show (if s.line.receiver = .assembling then _ else s.line.receiver) = _
    rw [hr]
    rfl
  dsimp only [outcome, exec, execAttemptFailed]
  split
  · split
    · split
      · exact readLaw_frame (frame_beginWait _ _ _ _) rfl hstop
      · exact readLaw_frame (frame_abandon _) rfl hstop
    · exact readLaw_frame (frame_land _) rfl hstop
  · exact hs

/-- With the receiver inactive and the table empty no command moves either (R57, R79). -/
theorem readLaw_outcome (c : Instr) (hs : ReadLaw s) : ReadLaw (outcome c s) := by
  by_cases hphase : s.phase = .configRead
  case neg =>
    cases c with
    | powerOnReset a r => exact fun _ => ⟨rfl, rfl⟩
    | warmReset a r => exact fun _ => ⟨rfl, rfl⟩
    | configurationReadEnd a =>
      rw [configurationReadEnd_eq_self hphase]
      exact hs
    | settlingStart =>
      by_cases h : s.phase = .joining ∧ 10 ≤ s.now
      · refine readLaw_of_ne ?_
        rw [(turns_settlingStart (ps := []) h).phase_eq]
        exact nofun
      · rw [settlingStart_eq_self h]
        exact hs
    | runningEntry =>
      by_cases h : s.phase = .settling ∧ 70 ≤ s.now
      · refine readLaw_of_ne ?_
        rw [(turns_runningEntry (ps := []) h).phase_eq]
        exact nofun
      · rw [runningEntry_eq_self h]
        exact hs
    | _ => exact readLaw_of_ne (by rw [(settings_outcome rfl s).1]; exact hphase)
  case pos =>
    obtain ⟨hrec, hent⟩ := hs hphase
    have hfind : ∀ a, s.findPeer a = none := fun a => by
      unfold State.findPeer
      rw [hent]
      rfl
    have hself : outcome c s = s → ReadLaw (outcome c s) := fun h => by
      rw [h]
      exact hs
    cases c with
    | powerOnReset a r => exact fun _ => ⟨rfl, rfl⟩
    | warmReset a r => exact fun _ => ⟨rfl, rfl⟩
    | configurationReadEnd a =>
      refine readLaw_of_ne ?_
      rcases phase_configurationReadEnd a hphase with he | he <;> rw [he] <;> exact nofun
    | settlingStart =>
      rw [settlingStart_eq_self (by rw [hphase]; exact nofun)]
      exact hs
    | runningEntry =>
      rw [runningEntry_eq_self (by rw [hphase]; exact nofun)]
      exact hs
    | receiverIdleReached | characterReceived | frameDiscarded =>
      refine hself ?_
      simp [outcome, exec, execReceiverIdleReached, execCharacterReceived, execFrameDiscarded, hrec]
    | announceReceived | statusReceived | closureReceived | alertReceived | floorReceived | queryReceived | recapReceived =>
      refine hself ?_
      rw [outcome_reception rfl]
      exact if_pos hrec
    | peerLate | peerSilent | recapTimerExpiry =>
      refine hself ?_
      simp [outcome, exec, execPeerLate, execPeerSilent, execRecapTimerExpiry, hfind]
    | attemptStart =>
      refine hself ?_
      simp [outcome, exec, execAttemptStart, State.mayTransmit, hphase]
    | attemptFailed => exact readLaw_attemptFailed hs
    | _ => exact readLaw_frame (frame_outcome _ s) rfl hs

/-! ## A tick -/

theorem entries_secondTimers (s : State) : (secondTimers s).peers.entries = s.peers.entries.map Peer.second := by
  unfold secondTimers secondServing
  cases s.phase.operating <;> cases s.phase.serving <;> rfl

theorem tableLaw_secondTimers (hs : TableLaw s) : TableLaw (secondTimers s) := by
  obtain ⟨⟨hsorted, hall⟩, hnear⟩ := hs
  have hf := frame_secondTimers s
  obtain ⟨hphase, hconfig, haddr⟩ := hf.settings_eq (by decide)
  obtain ⟨hfloor, hsilent⟩ := hf .neighbours (by decide)
  refine ⟨⟨?_, fun p hp => ?_⟩, ?_⟩
  · rw [entries_secondTimers]
    exact List.pairwise_map.mpr hsorted
  · rw [entries_secondTimers] at hp
    obtain ⟨q, hq, rfl⟩ := List.mem_map.mp hp
    rw [haddr]
    exact hall q hq
  · have hcount : ∀ p : Peer, (secondTimers s).near p.second = s.near p := fun p => by
      unfold State.near State.isNeighbour
      rw [hconfig]
      rfl
    obtain ⟨h1, h2⟩ := neighbours_eq_of_near (s := s) (t := secondTimers s) fun v => by
      rw [entries_secondTimers]
      simp only [List.mem_map, exists_exists_and_eq_and, hcount]
    unfold NearLaw at hnear ⊢
    rw [hphase, ← hfloor, ← hsilent, h1, h2]
    exact hnear

theorem readLaw_advanceTick (hs : ReadLaw s) : ReadLaw (advanceTick s) := fun h => by
  have hf := frame_advanceTick s
  rw [(hf.settings_eq (by decide)).1] at h
  obtain ⟨hr, he⟩ := hs h
  have hent : s.peers.entries = (advanceTick s).peers.entries := hf .peerEntries (by decide)
  exact ⟨by rw [line_advanceTick]; exact hr, hent ▸ he⟩

theorem readLaw_secondTimers (hs : ReadLaw s) : ReadLaw (secondTimers s) := fun h => by
  have hf := frame_secondTimers s
  rw [(hf.settings_eq (by decide)).1] at h
  obtain ⟨hr, he⟩ := hs h
  obtain ⟨hrec, -⟩ := hf .receiver (by decide)
  exact ⟨hrec ▸ hr, by rw [entries_secondTimers, he]; rfl⟩

theorem tableLaw_advance (s : State) (hs : TableLaw s ∧ ReadLaw s) : TableLaw (advance s) ∧ ReadLaw (advance s) :=
  advance_keeps (law := fun s => TableLaw s ∧ ReadLaw s)
    (fun s ⟨ht, hr⟩ => ⟨supports_tableLaw.keep (frame_advanceTick s) rfl ht, readLaw_advanceTick hr⟩) (fun _ _ h => h)
    (fun _ ⟨ht, hr⟩ => ⟨tableLaw_secondTimers ht, readLaw_secondTimers hr⟩)
    (fun s ⟨ht, hr⟩ => ⟨supports_tableLaw.keep (frame_secondQuiet s) rfl ht, readLaw_frame (frame_secondQuiet s) rfl hr⟩) s hs

theorem isNeighbour_iff (p : Peer) : s.isNeighbour p = true ↔ p.control = false ∧ ∃ x, p.chainage = some x
    ∧ x ≤ s.config.chainage + s.config.influence ∧ s.config.chainage ≤ x + s.config.influence := by
  unfold State.isNeighbour
  cases p.chainage with
  | none => simp
  | some x => simp

/-- Settles O15: an entry stored that counts for something else is reported, and the report forms what the table gives. -/
theorem peerAndNeighbourLawsAreKept : Obligations.PeerAndNeighbourLawsAreKept := by
  refine ⟨keptByEveryStep_of (fun _ _ h => h) (fun c s ⟨hp, hn, hr⟩ => ?_) (fun s ⟨hp, hn, hr⟩ => ?_), fun s => ?_⟩
  · obtain ⟨hp', hn'⟩ := tableLaw_outcome c ⟨hp, hn⟩ hr
    exact ⟨hp', hn', readLaw_outcome c hr⟩
  · obtain ⟨⟨hp', hn'⟩, hr'⟩ := tableLaw_advance s ⟨⟨hp, hn⟩, hr⟩
    exact ⟨hp', hn', hr'⟩
  · obtain ⟨hle, hex⟩ := neighbourFloorNow_spec s
    exact ⟨hle, hex, neighbourSilentNow_iff s, isNeighbour_iff⟩

end Sys2Proof.Machine
end

section
/-! PROOF. What the register, the hazard unit and the peer table keep, said once: a law that the few moves below keep is kept by each
of their operations. -/

namespace Sys2Proof.Machine

open Sys2Proof

/-- The parts that the laws of QUIET and of the gates look at, beside QUIET itself and the signs' health. -/
def Part.watched : List Part := [.settings, .effective, .channels, .slots, .gateUnits, .key]

/-- A held record changed so that no reader acts on it (R119). -/
def Unreported (a b : ClosureRecord) : Prop := b.id = a.id ∧ b.own = a.own ∧ reportable a b = false

/-- QUIET is not entered and no sign's health moves. -/
def Calm (s t : State) : Prop := (t.startup.quiet = true → s.startup.quiet = true) ∧ ∀ n, t.health n = s.health n

/-- Turns enter no QUIET. -/
theorem Turns.stays_clear {ps : List Part} (hps : Part.apart [.quiet] (Part.plain ++ ps) = true) {s t : State} (h : Turns ps s t) :
    t.startup.quiet = true → s.startup.quiet = true := by
  refine h.keep (law := fun u => u.startup.quiet = true → s.startup.quiet = true) (fun a b hab ha hb => ha ?_) id
  have hframe : ∀ {qs : List Part}, Frame qs a b → Part.apart [.quiet] qs = true → a.startup.quiet = true := fun hf hq =>
    (hf.keeps hq (p := .quiet) (by simp)).1.trans hb
  cases hab with
  | aside h => exact hframe h hps
  | present => exact hframe (frame_present _ a) rfl
  | follow => exact hframe (frame_followQueue a) rfl
  | endFrame => exact hframe (frame_endFrame a) rfl
  | remove => exact hframe (frame_removeEntries _ _ a) rfl
  | quiet _ h => exact h hb
  | _ => exact hb

theorem Turns.quiet_of {s t : State} (h : Turns [] s t) : t.startup.quiet = true → s.startup.quiet = true :=
  h.stays_clear rfl

theorem Turns.calm {s t : State} (h : Turns [] s t) : Calm s t := ⟨h.quiet_of, fun n => h.health_eq n⟩

theorem Frame.calm {ps : List Part} {s t : State} (h : Frame ps s t) (hd : Part.apart [.quiet, .signLinks] ps = true) :
    Calm s t := by
  obtain ⟨hq, -⟩ := h.keeps hd (p := .quiet) (by simp)
  have hl : s.link.signs = t.link.signs := h.keeps hd (p := .signLinks) (by simp)
  refine ⟨fun e => hq.trans e, fun n => ?_⟩
  unfold State.health
  rw [hl]

/-! ## The requests of an evaluation -/

/-- R49 to R52: what an evaluation asks of the register, from the publication on. -/
def requested (b : Bool) (s : State) : State :=
  let s2 := if b && decide (s.phase = .running) then countLift s else s
  if s.phase = .running then bringForward (autocloseTest s2) else s2

theorem evaluateHazard_eq (b : Bool) (s : State) :
    evaluateHazard b s = reportEvaluation s.hazard (requested b (publish s)) := rfl

theorem turns_requested (b : Bool) (s : State) : Turns [] s (requested b s) := by
  have hlift : Turns [] s (if b && decide (s.phase = .running) then countLift s else s) := Turns.ite (turns_countLift s) (.refl s)
  exact Turns.ite (hlift.trans ((turns_autocloseTest _).trans (turns_bringForward _))) hlift

theorem frame_requested (b : Bool) (s : State) : Frame (.liftCounter :: Part.ofRecords) s (requested b s) := by
  have hlift : Frame (.liftCounter :: Part.ofRecords) s (if b && decide (s.phase = .running) then countLift s else s) :=
    Frame.guard (frame_countLift s)
  exact Frame.ite (hlift.trans (((frame_autocloseTest _).trans (frame_bringForward _)).widen rfl)) hlift

/-- The moves the operations of the register, the hazard unit and the peer table are made of. -/
structure RegisterKeeps (law : State → Prop) : Prop where
  /-- What writes no watched part, enters no QUIET and moves no sign's health. -/
  calm : ∀ {s t qs}, Calm s t → Frame qs s t → Part.apart Part.watched qs = true → law s → law t
  /-- Records change, and the change is reported. -/
  report : ∀ {s u}, Frame [.slots, .queue, .wait, .signs] s u → law s → law (reportRecords u)
  /-- A record changes without a report. -/
  amend : ∀ {s i a b}, s.recordAt i = some a → Unreported a b → law s → law (s.setSlot i (some b))
  level : ∀ {s}, law s → law (recomputeEffective s)

namespace RegisterKeeps

variable {law : State → Prop} {s : State}

/-! ## Entries, flags and serials -/

theorem aside (h : RegisterKeeps law) {t : State} {qs : List Part} (hf : Frame qs s t)
    (hd : Part.apart (.quiet :: .signLinks :: Part.watched) qs = true) (hs : law s) : law t := by
  unfold Part.apart at hd
  rw [List.all_cons, List.all_cons, Bool.and_eq_true, Bool.and_eq_true] at hd
  obtain ⟨hq, hl, hw⟩ := hd
  exact h.calm (hf.calm (by unfold Part.apart; rw [List.all_cons, List.all_cons, hq, hl]; rfl)) hf hw hs

theorem present (h : RegisterKeeps law) (e : Bulletin) (hs : law s) : law (Machine.present e s) :=
  h.aside (frame_present e s) rfl hs

theorem queueOwn (h : RegisterKeeps law) (r : ClosureRecord) (hs : law s) : law (Machine.queueOwn r s) :=
  h.aside (frame_queueOwn r s) rfl hs

theorem setFull (h : RegisterKeeps law) (b : Bool) (hs : law s) : law (Machine.setFull b s) := by
  have hset : Frame [.registerFull] s (s.withRegister { s.register with full := b }) := frame_full s b
  unfold Machine.setFull
  split
  · exact hs
  · exact h.present _ (h.aside hset rfl hs)

theorem judgeQuiet (h : RegisterKeeps law) (hs : law s) : law (Machine.judgeQuiet s) :=
  h.calm (turns_judgeQuiet s).calm (frame_judgeQuiet s) rfl hs

theorem evaluateSigns (h : RegisterKeeps law) (hs : law s) : law (Machine.evaluateSigns s) :=
  h.calm (turns_evaluateSigns s).calm (frame_evaluateSigns s) rfl hs

/-- A change of the hazard unit beside the effective level. -/
theorem withHazard (h : RegisterKeeps law) {x : Hazard} (he : x.effective = s.hazard.effective) (hs : law s) :
    law (s.withHazard x) := by
  have hf : Frame [.computation, .floor, .neighbours, .liftCounter, .hold] s (s.withHazard x) := by
    intro p hp
    cases p <;> simp_all [Part.agree]
  exact h.aside hf rfl hs

/-! ## Records -/

theorem storeRecord (h : RegisterKeeps law) (i : Nat) (r : ClosureRecord) (hs : law s) : law (Machine.storeRecord i r s) :=
  h.report ((frame_setSlot s i (some r)).widen rfl) hs

theorem vacate (h : RegisterKeeps law) (i : Nat) (hs : law s) : law (Machine.vacate i s) := by
  cases hr : s.recordAt i with
  | none =>
    unfold Machine.vacate
    rw [hr]
    exact hs
  | some r =>
    rw [vacate_eq hr]
    exact h.report (frame_removeEntries i r s) hs

theorem admitRecord (h : RegisterKeeps law) (r : ClosureRecord) (hs : law s) : law (Machine.admitRecord r s).1 := by
  unfold Machine.admitRecord
  split
  · exact h.storeRecord _ _ hs
  · split
    · exact h.storeRecord _ _ (h.vacate _ hs)
    · exact h.setFull _ hs

theorem takeSerial (h : RegisterKeeps law) (v : Byte) (hs : law s) : law (Machine.takeSerial v s) :=
  h.aside (frame_takeSerial v s) rfl hs

theorem slidePending (h : RegisterKeeps law) (b : Bool) (hs : law s) :
    law (s.withRegister { s.register with slidePending := b }) :=
  h.aside (frame_slidePending s b) rfl hs

theorem carrySlide (h : RegisterKeeps law) (hs : law s) : law (Machine.carrySlide s) := by
  have hadmit := h.admitRecord (s.ownRecord .slide s.config.slideHalf .inForce 0) hs
  unfold Machine.carrySlide
  split
  · exact h.present _ (h.storeRecord _ _ hs)
  · dsimp only
    split
    · next t ht =>
      rw [ht] at hadmit
      exact h.present _ (h.takeSerial _ hadmit)
    · next t ht =>
      rw [ht] at hadmit
      exact h.slidePending true hadmit

theorem slideEvent (h : RegisterKeeps law) (hs : law s) : law (Machine.slideEvent s) := by
  unfold Machine.slideEvent
  split
  · exact hs
  · exact h.carrySlide hs

theorem withSlide (h : RegisterKeeps law) (x : Slide) (hs : law s) : law (s.withSlide x) := h.aside (frame_slide s x) rfl hs

theorem deliverSlide (h : RegisterKeeps law) (hs : law s) : law (Machine.deliverSlide s) := by
  unfold Machine.deliverSlide
  split
  · exact h.withSlide _ hs
  · exact h.slideEvent hs

theorem deliverDeferred (h : RegisterKeeps law) (hs : law s) : law (Machine.deliverDeferred s) := by
  unfold Machine.deliverDeferred
  split
  · exact h.slideEvent (h.withSlide _ hs)
  · exact hs

theorem restartWalker (h : RegisterKeeps law) (hs : law s) : law (Machine.restartWalker s) :=
  h.aside (frame_restartWalker s) rfl hs

/-! ## Requests of the hazard unit -/

theorem forIndices (f : Nat → State → State) (hf : ∀ i u, law u → law (f i u)) (hs : law s) : law (Machine.forIndices f s) := by
  have hfold : ∀ (l : List Nat) (u : State), law u → law (l.foldl (fun s i => f i s) u) := by
    intro l
    induction l with
    | nil => exact fun u hu => hu
    | cons i rest ih => exact fun u hu => ih _ (hf i u hu)
  exact hfold _ s hs

theorem bringForwardAt (h : RegisterKeeps law) (i : Nat) (hs : law s) : law (Machine.bringForwardAt i s) := by
  unfold Machine.bringForwardAt
  split
  · split
    · exact h.storeRecord _ _ (h.queueOwn _ hs)
    · exact hs
  · exact hs

theorem bringForward (h : RegisterKeeps law) (hs : law s) : law (Machine.bringForward s) := by
  unfold Machine.bringForward
  split
  · exact forIndices (law := law) Machine.bringForwardAt (fun i u hu => h.bringForwardAt i hu) hs
  · exact hs

theorem originate (h : RegisterKeeps law) (hs : law s) : law (Machine.originate s).1 := by
  have hadmit := h.admitRecord (s.ownRecord .avalanche s.config.segmentHalf .announced s.config.announceLead) hs
  unfold Machine.originate
  dsimp only
  split
  · next t ht =>
    rw [ht] at hadmit
    exact h.queueOwn _ (h.takeSerial _ hadmit)
  · next t ht =>
    rw [ht] at hadmit
    exact hadmit

theorem autocloseTest (h : RegisterKeeps law) (hs : law s) : law (Machine.autocloseTest s) := by
  have horiginate := h.originate hs
  unfold Machine.autocloseTest
  split
  · split
    · next t ht =>
      rw [ht] at horiginate
      exact h.bringForward horiginate
    · next t ht =>
      rw [ht] at horiginate
      exact horiginate
  · exact hs

theorem liftAt (h : RegisterKeeps law) (i : Nat) (hs : law s) : law (Machine.liftAt i s) := by
  unfold Machine.liftAt
  split
  · split
    · exact h.autocloseTest (h.storeRecord _ _ (h.queueOwn _ hs))
    · exact hs
  · exact hs

theorem countLift (h : RegisterKeeps law) (hs : law s) : law (Machine.countLift s) := by
  have hcount : ∀ n, law (s.withHazard { s.hazard with liftCounter := n }) := fun n => h.withHazard rfl hs
  unfold Machine.countLift
  dsimp only
  generalize (if s.hazard.computed ≤ 2 ∧ s.hazard.floorLevel ≤ 2 then s.hazard.liftCounter + 1 else 0) = n
  split
  · exact forIndices (law := law) Machine.liftAt (fun i u hu => h.liftAt i hu) (hcount 0)
  · exact hcount _

theorem requested (h : RegisterKeeps law) (b : Bool) (hs : law s) :
    law (Machine.requested b s) := by
  have hlift : law (if b && decide (s.phase = .running) then Machine.countLift s else s) := by
    split
    · exact h.countLift hs
    · exact hs
  unfold Machine.requested
  dsimp only
  split
  · exact h.bringForward (h.autocloseTest hlift)
  · exact hlift

theorem applyFloor (h : RegisterKeeps law) (l n : Nat) (hs : law s) : law (Machine.applyFloor l n s) := by
  have hset : ∀ a b, law (s.withHazard { s.hazard with floorLevel := a, floorRemaining := b }) := fun a b => h.withHazard rfl hs
  unfold Machine.applyFloor
  dsimp only
  generalize (if decide (l = 0 ∨ n = 0) = true then 0 else min l 5) = level
  split
  · exact hset _ _
  · exact h.autocloseTest (h.level (hset _ _))

theorem controlLift (h : RegisterKeeps law) (hs : law s) : law (Machine.controlLift s) := by
  unfold Machine.controlLift
  split
  · exact h.autocloseTest (h.withHazard rfl hs)
  · exact h.withHazard rfl hs

theorem reportPeers (h : RegisterKeeps law) (hs : law s) : law (Machine.reportPeers s) := by
  unfold Machine.reportPeers recomputeNeighbours
  dsimp only
  have h1 := h.level (h.withHazard (x := { s.hazard with
    neighbourFloor := s.neighbourFloorNow, neighbourSilent := s.neighbourSilentNow }) rfl hs)
  split
  · refine h.judgeQuiet ?_
    split
    · exact h1
    · exact h.judgeQuiet (h.evaluateSigns (h.present _ h1))
  · exact hs

/-! ## Closure bulletins and the records' timers -/

theorem tellHazard (h : RegisterKeeps law) (c : Bool) (a b : ClosureRecord) (hs : law s) :
    law (Machine.tellHazard c a b s) := by
  unfold Machine.tellHazard
  split
  · refine h.autocloseTest ?_
    split
    · exact h.controlLift hs
    · exact hs
  · exact hs

theorem replaceRecord (h : RegisterKeeps law) (c : Bool) {i : Nat} {a b : ClosureRecord} (ha : s.recordAt i = some a)
    (hid : b.id = a.id) (hown : b.own = a.own) (hs : law s) : law (Machine.replaceRecord c i a b s) := by
  have hq : law (if c && carriedChanged a b then Machine.queueOwn b s else s)
      ∧ (if c && carriedChanged a b then Machine.queueOwn b s else s).recordAt i = some a := by
    split
    · exact ⟨h.queueOwn _ hs, (recordAt_congr ((frame_queueOwn b s).slots_eq (by decide)) i).trans ha⟩
    · exact ⟨hs, ha⟩
  obtain ⟨hq, hat⟩ := hq
  unfold Machine.replaceRecord
  refine h.tellHazard c a b ?_
  cases hr : reportable a b with
  | true => exact h.report ((frame_setSlot _ i (some b)).widen rfl) hq
  | false => exact h.amend hat ⟨hid, hown, hr⟩ hq

theorem createRecord (h : RegisterKeeps law) (c : ClosureContent) (hs : law s) : law (Machine.createRecord c s) := by
  have hadmit := h.admitRecord (s.newRecord c) hs
  unfold Machine.createRecord
  dsimp only
  split
  · exact hs
  · split
    · next t ht =>
      rw [ht] at hadmit
      split
      · exact h.queueOwn _ hadmit
      · exact hadmit
    · next t ht =>
      rw [ht] at hadmit
      exact hadmit

theorem takeClosure (h : RegisterKeeps law) (x : Bool) (a : Byte) (b : ClosureBody) (hs : law s) :
    law (Machine.takeClosure x a b s) := by
  unfold Machine.takeClosure
  split
  · exact hs
  · split
    · split
      · exact h.createRecord _ hs
      · next i r hf =>
        split
        · exact hs
        · next q hq =>
          obtain ⟨hid, hown, -⟩ := mergeRecord_amends hq
          exact h.replaceRecord _ (mem_records.mp (List.mem_of_find?_eq_some hf)) hid hown hs
    · exact hs

theorem removeRecord (h : RegisterKeeps law) (i : Nat) (r : ClosureRecord) (hs : law s) : law (Machine.removeRecord i r s) := by
  have hserve : ∀ u, law u → law (servePendingSlide u) := fun u hu => by
    unfold servePendingSlide
    split
    · exact h.carrySlide (h.slidePending false hu)
    · exact hu
  have h1 := hserve _ (h.setFull false (h.vacate i hs))
  unfold Machine.removeRecord
  dsimp only
  split
  · exact h.autocloseTest h1
  · exact h1

/-! ## Frames and peers -/

theorem storePeer (h : RegisterKeeps law) (p : Peer) (hs : law s) : law (Machine.storePeer p s) :=
  h.aside (frame_storePeer p s) rfl hs

theorem setPresence (h : RegisterKeeps law) (p : Peer) (x : Presence) (hs : law s) : law (Machine.setPresence p x s) := by
  unfold Machine.setPresence
  dsimp only
  split
  · exact h.reportPeers (h.storePeer _ hs)
  · exact h.storePeer _ hs

theorem serve (h : RegisterKeeps law) {c : Instr} {x : FrameHeader} {take : Peer → Peer} {f : State → State}
    (hc : reception c = some (x, take, f)) (s : State) (hs : law s) : law (f s) := by
  cases c <;> cases hc
  case announceReceived => exact hs
  case statusReceived => exact hs
  case closureReceived =>
    unfold serveClosure
    split
    · exact h.takeClosure _ _ _ hs
    · exact hs
  case alertReceived =>
    unfold serveClosure
    split
    · exact h.takeClosure _ _ _ hs
    · exact hs
  case floorReceived =>
    unfold serveFloor
    split
    · exact h.applyFloor _ _ hs
    · exact hs
  case queryReceived => exact h.aside (Frame.guard (Frame.ite ((frame_answerInFault s).widen (qs := Part.ofPresent) rfl)
      (((frame_present _ _).widen rfl).trans ((frame_present _ _).widen rfl)))) rfl hs
  case recapReceived => exact h.aside (frame_serveRecap_parts _ _ s) rfl hs

theorem reception (h : RegisterKeeps law) {c : Instr} {x} (hc : Machine.reception c = some x) (hs : law s) :
    law (outcome c s) := by
  obtain ⟨header, take, f⟩ := x
  rw [outcome_reception hc]
  have hend : law (endFrame s) := h.aside (frame_endFrame s) rfl hs
  exact receiveFrame_cases hs hend (h.aside (frame_addressConflict _) rfl hend)
    (servePeer_keeps (law := law) (fun p u hu => h.storePeer p hu) (fun u hu => h.reportPeers hu)
      (fun e u hu => h.present e hu) header take hend)
    (h.serve hc)

end RegisterKeeps
end Sys2Proof.Machine
end

section
/-! PROOF. What the commands beside those of start-up, the gates and QUIET keep, said once for the laws of QUIET and of the gates. -/

namespace Sys2Proof.Machine

open Sys2Proof

/-- The moves the commands of the bulletins, the channels, the register, the hazard unit and the sign link are made of. -/
structure StationKeeps (law : State → Prop) : Prop extends RegisterKeeps law where
  evaluateGates : ∀ {s}, law s → law (evaluateGates s)
  /-- A sign comes to FAULT. -/
  fault : ∀ {n s}, law s → law (reportFault n
    (s.setSignLink n { s.link.signs.get n with health := .fault, failures := 3, probe := .counting 0 }))
  /-- A sign comes to OK. -/
  healthy : ∀ {n s}, law s → law (succeeded n s)
  /-- A channel changes beside its alert. -/
  channel : ∀ {c ch s}, ch.alert = (s.channels.get c).alert → law s → law (s.setChannel c ch)
  sample : ∀ {c v s}, law s → law (presentSample c v s)
  evaluation : ∀ {b s}, law s → law (evaluateHazard b s)

namespace StationKeeps

variable {law : State → Prop} {s : State}

/-! ## Samples -/

theorem takeRaw_alert (ch : Channel) (k : ChannelConfig) (raw : Option Nat) : (ch.takeRaw k raw).alert = ch.alert := by
  cases raw <;> rfl

theorem widthSample (h : StationKeeps law) (c : Chan) (raw : Option Nat) (hs : law s) : law (Machine.widthSample c raw s) :=
  h.sample (h.channel (takeRaw_alert (s.channels.get c) (s.channelConfig c) raw) hs)

theorem closeMinute (h : StationKeeps law) (c : Chan) (hs : law s) : law (Machine.closeMinute c s) := by
  unfold Machine.closeMinute
  dsimp only
  split
  · exact h.sample (h.channel (takeRaw_alert (s.channels.get c).nextMinute (s.channelConfig c) _) hs)
  · exact h.channel rfl hs

theorem insertHour (h : StationKeeps law) (hs : law s) : law (Machine.insertHour s) := by
  have hbegin : ∀ (c : Chan) (u : State), law u → law (beginHour c u) := fun c u hu => h.channel rfl hu
  have hring : law ((s.withRetained (s.retained.insert s.hourRecord)).withPartialPending false) :=
    h.aside (frame_withPartialPending _ false) rfl (h.aside (frame_insertRecord s s.hourRecord) rfl hs)
  exact h.aside (frame_withClock _ _) rfl (hbegin .c4 _ (hbegin .c3 _ (hbegin .c2 _ (hbegin .c1 _ hring))))

theorem minuteClose (h : StationKeeps law) (hs : law s) : law (outcome .minuteClose s) := by
  dsimp only [outcome, exec, execMinuteClose]
  split
  · exact h.evaluateSigns (h.aside (frame_withClock _ _) rfl
      (h.closeMinute .c4 (h.closeMinute .c3 (h.closeMinute .c2 (h.closeMinute .c1 hs)))))
  · exact hs

theorem pulseEdge (h : StationKeeps law) (ch : Chan) (r : Bool) (hs : law s) : law (outcome (.pulseEdge ch r) s) := by
  dsimp only [outcome, exec, execPulseEdge]
  split
  · split
    · exact hs
    · split
      · exact h.channel rfl hs
      · exact hs
    · split
      · exact h.channel rfl hs
      · exact hs
    · split
      · exact h.channel rfl hs
      · exact h.widthSample ch _ hs
      · exact hs
  · exact hs

theorem senseLineChange (h : StationKeeps law) (ch : Chan) (b : Bool) (hs : law s) :
    law (outcome (.senseLineChange ch b) s) := by
  have hpin : law (s.withPins { s.pins with sense := s.pins.sense.set ch b }) := h.aside (frame_withPins s _) rfl hs
  dsimp only [outcome, exec, execSenseLineChange]
  split
  · split
    · exact h.channel (s := s.withPins { s.pins with sense := s.pins.sense.set ch b }) rfl hpin
    · exact h.widthSample ch none hpin
    · exact hpin
  · exact hpin

theorem rateWindowEnd (h : StationKeeps law) (ch : Chan) (hs : law s) : law (outcome (.rateWindowEnd ch) s) := by
  dsimp only [outcome, exec, execRateWindowEnd]
  split
  · exact h.sample (h.channel (takeRaw_alert (s.channels.get ch) (s.channelConfig ch) _) hs)
  · exact hs

/-! ## The sign link -/

theorem signReport (h : StationKeeps law) (n : Sign) (hs : law s) : law (Machine.signReport n s) := by
  unfold Machine.signReport
  split
  · exact h.evaluateGates hs
  · exact hs

theorem arbitrate (h : StationKeeps law) (hs : law s) : law (Machine.arbitrate s) :=
  h.calm (turns_arbitrate s).calm (frame_arbitrate s) rfl hs

theorem endTransfer (h : StationKeeps law) (hs : law s) : law (Machine.endTransfer s) :=
  h.aside (frame_endTransfer s) rfl hs

/-- A sign's record in the link changes beside its health. -/
theorem setSignLink (h : StationKeeps law) (n : Sign) {k : SignLink} (hk : k.health = s.health n) (hs : law s) :
    law (s.setSignLink n k) := by
  refine h.calm (s := s) (t := s.setSignLink n k) ⟨id, fun m => ?_⟩ (frame_setSignLink s n k) rfl hs
  show ((s.link.signs.set n k).get m).health = (s.link.signs.get m).health
  by_cases hm : m = n
  · subst hm
    rw [PerSign.get_set_same]
    exact hk
  · rw [PerSign.get_set_other _ _ _ _ hm]

theorem failTransfer (h : StationKeeps law) (t : Transfer) (hs : law s) : law (Machine.failTransfer t s) := by
  have hend := h.endTransfer hs
  refine h.arbitrate ?_
  unfold countFailure
  dsimp only
  split
  · exact hend
  · next hk => exact h.setSignLink t.sign rfl hend
  · split
    · exact h.fault hend
    · exact h.setSignLink t.sign rfl hend

theorem reportOk (h : StationKeeps law) (n : Sign) (b : Bool) (hs : law s) : law (Machine.reportOk n b s) := by
  have h1 := h.judgeQuiet (h.present .status (h.signReport n hs))
  unfold Machine.reportOk
  dsimp only
  split
  · exact h.aside (frame_setSign _ n _) rfl h1
  · exact h1

theorem reportAck (h : StationKeeps law) (t : Transfer) (hs : law s) : law (Machine.reportAck t s) := by
  have hack : law (acknowledge t.sign t.pages s) := h.aside (frame_acknowledge _ _ s) rfl hs
  unfold Machine.reportAck
  dsimp only
  split
  · exact hack
  · exact h.signReport _ hack

theorem ackReceived (h : StationKeeps law) (a : BitVec 4) (x : Word16) (hs : law s) : law (outcome (.ackReceived a x) s) := by
  dsimp only [outcome, exec, execAckReceived]
  split
  · next t _ =>
    split
    · have hok : law (succeeded t.sign (Machine.endTransfer s)) := h.healthy (h.endTransfer hs)
      refine h.arbitrate (h.reportAck t ?_)
      split
      · exact hok
      · exact h.reportOk _ _ hok
    · exact h.failTransfer t hs
  · exact hs

theorem nakUnknownTemplate (h : StationKeeps law) (a p : BitVec 4) (hs : law s) :
    law (outcome (.nakUnknownTemplate a p) s) := by
  dsimp only [outcome, exec, execNakUnknownTemplate]
  split
  · next t _ =>
    refine h.arbitrate ?_
    have hrefused : law (evaluateSign t.sign ((Machine.endTransfer s).setSign t.sign
        { (Machine.endTransfer s).signs.get t.sign with
          refused := refuseTemplate (refusedTemplate t.pages p) ((Machine.endTransfer s).signs.get t.sign).refused })) :=
      h.calm (turns_evaluateSign _ _).calm (frame_evaluateSign _ _) rfl
        (h.aside (frame_setSign _ _ _) rfl (h.endTransfer hs))
    unfold countRefusal
    dsimp only
    split
    · exact h.setSignLink t.sign rfl hrefused
    · exact hrefused
  · exact hs

theorem probeDue (h : StationKeeps law) (n : Sign) (hs : law s) : law (outcome (.probeDue n) s) := by
  dsimp only [outcome, exec, execProbeDue]
  split
  · split
    · exact h.arbitrate (h.setSignLink n rfl hs)
    · exact hs
  · exact hs

/-! ## The commands -/

/-- The commands of start-up, of the gates and of QUIET, which move what these laws look at in ways of their own. -/
def ownWay : Instr → Bool
  | .powerOnReset _ _ | .warmReset _ _ | .configurationReadEnd _ | .settlingStart | .runningEntry => true
  | .limitInputChange _ _ _ | .gateLeadElapsed _ | .dwellEnd _ | .travelStall _ | .stallRetry _ => true
  | .keyToLocal | .keyToRemote | .closeButtonPress | .openButtonPress _ | .quietEntry => true
  | _ => false

theorem command (h : StationKeeps law) (c : Instr) (hc : ownWay c = false) (hs : law s) : law (outcome c s) := by
  have hrecord : ∀ {i : Nat} {u : ClosureRecord → State} {p : ClosureRecord → Prop} [∀ r, Decidable (p r)],
      (∀ r, law (u r)) → law (match s.recordAt i with
        | some r => if p r then u r else s
        | none => s) := fun hu => by
    split
    · split
      · exact hu _
      · exact hs
    · exact hs
  cases c with
  | pulseEdge ch r => exact h.pulseEdge ch r hs
  | senseLineChange ch b => exact h.senseLineChange ch b hs
  | widthOverrange ch =>
    dsimp only [outcome, exec, execWidthOverrange]
    split
    · exact h.widthSample ch none hs
    · exact hs
  | silenceTimerExpiry ch =>
    dsimp only [outcome, exec, execSilenceTimerExpiry]
    split
    · exact h.sample (h.channel rfl hs)
    · exact hs
  | rateWindowEnd ch => exact h.rateWindowEnd ch hs
  | minuteClose => exact h.minuteClose hs
  | hourClose =>
    dsimp only [outcome, exec, execHourClose]
    split
    · exact h.evaluation (h.insertHour hs)
    · exact hs
  | slideConfirmationExpiry =>
    dsimp only [outcome, exec, execSlideConfirmationExpiry]
    split
    · exact h.deliverSlide (h.withSlide _ hs)
    · exact hs
  | operatorFloorExpiry =>
    dsimp only [outcome, exec, execOperatorFloorExpiry]
    split
    · exact h.autocloseTest (h.level (h.withHazard rfl hs))
    · exact hs
  | overrideHoldExpiry =>
    dsimp only [outcome, exec, execOverrideHoldExpiry]
    split
    · exact h.autocloseTest (h.withHazard rfl hs)
    · exact hs
  | announceReceived x b => exact h.reception rfl hs
  | statusReceived x b => exact h.reception rfl hs
  | closureReceived x b => exact h.reception rfl hs
  | alertReceived x b => exact h.reception rfl hs
  | floorReceived x b => exact h.reception rfl hs
  | queryReceived x a => exact h.reception rfl hs
  | recapReceived x a => exact h.reception rfl hs
  | peerLate a =>
    dsimp only [outcome, exec, execPeerLate]
    split
    · split
      · exact h.setPresence _ _ hs
      · exact hs
    · exact hs
  | peerSilent a =>
    dsimp only [outcome, exec, execPeerSilent]
    split
    · split
      · exact h.setPresence _ _ hs
      · exact hs
    · exact hs
  | leadExpiry i => exact hrecord fun r => h.storeRecord _ _ (h.queueOwn _ hs)
  | durationExpiry i => exact hrecord fun r => h.tellHazard _ _ _ (h.storeRecord _ _ (h.queueOwn _ hs))
  | liftedDisplayExpiry i => exact hrecord fun r => h.removeRecord i r hs
  | recordStale i => exact hrecord fun r => h.storeRecord _ _ hs
  | refreshTimerExpiry n =>
    dsimp only [outcome, exec, execRefreshTimerExpiry]
    split
    · exact h.calm (turns_refreshSign n s).calm (frame_refreshSign n s) rfl hs
    · exact hs
  | ackReceived a x => exact h.ackReceived a x hs
  | nakUnknownTemplate a p => exact h.nakUnknownTemplate a p hs
  | nakBadFormat a p =>
    dsimp only [outcome, exec, execNakBadFormat]
    split
    · exact h.failTransfer _ hs
    · exact hs
  | replyTimeout =>
    dsimp only [outcome, exec, execReplyTimeout]
    split
    · split
      · exact h.failTransfer _ hs
      · exact hs
    · exact hs
  | pauseLimit =>
    dsimp only [outcome, exec, execPauseLimit]
    split
    · split
      · exact h.failTransfer _ hs
      · exact hs
    · exact hs
  | probeDue n => exact h.probeDue n hs
  | powerOnReset | warmReset | configurationReadEnd | settlingStart | runningEntry | limitInputChange | gateLeadElapsed
  | dwellEnd | travelStall | stallRetry | keyToLocal | keyToRemote | closeButtonPress | openButtonPress | quietEntry =>
    cases hc
  | _ => exact h.aside (frame_outcome _ s) rfl hs

end StationKeeps
end Sys2Proof.Machine
end

section
/-! PROOF. What the operations of a gate keep, and the judgement of QUIET (R173, R176). -/

namespace Sys2Proof.Machine

open Sys2Proof

variable {s t : State}

/-! ## What a gate's operations keep -/

/-- The moves of a gate that is re-evaluated, for a law that a gate stored by `putGate` keeps. -/
structure PutKeeps (law : State → Prop) : Prop where
  put : ∀ {g u s}, law s → law (putGate g u s)
  /-- A gate changes beside its state. -/
  same : ∀ {g u s}, u.state = (s.gates.units.get g).state → law s → law (s.setGate g u)

namespace PutKeeps

variable {law : State → Prop}

theorem beginTravel (h : PutKeeps law) (b : Bool) (g : Gate) (d : Demand) (hs : law s) : law (Machine.beginTravel b g d s) := by
  unfold Machine.beginTravel
  dsimp only
  split
  · exact h.put hs
  · exact h.put hs

theorem enterClosePending (h : PutKeeps law) (g : Gate) (hs : law s) : law (Machine.enterClosePending g s) := by
  unfold Machine.enterClosePending
  dsimp only
  split
  · exact h.beginTravel _ _ _ (h.put hs)
  · exact h.put hs

theorem actOnDemand (h : PutKeeps law) (g : Gate) (hs : law s) : law (Machine.actOnDemand g s) := by
  have hite : ∀ {p : Prop} [Decidable p] {a b : State}, law a → law b → law (if p then a else b) := fun ha hb => by
    split
    · exact ha
    · exact hb
  have htravel : ∀ d, law (Machine.beginTravel true g d s) := fun d => h.beginTravel true g d hs
  have hpending := h.enterClosePending g hs
  unfold Machine.actOnDemand
  dsimp only
  split
  · exact hs
  · split
    · exact hite (htravel _) hpending
    · exact hite (htravel _) hpending
    · exact hite (htravel _) hs
    · exact h.put hs
    · exact hs
  · split
    · exact hite (htravel _) hs
    · exact hite (htravel _) hs
    · exact h.put hs
    · exact h.put hs
    · exact hs

theorem evaluateGate (h : PutKeeps law) (g : Gate) (hs : law s) : law (Machine.evaluateGate g s) := by
  unfold Machine.evaluateGate
  split
  · exact h.actOnDemand g (h.same rfl hs)
  · exact hs

theorem evaluateGates (h : PutKeeps law) (hs : law s) : law (Machine.evaluateGates s) :=
  h.evaluateGate .w (h.evaluateGate .e hs)

end PutKeeps

/-- The moves the operations of the gates are made of. -/
structure GateKeeps (law : State → Prop) : Prop extends PutKeeps law where
  key : ∀ {k d s}, law s → law (s.withGates { s.gates with keyLocal := k, localDemand := d })
  aside : ∀ {s t qs}, Frame qs s t → Part.apart (.quiet :: .signLinks :: Part.watched) qs = true → law s → law t

namespace GateKeeps

variable {law : State → Prop}

theorem completeTravel (h : GateKeeps law) (g : Gate) (d : Demand) (hs : law s) : law (Machine.completeTravel g d s) := by
  unfold Machine.completeTravel
  dsimp only
  split
  · exact h.put (h.aside (frame_recordTravel g d _ s) rfl hs)
  · exact h.put hs

theorem resumeTravel (h : GateKeeps law) (g : Gate) (hs : law s) : law (Machine.resumeTravel g s) := by
  unfold Machine.resumeTravel
  dsimp only
  split
  · split
    · exact h.beginTravel _ _ _ hs
    · exact h.put hs
  · exact h.put hs

theorem limitEvent (h : GateKeeps law) (g : Gate) (l : Limit) (a : Bool) (hs : law s) : law (Machine.limitEvent g l a s) := by
  have hite : ∀ {p : Prop} [Decidable p] {a b : State}, law a → law b → law (if p then a else b) := fun ha hb => by
    split
    · exact ha
    · exact hb
  have hgain : ∀ u, law (Machine.evaluateGate g (putGate g u s)) := fun u => h.evaluateGate g (h.put hs)
  unfold Machine.limitEvent
  refine hite hs (hite (h.put hs) ?_)
  split
  · exact hite (h.completeTravel g .closed hs) hs
  · exact hite (h.completeTravel g .opened hs) hs
  · exact hite hs (hite (h.beginTravel _ _ _ hs) (h.put hs))
  · exact hite hs (hite (h.beginTravel _ _ _ hs) (h.put hs))
  · exact hite (hgain _) hs
  · exact hite (hgain _) hs
  · exact hite (h.put hs) hs
  · exact hs
  · exact hs

theorem followLimits (h : GateKeeps law) (g : Gate) (hs : law s) : law (Machine.followLimits g s) := by
  unfold Machine.followLimits
  dsimp only
  split
  · exact hs
  · exact h.put hs

theorem stopGate (h : GateKeeps law) (g : Gate) (hs : law s) : law (Machine.stopGate g s) := by
  unfold Machine.stopGate
  dsimp only
  split
  · exact h.put hs
  · exact h.put hs
  · exact h.put hs
  · exact h.put hs
  · exact hs

theorem gateToLocal (h : GateKeeps law) (g : Gate) (hs : law s) : law (Machine.gateToLocal g s) := by
  unfold Machine.gateToLocal
  dsimp only
  split
  · split
    · exact h.put hs
    · exact h.stopGate g hs
  · exact hs

theorem gateToRemote (h : GateKeeps law) (g : Gate) (hs : law s) : law (Machine.gateToRemote g s) := by
  unfold Machine.gateToRemote
  dsimp only
  split
  · split
    · exact h.put hs
    · exact h.stopGate g hs
  · exact hs

theorem keyToLocal (h : GateKeeps law) (hs : law s) : law (outcome .keyToLocal s) := by
  have hpin : law (s.withPins { s.pins with keyLocal := true }) := h.aside (frame_withPins s _) rfl hs
  have hclear : ∀ (g : Gate) (u : State), law u → law (clearDemand g u) := fun g u hu => h.same rfl hu
  dsimp only [outcome, exec, execKeyToLocal]
  split
  · exact h.gateToLocal .w (h.gateToLocal .e (hclear .w _ (hclear .e _ (h.key hpin))))
  · exact hpin

theorem keyToRemote (h : GateKeeps law) (hs : law s) : law (outcome .keyToRemote s) := by
  have hpin : law (s.withPins { s.pins with keyLocal := false }) := h.aside (frame_withPins s _) rfl hs
  have hopen : ∀ (g : Gate) (u : State), law u → law (remoteDemand g u) := fun g u hu => h.same rfl hu
  dsimp only [outcome, exec, execKeyToRemote]
  split
  · exact h.evaluateGates (h.gateToRemote .w (h.gateToRemote .e (hopen .w _ (hopen .e _ (h.key hpin)))))
  · exact hpin

theorem setLocalDemand (h : GateKeeps law) (d : Demand) (hs : law s) : law (Machine.setLocalDemand d s) :=
  h.evaluateGates (h.key (k := s.gates.keyLocal) (d := some d) hs)

/-- The gates' commands. -/
def gateCommand : Instr → Bool
  | .limitInputChange _ _ _ | .gateLeadElapsed _ | .dwellEnd _ | .travelStall _ | .stallRetry _ => true
  | .keyToLocal | .keyToRemote | .closeButtonPress | .openButtonPress _ => true
  | _ => false

theorem command (h : GateKeeps law) (c : Instr) (hc : gateCommand c = true) (hs : law s) : law (outcome c s) := by
  have hguard : ∀ {p : Prop} [Decidable p] {a : State}, law a → law (if p then a else s) := fun ha => by
    split
    · exact ha
    · exact hs
  cases c with
  | limitInputChange g l a =>
    have hpin : law (takeLimit g l a s) := h.aside (frame_takeLimit g l a s) rfl hs
    dsimp only [outcome, exec, execLimitInputChange]
    split
    · exact hs
    · split
      · split
        · exact h.followLimits g hpin
        · split
          · exact h.limitEvent g l a hpin
          · exact hpin
      · exact hpin
  | gateLeadElapsed g => exact hguard (h.beginTravel _ _ _ hs)
  | dwellEnd g => exact hguard (h.resumeTravel g hs)
  | travelStall g =>
    refine hguard ?_
    split
    · exact h.put hs
    · exact h.put hs
  | stallRetry g => exact hguard (h.resumeTravel g hs)
  | keyToLocal => exact h.keyToLocal hs
  | keyToRemote => exact h.keyToRemote hs
  | closeButtonPress => exact hguard (h.setLocalDemand .closed hs)
  | openButtonPress b => exact hguard (h.setLocalDemand .opened hs)
  | _ => cases hc

end GateKeeps

/-! ## The judgement -/

/-- R176: the conditions a QUIET station keeps. -/
def QuietOk (s : State) : Prop :=
  s.hazard.effective = 0 ∧ s.noAlert = true ∧ s.gatesOpen = true ∧ s.noSignFault = true ∧ s.noOwnClosure = true

theorem quietLaw_iff (s : State) : QuietLaw s ↔ (s.startup.quiet = true → s.phase = .running ∧ QuietOk s) := Iff.rfl

theorem quietLaw_of_clear (h : s.startup.quiet = false) : QuietLaw s := fun e => by
  rw [h] at e
  cases e

theorem quietOk_of_favourable (h : s.favourable = true) : QuietOk s := by
  unfold State.favourable at h
  simp only [Bool.and_eq_true, decide_eq_true_eq] at h
  obtain ⟨⟨⟨⟨⟨⟨⟨heff, halert⟩, -⟩, hown⟩, hgates⟩, hsigns⟩, -⟩, -⟩ := h
  exact ⟨heff, halert, hgates, hsigns, hown⟩

theorem quiet_leaveQuiet (s : State) : (leaveQuiet s).startup.quiet = false := by
  have hturns : Turns [] (s.withStartup { s.startup with quiet := false, entryTimer := none }) (leaveQuiet s) :=
    (turns_status _).trans ((turns_restartRefresh _).trans (turns_evaluateSigns _))
  exact Bool.eq_false_iff.mpr fun h => Bool.noConfusion (hturns.quiet_of h)

/-- R173, R176: a judgement leaves QUIET only where its conditions hold. -/
theorem quietLaw_judgeQuiet (h : s.startup.quiet = true → s.phase = .running) : QuietLaw (judgeQuiet s) := by
  unfold judgeQuiet
  split
  · next hrun =>
    split
    · split
      · next hf => exact fun _ => ⟨hrun, quietOk_of_favourable hf⟩
      · exact quietLaw_of_clear (quiet_leaveQuiet s)
    · next hq =>
      rw [Bool.not_eq_true] at hq
      split
      · split
        · exact quietLaw_of_clear hq
        · exact quietLaw_of_clear hq
      · exact quietLaw_of_clear hq
  · next hrun =>
    exact quietLaw_of_clear (Bool.eq_false_iff.mpr fun e => hrun (h e))

/-- Where the law held before, QUIET is a sub-state of RUNNING after what enters no QUIET and keeps the phase. -/
theorem running_of_quiet (hs : QuietLaw s) (hq : t.startup.quiet = true → s.startup.quiet = true)
    (hphase : t.phase = s.phase) : t.startup.quiet = true → t.phase = .running := fun e => hphase.trans (hs (hq e)).1

end Sys2Proof.Machine
end

section
/-! PROOF. The law of QUIET through every step (R173, R176), and the dark signs of a QUIET station (R129, R136). -/

namespace Sys2Proof.Machine

open Sys2Proof

variable {s t u : State}

/-! ## The law of QUIET through the operations -/

theorem Frame.quietOk {qs : List Part} (hf : Frame qs s t) (hd : Part.apart Part.watched qs = true)
    (hh : ∀ n, t.health n = s.health n) (hs : QuietOk s) : QuietOk t := by
  obtain ⟨heff, halert, hopen, hfault, hown⟩ := hs
  have he : s.hazard.effective = t.hazard.effective := hf.keeps hd (p := .effective) (by simp [Part.watched])
  have hc : s.channels = t.channels := hf.keeps hd (p := .channels) (by simp [Part.watched])
  have hsl : s.register.slots = t.register.slots := hf.keeps hd (p := .slots) (by simp [Part.watched])
  have hg : s.gates.units = t.gates.units := hf.keeps hd (p := .gateUnits) (by simp [Part.watched])
  obtain ⟨-, hcfg, -⟩ := hf.settings_eq (Part.not_mem_of_apart hd (by simp [Part.watched]))
  refine ⟨he ▸ heff, ?_, ?_, ?_, ?_⟩
  · unfold State.noAlert at halert ⊢
    rw [← hc]
    exact halert
  · unfold State.gatesOpen at hopen ⊢
    rw [← hg, hcfg]
    exact hopen
  · unfold State.noSignFault at hfault ⊢
    simp only [hh]
    exact hfault
  · unfold State.noOwnClosure State.records at hown ⊢
    rw [← hsl]
    exact hown

theorem quietLaw_calm {qs : List Part} (hc : Calm s t) (hf : Frame qs s t) (hd : Part.apart Part.watched qs = true)
    (hs : QuietLaw s) : QuietLaw t := by
  obtain ⟨hq, hh⟩ := hc
  intro he
  obtain ⟨hrun, hok⟩ := hs (hq he)
  obtain ⟨hphase, -, -⟩ := hf.settings_eq (Part.not_mem_of_apart hd (by simp [Part.watched]))
  exact ⟨hphase.trans hrun, hf.quietOk hd hh hok⟩

/-- R173: a judgement at the end of turns that keep the phase and enter no QUIET. -/
theorem quietLaw_judged (hs : QuietLaw s) (h : Turns [] s t) : QuietLaw (judgeQuiet t) :=
  quietLaw_judgeQuiet (running_of_quiet hs h.quiet_of h.phase_eq)

theorem noOwnClosure_iff (s : State) : s.noOwnClosure = true ↔
    ∀ i r, s.recordAt i = some r → r.state = .lifted ∨ r.own = false := by
  unfold State.noOwnClosure
  simp only [List.all_eq_true, Bool.or_eq_true, decide_eq_true_eq, Bool.not_eq_true', Prod.forall, mem_records]

theorem quietLaw_setSlot {i : Nat} {a b : ClosureRecord} (h : s.recordAt i = some a) (hu : Unreported a b)
    (hs : QuietLaw s) : QuietLaw (s.setSlot i (some b)) := by
  obtain ⟨-, hown, hsame⟩ := hu
  intro hq
  obtain ⟨hrun, heff, halert, hopen, hfault, hclosed⟩ := hs hq
  refine ⟨hrun, heff, halert, hopen, hfault, (noOwnClosure_iff _).mpr fun j r hr => ?_⟩
  have hold := (noOwnClosure_iff s).mp hclosed
  by_cases hj : j = i
  · subst hj
    rw [recordAt_setSlot_of_held h] at hr
    cases hr
    have hstate : a.state = b.state := by
      unfold reportable at hsame
      simp only [decide_eq_false_iff_not, not_or, Decidable.not_not] at hsame
      exact hsame.1
    rw [← hstate, hown]
    exact hold j a h
  · rw [recordAt_setSlot_of_ne hj] at hr
    exact hold j r hr

theorem quietLaw_reportRecords (hf : Frame [.slots, .queue, .wait, .signs] s u) (hs : QuietLaw s) :
    QuietLaw (reportRecords u) := by
  have hturns : Turns [] u (evaluateGates (evaluateSigns u)) := (turns_evaluateSigns u).trans (turns_evaluateGates _)
  obtain ⟨hq, -⟩ : s.startup.quiet = u.startup.quiet ∧ s.startup.entryTimer = u.startup.entryTimer := hf .quiet (by decide)
  obtain ⟨hphase, -, -⟩ := hf.settings_eq (by decide)
  exact quietLaw_judgeQuiet (running_of_quiet hs (fun e => hq.trans (hturns.quiet_of e)) (hturns.phase_eq.trans hphase))

theorem gatesOpen_setGate {g : Gate} {x : GateUnit} (h : x.state = (s.gates.units.get g).state) :
    (s.setGate g x).gatesOpen = s.gatesOpen := by
  have hstate : ∀ k, ((s.setGate g x).gates.units.get k).state = (s.gates.units.get k).state := fun k => by
    by_cases hk : k = g
    · subst hk
      simp [State.setGate, h]
    · simp [State.setGate, hk]
  unfold State.gatesOpen
  simp only [hstate]
  rfl

theorem quietLaw_setGate {g : Gate} {x : GateUnit} (h : x.state = (s.gates.units.get g).state) (hs : QuietLaw s) :
    QuietLaw (s.setGate g x) := by
  intro hq
  obtain ⟨hrun, heff, halert, hopen, hfault, hclosed⟩ := hs hq
  exact ⟨hrun, heff, halert, (gatesOpen_setGate h).trans hopen, hfault, hclosed⟩

theorem quietLaw_putGate (g : Gate) (x : GateUnit) (hs : QuietLaw s) : QuietLaw (putGate g x s) := by
  have hturns : Turns [] (s.setGate g x) (present .status (s.setGate g x)) := turns_status _
  unfold putGate
  dsimp only
  split
  · refine quietLaw_judgeQuiet (running_of_quiet hs ?_ ?_)
    · split
      · exact hturns.quiet_of
      · exact id
    · split
      · exact hturns.phase_eq
      · rfl
  · next hsame =>
    rw [Decidable.not_not] at hsame
    have hset : QuietLaw (s.setGate g x) := quietLaw_setGate hsame hs
    split
    · exact quietLaw_calm ((frame_present _ _).calm rfl) (frame_present _ _) rfl hset
    · exact hset

theorem quietLaw_level (hs : QuietLaw s) : QuietLaw (recomputeEffective s) := by
  unfold recomputeEffective
  split
  · exact hs
  · have hset : ∀ x : Hazard, (s.withHazard x).startup.quiet = true → (s.withHazard x).phase = .running := fun x =>
      running_of_quiet hs id rfl
    have hturns : ∀ v : State, Turns [] v (evaluateSigns (present .status v)) := fun v =>
      (turns_status v).trans (turns_evaluateSigns _)
    exact quietLaw_judgeQuiet fun e => (hturns _).phase_eq.trans (hset _ ((hturns _).quiet_of e))

theorem registerKeeps_quietLaw : RegisterKeeps QuietLaw where
  calm := quietLaw_calm
  report := quietLaw_reportRecords
  amend := quietLaw_setSlot
  level := quietLaw_level

theorem gateKeeps_quietLaw : GateKeeps QuietLaw where
  put := quietLaw_putGate _ _
  same := quietLaw_setGate
  key hs := hs
  aside hf hd hs := registerKeeps_quietLaw.aside hf hd hs

/-! ### Channels, signs and evaluations -/

theorem quietLaw_setChannel {c : Chan} {x : Channel} (h : x.alert = (s.channels.get c).alert) (hs : QuietLaw s) :
    QuietLaw (s.setChannel c x) := by
  have halerts : ∀ k, ((s.setChannel c x).channels.get k).alert = (s.channels.get k).alert := fun k => by
    by_cases hk : k = c
    · subst hk
      simp [State.setChannel, h]
    · simp [State.setChannel, hk]
  intro hq
  obtain ⟨hrun, heff, halert, hrest⟩ := hs hq
  refine ⟨hrun, heff, ?_, hrest⟩
  unfold State.noAlert at halert ⊢
  simp only [halerts]
  exact halert

theorem quietLaw_presentSample (c : Chan) (v : Value) (hs : QuietLaw s) : QuietLaw (presentSample c v s) := by
  unfold presentSample
  dsimp only
  split
  · next h => exact quietLaw_setChannel h hs
  · have hturns : ∀ v : State, Turns [] v (evaluateSigns (present .status v)) := fun v =>
      (turns_status v).trans (turns_evaluateSigns _)
    refine quietLaw_judgeQuiet fun e => (hturns _).phase_eq.trans (running_of_quiet hs ?_ ?_ ((hturns _).quiet_of e))
    · exact id
    · rfl

theorem quietLaw_reportFault (n : Sign) (x : SignLink) (hs : QuietLaw s) : QuietLaw (reportFault n (s.setSignLink n x)) := by
  have hturns : ∀ v : State, Turns [] v (present .status (signReport n (forgetDisplayed n v))) := fun v =>
    ((Turn.forget n v).turns.trans (turns_signReport n _)).trans (turns_status _)
  exact quietLaw_judgeQuiet fun e => (hturns _).phase_eq.trans
    (running_of_quiet (t := s.setSignLink n x) hs id rfl ((hturns _).quiet_of e))

theorem quietLaw_succeeded (n : Sign) (hs : QuietLaw s) : QuietLaw (succeeded n s) := by
  intro hq
  obtain ⟨hrun, heff, halert, hopen, hfault, hclosed⟩ := hs hq
  refine ⟨hrun, heff, halert, hopen, ?_, hclosed⟩
  unfold State.noSignFault at hfault ⊢
  rw [List.all_eq_true] at hfault ⊢
  intro m hm
  by_cases h : m = n
  · subst h
    rw [health_succeeded]
    rfl
  · have : (succeeded n s).health m = s.health m := by simp [succeeded, State.health, h]
    rw [this]
    exact hfault m hm

/-- R35, R55: an evaluation that changes the effective level is followed by a judgement; one that does not has published
the level it found. -/
theorem quietLaw_evaluateHazard (b : Bool) (hs : QuietLaw s) : QuietLaw (evaluateHazard b s) := by
  have hturns : Turns [] (publish s) (requested b (publish s)) := turns_requested b _
  have heff : (publish s).hazard.effective = (requested b (publish s)).hazard.effective :=
    frame_requested b (publish s) .effective (by decide)
  have hrun : (requested b (publish s)).startup.quiet = true → (requested b (publish s)).phase = .running :=
    running_of_quiet (t := requested b (publish s)) hs hturns.quiet_of hturns.phase_eq
  have hpresent : ∀ {v : State}, QuietLaw v → QuietLaw (present .status v) := fun hv => registerKeeps_quietLaw.present _ hv
  rw [evaluateHazard_eq]
  unfold reportEvaluation
  dsimp only
  split
  · next hlevels =>
    have hmore : ∀ (p : Prop) [Decidable p] (v : State), Turns [] v (evaluateSigns (if p then present .status v else v)) :=
      fun p _ v => (Turns.ite (turns_status v) (.refl v)).trans (turns_evaluateSigns _)
    exact quietLaw_judgeQuiet fun e => (hmore _ _).phase_eq.trans (hrun ((hmore _ _).quiet_of e))
  · next hlevels =>
    simp only [decide_eq_true_eq, not_or, Decidable.not_not] at hlevels
    obtain ⟨hsame, -⟩ := hlevels
    have hpublish : QuietLaw (publish s) := by
      intro hq
      obtain ⟨hrunning, hzero, hrest⟩ := hs hq
      exact ⟨hrunning, heff.trans (hsame.trans hzero), hrest⟩
    have hreq := registerKeeps_quietLaw.requested b hpublish
    split
    · exact hpresent hreq
    · exact hreq

theorem stationKeeps_quietLaw : StationKeeps QuietLaw where
  toRegisterKeeps := registerKeeps_quietLaw
  evaluateGates := gateKeeps_quietLaw.evaluateGates
  fault := quietLaw_reportFault _ _
  healthy := quietLaw_succeeded _
  channel := quietLaw_setChannel
  sample := quietLaw_presentSample _ _
  evaluation := quietLaw_evaluateHazard _

/-! ### Phases -/

theorem quiet_clear_of_phase (hs : QuietLaw s) (h : s.phase ≠ .running) : s.startup.quiet = false :=
  Bool.eq_false_iff.mpr fun e => h (hs e).1

/-- What begins a phase before RUNNING, or RUNNING itself, does not find the station QUIET and leaves it so. -/
theorem clear_outcome {c : Instr} (hc : startsPhase c = true) (hq : s.startup.quiet = false) (hne : outcome c s ≠ s) :
    (outcome c s).startup.quiet = false := by
  rw [← Bool.not_eq_true] at hq ⊢
  cases c with
  | powerOnReset => exact Bool.noConfusion
  | warmReset => exact Bool.noConfusion
  | configurationReadEnd a =>
    by_cases h : s.phase = .configRead
    · obtain ⟨x, -, hx, -, hturns⟩ := turns_configurationReadEnd (a := a) h
      exact fun e => hq (hx ▸ hturns.stays_clear rfl e)
    · exact absurd (configurationReadEnd_eq_self h) hne
  | settlingStart =>
    by_cases h : s.phase = .joining ∧ 10 ≤ s.now
    · exact fun e => hq ((turns_settlingStart (ps := []) h).quiet_of e)
    · exact absurd (settlingStart_eq_self h) hne
  | runningEntry =>
    by_cases h : s.phase = .settling ∧ 70 ≤ s.now
    · exact fun e => hq ((turns_runningEntry (ps := []) h).quiet_of e)
    · exact absurd (runningEntry_eq_self h) hne
  | _ => cases hc

/-- A command that begins a phase leaves QUIET clear, or nothing changed. -/
theorem startsPhase_clear {c : Instr} (hc : startsPhase c = true) (hs : QuietLaw s) :
    outcome c s = s ∨ (outcome c s).startup.quiet = false := by
  by_cases h : outcome c s = s
  · exact .inl h
  · refine .inr ?_
    cases c with
    | powerOnReset => rfl
    | warmReset => rfl
    | configurationReadEnd =>
      refine clear_outcome hc (quiet_clear_of_phase hs fun e => h (configurationReadEnd_eq_self fun e' => ?_)) h
      rw [e] at e'
      cases e'
    | settlingStart =>
      refine clear_outcome hc (quiet_clear_of_phase hs fun e => h (settlingStart_eq_self fun e' => ?_)) h
      rw [e] at e'
      cases e'.1
    | runningEntry =>
      refine clear_outcome hc (quiet_clear_of_phase hs fun e => h (runningEntry_eq_self fun e' => ?_)) h
      rw [e] at e'
      cases e'.1
    | _ => cases hc

/-! ### QUIET_ENTRY and the commands -/

/-- What follows the entry to QUIET leaves the conditions standing. -/
theorem frame_enterQuiet_signs (s : State) :
    Frame (Part.ofPresent ++ Part.ofSigns) (s.withStartup { s.startup with quiet := true, entryTimer := none }) (enterQuiet s) :=
  ((frame_present .status _).widen rfl).trans ((frame_forSigns frame_refreshSign _).widen rfl)

theorem quietLaw_enterQuiet (hrun : s.phase = .running) (h : s.favourable = true) : QuietLaw (enterQuiet s) := by
  have hturns : Turns [] (s.withStartup { s.startup with quiet := true, entryTimer := none }) (enterQuiet s) :=
    (turns_status _).trans (turns_forSigns turns_refreshSign _)
  have hok : QuietOk (s.withStartup { s.startup with quiet := true, entryTimer := none }) := quietOk_of_favourable (s := s) h
  exact fun _ => ⟨hturns.phase_eq.trans hrun, (frame_enterQuiet_signs s).quietOk rfl (fun n => hturns.health_eq n) hok⟩

theorem quietLaw_outcome (c : Instr) (hs : QuietLaw s) : QuietLaw (outcome c s) := by
  have hstart : startsPhase c = true → QuietLaw (outcome c s) := fun hc => by
    rcases startsPhase_clear hc hs with h | h
    · rw [h]
      exact hs
    · exact quietLaw_of_clear h
  cases hown : StationKeeps.ownWay c with
  | false => exact stationKeeps_quietLaw.command c hown hs
  | true =>
    cases c with
    | powerOnReset | warmReset | configurationReadEnd | settlingStart | runningEntry => exact hstart rfl
    | quietEntry =>
      dsimp only [outcome, exec, execQuietEntry]
      split
      · next h =>
        split
        · next hf => exact quietLaw_enterQuiet h.1 hf
        · exact registerKeeps_quietLaw.judgeQuiet hs
      · exact hs
    | limitInputChange | gateLeadElapsed | dwellEnd | travelStall | stallRetry | keyToLocal | keyToRemote | closeButtonPress
    | openButtonPress => exact gateKeeps_quietLaw.command _ rfl hs
    | _ => cases hown

/-! ### Time -/

theorem gateState_advanceTick (s : State) (g : Gate) :
    ((advanceTick s).gates.units.get g).state = (s.gates.units.get g).state := by
  have hhear : ∀ t : State, (hearReplyPair t).gates = t.gates := fun t => by
    unfold hearReplyPair
    split <;> rfl
  unfold advanceTick
  dsimp only
  split
  · cases g <;> rfl
  · exact congrArg (fun x : Gates => (x.units.get g).state) (hhear _)

theorem quietLaw_advanceTick (hs : QuietLaw s) : QuietLaw (advanceTick s) := by
  have hf := frame_advanceTick s
  have hq := (hf .quiet (by decide)).1
  obtain ⟨hphase, hcfg, -⟩ := hf.settings_eq (by decide)
  have heff : s.hazard.effective = (advanceTick s).hazard.effective := hf .effective (by decide)
  have hslots : s.register.slots = (advanceTick s).register.slots := hf .slots (by decide)
  intro e
  obtain ⟨hrun, hzero, halert, hopen, hfault, hclosed⟩ := hs (hq.trans e)
  refine ⟨hphase.trans hrun, heff.symm.trans hzero, ?_, ?_, ?_, ?_⟩
  · unfold State.noAlert at halert ⊢
    have hch : ∀ c, ((advanceTick s).channels.get c).alert = (s.channels.get c).alert := fun c => by
      rw [channels_advanceTick]
      split <;> rfl
    simp only [hch]
    exact halert
  · unfold State.gatesOpen at hopen ⊢
    simp only [gateState_advanceTick, hcfg]
    exact hopen
  · unfold State.noSignFault at hfault ⊢
    simp only [health_advanceTick]
    exact hfault
  · unfold State.noOwnClosure State.records at hclosed ⊢
    rw [← hslots]
    exact hclosed

theorem quietLaw_secondTimers (hs : QuietLaw s) : QuietLaw (secondTimers s) := by
  have hf := frame_secondTimers s
  obtain ⟨hphase, hcfg, -⟩ := hf.settings_eq (by decide)
  have heff : s.hazard.effective = (secondTimers s).hazard.effective := hf .effective (by decide)
  have hch : s.channels = (secondTimers s).channels := hf .channels (by decide)
  have hg : s.gates.units = (secondTimers s).gates.units := hf .gateUnits (by decide)
  have hl : s.link.signs = (secondTimers s).link.signs := hf .signLinks (by decide)
  intro e
  obtain ⟨hrun, hzero, halert, hopen, hfault, hclosed⟩ := hs ((hf .quiet (by decide)).1.trans e)
  refine ⟨hphase.trans hrun, heff.symm.trans hzero, ?_, ?_, ?_, (noOwnClosure_iff _).mpr fun i q hq => ?_⟩
  · unfold State.noAlert at halert ⊢
    rw [← hch]
    exact halert
  · unfold State.gatesOpen at hopen ⊢
    rw [← hg, hcfg]
    exact hopen
  · unfold State.noSignFault State.health at hfault ⊢
    rw [← hl]
    exact hfault
  · have hold := (noOwnClosure_iff s).mp hclosed
    rw [recordAt_secondTimers] at hq
    split at hq
    · obtain ⟨r, hr, rfl⟩ := Option.map_eq_some_iff.mp hq
      exact hold i r hr
    · exact hold i q hq

theorem quietLaw_advance (s : State) (hs : QuietLaw s) : QuietLaw (advance s) :=
  advance_keeps (fun _ h => quietLaw_advanceTick h) (fun _ _ h => h) (fun _ h => quietLaw_secondTimers h)
    (fun u h => quietLaw_calm (turns_secondQuiet u).calm (frame_secondQuiet u) rfl h) s hs

/-! ## The signs of a QUIET station -/

/-- R129, R135: the sign shows the blank page set and its refresh timer is stopped. -/
def SignState.Dark (x : SignState) : Prop :=
  x.role ≠ .notFitted → (∃ ps, x.offered = some ps ∧ ps.same .blank = true) ∧ x.refresh = none

theorem darkLaw_iff (s : State) : DarkLaw s ↔ (s.startup.quiet = true → ∀ n, (s.signs.get n).Dark) := Iff.rfl

theorem darkLaw_of_clear (h : s.startup.quiet = false) : DarkLaw s := fun e => by
  rw [h] at e
  cases e

/-- The law of one sign. -/
def DarkAt (n : Sign) (s : State) : Prop := s.startup.quiet = true → (s.signs.get n).Dark

theorem darkAt_mono {n : Sign} (hq : t.startup.quiet = true → s.startup.quiet = true)
    (hsign : (t.signs.get n).role = (s.signs.get n).role ∧ (t.signs.get n).offered = (s.signs.get n).offered
      ∧ (t.signs.get n).refresh = (s.signs.get n).refresh) (hs : DarkAt n s) : DarkAt n t := by
  obtain ⟨hrole, hoffered, hrefresh⟩ := hsign
  intro e hfitted
  rw [hrole] at hfitted
  rw [hoffered, hrefresh]
  exact hs (hq e) hfitted

theorem darkAt_setSign {m n : Sign} {x : SignState} (h : m = n → s.startup.quiet = true → x.Dark) (hs : DarkAt m s) :
    DarkAt m (s.setSign n x) := by
  intro e
  by_cases hm : m = n
  · subst hm
    have hget : (s.setSign m x).signs.get m = x := by simp [State.setSign]
    rw [hget]
    exact h rfl e
  · have hget : (s.setSign n x).signs.get m = s.signs.get m := by simp [State.setSign, hm]
    rw [hget]
    exact hs e

theorem darkAt_of_frame {qs : List Part} {n : Sign} (hf : Frame qs s t) (hd : Part.apart [.quiet, .signs] qs = true)
    (hs : DarkAt n s) : DarkAt n t := by
  have hsigns : s.signs = t.signs := hf.keeps hd (p := .signs) (by simp)
  exact darkAt_mono (fun e => (hf.keeps hd (p := .quiet) (by simp)).1.trans e) (hsigns ▸ ⟨rfl, rfl, rfl⟩) hs

theorem dark_offered {n : Sign} {x : PageSet} (hq : s.startup.quiet = true) (hx : x = .blank) :
    SignState.Dark { s.signs.get n with offered := some x, refresh := s.refreshStart n } := fun _ =>
  ⟨⟨x, rfl, by rw [hx]; decide⟩, refreshStart_of_quiet hq n⟩

theorem darkAt_of_turn {ps : List Part} (hd : Part.apart [.quiet, .signs] (Part.plain ++ ps) = true) (n : Sign) (s t : State)
    (h : Turn ps s t) (hs : DarkAt n s) : DarkAt n t := by
  have hsame : ∀ {m : Sign} {x : SignState}, x.role = (s.signs.get m).role → x.offered = (s.signs.get m).offered →
      x.refresh = (s.signs.get m).refresh → DarkAt n (s.setSign m x) := fun hrole hoffered hrefresh =>
    darkAt_setSign (fun hm e hfitted => by
      subst hm
      rw [hoffered, hrefresh]
      exact hs e (hrole ▸ hfitted)) hs
  cases h with
  | aside h => exact darkAt_of_frame h hd hs
  | present => exact darkAt_of_frame (frame_present _ s) rfl hs
  | follow => exact darkAt_of_frame (frame_followQueue s) rfl hs
  | endFrame => exact darkAt_of_frame (frame_endFrame s) rfl hs
  | conflict => exact hs
  | @remove i r =>
    have hq : s.startup.quiet = (removeEntries i r s).startup.quiet := (frame_removeEntries i r s .quiet (by decide)).1
    refine darkAt_mono (fun e => hq.trans e) ?_ hs
    rw [signs_removeEntries]
    exact ⟨rfl, rfl, rfl⟩
  | place => exact hs
  | amend => exact hs
  | rebuild m => exact hsame rfl rfl rfl
  | @offer m x _ _ hdark =>
    exact darkAt_setSign (fun _ e => dark_offered e (hdark e)) hs
  | transfer => exact hs
  | refresh m hdark =>
    exact darkAt_setSign (fun hm e hfitted => by
      subst hm
      exact ⟨(hs e hfitted).1, hdark e⟩) hs
  | acknowledge => exact hsame rfl rfl rfl
  | forget m => exact darkAt_setSign (fun hm e hfitted => by
      subst hm
      exact ⟨(hs e hfitted).1, rfl⟩) hs
  | refuse m => exact hsame rfl rfl rfl
  | quiet _ h => exact fun e => hs (h e)
  | gate => exact hs

theorem darkAt_turns {n : Sign} (h : Turns [] s t) (hs : DarkAt n s) : DarkAt n t := h.keep (darkAt_of_turn rfl n) hs

/-- R136: a refresh hands the sign of a QUIET station the blank page set. -/
theorem darkAt_refreshSign (n : Sign) (hrun : s.phase = .running) (hq : s.startup.quiet = true) :
    DarkAt n (refreshSign n s) := by
  by_cases hrole : (s.signs.get n).role = .notFitted
  · have hself : refreshSign n s = s := by
      unfold refreshSign
      rw [hrole]
      simp
    rw [hself]
    exact fun _ hfitted => absurd hrole hfitted
  · have hhand : refreshSign n s = arbitrate (offer n (s.buildPageSet n) (rebuildSign n s)) := by
      unfold refreshSign State.mayHand
      rw [hrun]
      simp [Phase.serving, hrole, handPageSet_eq]
    rw [hhand]
    refine darkAt_turns (turns_arbitrate _) fun _ => ?_
    have hdark := dark_offered (s := rebuildSign n s) (n := n) (x := s.buildPageSet n) hq (buildPageSet_of_quiet hq n)
    have hget : (offer n (s.buildPageSet n) (rebuildSign n s)).signs.get n
        = { (rebuildSign n s).signs.get n with
            offered := some (s.buildPageSet n), refresh := (rebuildSign n s).refreshStart n } := by
      simp [offer]
    rw [hget]
    exact hdark

theorem darkLaw_enterQuiet (hrun : s.phase = .running) : DarkLaw (enterQuiet s) := by
  obtain ⟨u, hu, hstart⟩ : ∃ u, enterQuiet s = forSigns refreshSign u ∧ u.phase = .running ∧ u.startup.quiet = true := by
    have h := frame_present .status (s.withStartup { s.startup with quiet := true, entryTimer := none })
    exact ⟨_, rfl, (h.settings_eq (by decide)).1.trans hrun, (h .quiet (by decide)).1.symm⟩
  rw [hu]
  have hkeep : ∀ (m : Sign) (v : State), v.phase = .running ∧ v.startup.quiet = true →
      (refreshSign m v).phase = .running ∧ (refreshSign m v).startup.quiet = true := fun m v ⟨hp, hq⟩ =>
    ⟨((frame_refreshSign m v).settings_eq (by decide)).1.trans hp, ((frame_refreshSign m v) .quiet (by decide)).1 ▸ hq⟩
  have hafter : ∀ (m n : Sign) (v : State), DarkAt n v → DarkAt n (refreshSign m v) := fun m n v =>
    darkAt_turns (turns_refreshSign m v)
  have h1 := hkeep .s1 u hstart
  have h2 := hkeep .s2 _ h1
  have hone : DarkAt .s1 (refreshSign .s1 u) := darkAt_refreshSign .s1 hstart.1 hstart.2
  have htwo : DarkAt .s2 (refreshSign .s2 (refreshSign .s1 u)) := darkAt_refreshSign .s2 h1.1 h1.2
  have hthree : DarkAt .s3 (forSigns refreshSign u) := darkAt_refreshSign .s3 h2.1 h2.2
  intro e n
  cases n with
  | s1 => exact hafter .s3 .s1 _ (hafter .s2 .s1 _ hone) e
  | s2 => exact hafter .s3 .s2 _ htwo e
  | s3 => exact hthree e

theorem darkLaw_outcome (c : Instr) (hq : QuietLaw s) (hs : DarkLaw s) : DarkLaw (outcome c s) := by
  have hturns : Part.apart [.quiet, .signs] (Part.plain ++ Part.direct c) = true → DarkLaw (outcome c s) := fun hd e n =>
    keep_of_turns (fun qs hqs => darkAt_of_turn hqs n) hd (fun e => hs e n) e
  have hstart : startsPhase c = true → DarkLaw (outcome c s) := fun hc => by
    rcases startsPhase_clear hc hq with h | h
    · rw [h]
      exact hs
    · exact darkLaw_of_clear h
  cases c with
  | powerOnReset | warmReset | configurationReadEnd | settlingStart | runningEntry => exact hstart rfl
  | quietEntry =>
    dsimp only [outcome, exec, execQuietEntry]
    split
    · next h =>
      split
      · exact darkLaw_enterQuiet h.1
      · exact fun e n => darkAt_turns (turns_judgeQuiet s) (fun e => hs e n) e
    · exact hs
  | _ => exact hturns rfl

theorem darkLaw_secondTimers (hs : DarkLaw s) : DarkLaw (secondTimers s) := by
  intro e n
  have hq : s.startup.quiet = true := (frame_secondTimers s .quiet (by decide)).1.trans e
  rw [sign_secondTimers]
  split
  · intro hfitted
    obtain ⟨hps, hrefresh⟩ := hs hq n hfitted
    exact ⟨hps, by rw [SignState.second, hrefresh]; rfl⟩
  · exact hs hq n

/-- Settles O10: the law of QUIET by its judgements, and the dark signs sign by sign. -/
theorem quietStationStaysDark : Obligations.QuietStationStaysDark := by
  refine keptByEveryStep_of (fun _ _ h => h) (fun c s ⟨hq, hd⟩ => ⟨quietLaw_outcome c hq, darkLaw_outcome c hq hd⟩)
    (fun s ⟨hq, hd⟩ => ⟨quietLaw_advance s hq, ?_⟩)
  exact advance_keeps (law := DarkLaw) (fun u h e n => darkAt_of_frame (frame_advanceTick u) rfl (fun e => h e n) e)
    (fun _ _ h => h) (fun _ h => darkLaw_secondTimers h)
    (fun u h e n => darkAt_turns (turns_secondQuiet u) (fun e => h e n) e) s hd

end Sys2Proof.Machine
end

section
/-! PROOF. The state after a power-on reset meets the laws, and what the two resets return (R178, R181, R187). -/

namespace Sys2Proof.Machine

open Sys2Proof

/-- The blocks of the state after a power-on reset are empty, inert and at rest. -/
theorem reset_gate (g : Gate) : State.reset.gates.units.get g = GateUnit.reset := by cases g <;> rfl

theorem reset_sign (n : Sign) : State.reset.signs.get n = SignState.reset := by cases n <;> rfl

theorem reset_signLink (n : Sign) : State.reset.link.signs.get n = SignLink.reset := by cases n <;> rfl

theorem reset_channel (c : Chan) : State.reset.channels.get c = Channel.reset := by cases c <;> rfl

theorem registerLaw_reset : RegisterLaw State.reset := ⟨by decide, by decide, by decide⟩

theorem linkLaw_reset : LinkLaw State.reset := by
  refine ⟨by decide, fun n => ?_⟩
  unfold State.health
  rw [reset_signLink, reset_sign]
  exact ⟨by decide, by decide, by decide, by decide, fun _ => rfl, fun t h => by cases h⟩

theorem inertLaw_reset : InertLaw State.reset := fun _ => ⟨rfl, rfl, rfl, rfl, rfl, rfl, rfl, rfl, rfl, rfl⟩

theorem gateLaws_reset : OpeningLaw State.reset ∧ MotorLaw State.reset ∧ DemandLaw State.reset ∧ PendingLaw State.reset
    ∧ RunCloseLaw State.reset := by
  refine ⟨fun g h => ?_, fun g h => ?_, nofun, fun g h => ?_, fun g h => ?_⟩
  all_goals rw [reset_gate] at h; cases h

/-- Settles O4: every law speaks of what reset leaves empty, stopped or out of operation. -/
theorem resetMeetsTheLaws : Obligations.ResetMeetsTheLaws := by
  obtain ⟨hopening, hmotor, hdemand, hpending, hclose⟩ := gateLaws_reset
  refine ⟨⟨by decide, by decide, by decide⟩, ⟨by decide, by decide, by decide, by decide⟩, registerLaw_reset,
    ⟨by decide, by decide, by decide⟩, fun g => ?_, ⟨by decide, by decide⟩, nofun, hopening, hmotor, hdemand, hpending, hclose,
    fun id h => ?_, fun id h => ?_, fun n => ?_, linkLaw_reset, ?_, by unfold BufferLaw; decide, inertLaw_reset, nofun, ?_, ?_,
    fun c => ?_⟩
  · cases g <;> exact ⟨Nat.zero_le _, Nat.zero_le _⟩
  · cases h
  · rcases h with h | h <;> cases h
  · rw [reset_sign]
    exact ⟨nofun, by decide, by decide⟩
  · unfold FlightLaw
    decide
  · unfold NeighbourLaw
    decide
  · unfold WalkerLaw
    decide
  · rw [reset_channel]
    exact ⟨nofun, nofun⟩

/-- Settles O17: both resets lead to one state, but for what a warm one keeps. -/
theorem resetsReturnEveryBlock : Obligations.ResetsReturnEveryBlock := by
  intro s a r w _
  cases w with
  | false =>
    refine ⟨resetWith a r false Retained.lost s, rfl, ?_⟩
    and_intros <;> rfl
  | true =>
    refine ⟨resetWith a r true s.retained s, rfl, ?_⟩
    and_intros <;> rfl

end Sys2Proof.Machine
end

section
/-! PROOF. The gates after each operation of the gate controller, said once, and the laws of gates and demands (R154, R155, R157, R160,
R161). -/

namespace Sys2Proof.Machine

open Sys2Proof

variable {s t u : State}

/-! ## The gates after an operation -/

theorem gates_of_frame {qs : List Part} (h : Frame qs s t) (hd : Part.apart [.gateUnits, .key] qs = true) :
    t.gates = s.gates := h.gates_eq hd

@[simp] theorem putGate_gates (g : Gate) (x : GateUnit) (s : State) :
    (putGate g x s).gates = { s.gates with units := s.gates.units.set g x } := by
  have hp : ∀ v : State, (present .status v).gates = v.gates := fun v => (frame_present .status v).gates_eq rfl
  have hq : ∀ v : State, (judgeQuiet v).gates = v.gates := fun v => (frame_judgeQuiet v).gates_eq rfl
  unfold putGate
  dsimp only
  split <;> split
  · exact (hq _).trans (hp _)
  · exact hq _
  · exact hp _
  · rfl

theorem putGate_unit_same (g : Gate) (x : GateUnit) (s : State) : (putGate g x s).gates.units.get g = x := by simp

theorem putGate_unit_other {g k : Gate} (h : k ≠ g) (x : GateUnit) (s : State) :
    (putGate g x s).gates.units.get k = s.gates.units.get k := by simp [h]

/-- R160: the gate as a travel begins, or as it rests at the limit already active. -/
def State.travelling (s : State) (fresh : Bool) (g : Gate) (d : Demand) : GateUnit :=
  if s.targetActive g d then { (s.gates.units.get g).rest d.atRest with stalls := 0 }
  else { (s.gates.units.get g).rest d.moving with travel := some 0, fullTravel := fresh && s.oppositeActive g d }

theorem beginTravel_eq (fresh : Bool) (g : Gate) (d : Demand) (s : State) :
    beginTravel fresh g d s = putGate g (s.travelling fresh g d) s := by
  unfold beginTravel State.travelling
  dsimp only
  split <;> rfl

/-- R162, R163: the gate as a dwell or a stall wait has ended. -/
def State.resumed (s : State) (g : Gate) : GateUnit :=
  match (s.gates.units.get g).demand with
  | some d =>
    if s.targetActive g d || s.mayTravel d then s.travelling false g d else (s.gates.units.get g).rest (s.limitsShow g)
  | none => (s.gates.units.get g).rest (s.limitsShow g)

theorem resumeTravel_eq (g : Gate) (s : State) : resumeTravel g s = putGate g (s.resumed g) s := by
  unfold resumeTravel State.resumed
  dsimp only
  cases (s.gates.units.get g).demand with
  | none => rfl
  | some d =>
    dsimp only
    rw [beginTravel_eq]
    split <;> rfl

theorem travelling_demand (fresh : Bool) (g : Gate) (d : Demand) (s : State) :
    (s.travelling fresh g d).demand = (s.gates.units.get g).demand := by
  unfold State.travelling
  split <;> rfl

theorem travelling_state (fresh : Bool) (g : Gate) (d : Demand) (s : State) :
    (s.travelling fresh g d).state = d.atRest ∨ (s.travelling fresh g d).state = d.moving := by
  unfold State.travelling
  split
  · exact .inl rfl
  · exact .inr rfl

theorem limitsShow_cases (s : State) (g : Gate) :
    s.limitsShow g = .opened ∨ s.limitsShow g = .closed ∨ s.limitsShow g = .unpositioned ∨ s.limitsShow g = .lockedOut := by
  unfold State.limitsShow limitsState
  split <;> simp

theorem limitsShow_rests (s : State) (g : Gate) : (s.limitsShow g).acting = false := by
  rcases limitsShow_cases s g with h | h | h | h <;> rw [h] <;> rfl

/-! ## The law of a gate -/

/-- What a gate may be, beside the demand of the register. -/
structure GateUnit.Fits (s : State) (g : Gate) (x : GateUnit) : Prop where
  serving : x.state.acting = true → s.phase.serving = true ∧ s.config.fitted.get g = true
  pending : x.state = .closePending → s.gates.keyLocal = false ∧ x.demand = some .closed
  closing : x.state = .closing → x.demand = some .closed
  button : x.state = .closing → s.gates.keyLocal = true → s.gates.localDemand ≠ none

/-- The laws of the gates beside `DemandLaw`. -/
def MotionLaw (s : State) : Prop := ∀ g, (s.gates.units.get g).Fits s g

/-- The laws of gates and demands together. -/
def GateLaws (s : State) : Prop := MotionLaw s ∧ DemandLaw s

theorem gateLaws_iff : GateLaws s ↔ MotorLaw s ∧ DemandLaw s ∧ PendingLaw s ∧ RunCloseLaw s := by
  have hnow : ∀ g, s.demandNow g = some .closed ↔
      if s.gates.keyLocal then s.gates.localDemand = some .closed else s.demandingRecords g ≠ [] := fun g => by
    unfold State.demandNow
    split
    · rfl
    · cases s.demandingRecords g <;> simp
  have hacting : ∀ {g}, (s.gates.units.get g).state = .closing → (s.gates.units.get g).state.acting = true := fun h => by
    rw [h]
    rfl
  constructor
  · rintro ⟨hm, hd⟩
    refine ⟨fun g => (hm g).serving, hd, fun g => (hm g).pending, fun g hg => (hnow g).mp ?_⟩
    have hclosing : (s.gates.units.get g).state = .closing := by simpa [GateState.runClose] using hg
    obtain ⟨hserving, hfitted⟩ := (hm g).serving (hacting hclosing)
    rw [← hd hserving g hfitted]
    exact (hm g).closing hclosing
  · rintro ⟨hm, hd, hp, hr⟩
    have hdemand : ∀ g, (s.gates.units.get g).state = .closing → s.demandNow g = some .closed := fun g hg =>
      (hnow g).mpr (hr g (by rw [hg]; rfl))
    refine ⟨fun g => ⟨hm g, hp g, fun hg => ?_, fun hg hk => ?_⟩, hd⟩
    · obtain ⟨hserving, hfitted⟩ := hm g (hacting hg)
      exact (hd hserving g hfitted).trans (hdemand g hg)
    · have h := (hnow g).mp (hdemand g hg)
      rw [if_pos hk] at h
      rw [h]
      simp

theorem GateUnit.Fits.congr {g : Gate} {x : GateUnit} (hx : x.Fits s g) (hphase : t.phase.serving = s.phase.serving)
    (hfitted : t.config.fitted = s.config.fitted) (hkey : t.gates.keyLocal = s.gates.keyLocal)
    (hdemand : t.gates.localDemand = s.gates.localDemand) : x.Fits t g := by
  obtain ⟨h1, h2, h3, h4⟩ := hx
  refine ⟨?_, ?_, h3, ?_⟩
  · rw [hphase, hfitted]
    exact h1
  · rw [hkey]
    exact h2
  · rw [hkey, hdemand]
    exact h4

/-- A gate at rest fits everywhere. -/
theorem GateUnit.Fits.of_rest {g : Gate} {x : GateUnit} (h : x.state.acting = false) : x.Fits s g := by
  refine ⟨fun e => ?_, fun e => ?_, fun e => ?_, fun e => ?_⟩
  · rw [h] at e
    cases e
  all_goals
    rw [e] at h
    cases h

/-- Where a gate holds the demand of its key state, its laws are those of its state. -/
theorem GateUnit.Fits.of_demand {g : Gate} {x : GateUnit} (hserving : s.phase.serving = true ∧ s.config.fitted.get g = true)
    (hnow : x.demand = s.demandNow g) (hpending : x.state = .closePending → s.gates.keyLocal = false ∧ x.demand = some .closed)
    (hclosing : x.state = .closing → x.demand = some .closed) : x.Fits s g := by
  refine ⟨fun _ => hserving, hpending, hclosing, fun h hk => ?_⟩
  have hl := (hclosing h).symm.trans hnow
  rw [State.demandNow, if_pos hk] at hl
  rw [← hl]
  simp

theorem motionLaw_of_frame {qs : List Part} (hf : Frame qs s t) (hd : Part.apart [.settings, .gateUnits, .key] qs = true)
    (hs : MotionLaw s) : MotionLaw t := by
  obtain ⟨hphase, hcfg, -⟩ := hf.settings_eq (Part.not_mem_of_apart hd (by simp))
  have hunits : s.gates.units = t.gates.units := hf.keeps hd (p := .gateUnits) (by simp)
  obtain ⟨hkey, hdemand⟩ := hf.keeps hd (p := .key) (by simp)
  intro g
  rw [← hunits]
  exact (hs g).congr (congrArg _ hphase) (congrArg _ hcfg) hkey.symm hdemand.symm

/-! ## The demand -/

/-- What a demand looks at in a record. -/
def ClosureRecord.reaches (r : ClosureRecord) : ClosureState × Nat × Nat := (r.state, r.scopeLo, r.scopeHi)

theorem demandingRecords_isEmpty_iff (g : Gate) : (s.demandingRecords g).isEmpty = true ↔
    ∀ i r, s.recordAt i = some r → r.state = .inForce → r.overlapsGate s.config.chainage s.config.reach g = false := by
  unfold State.demandingRecords
  rw [List.isEmpty_iff, List.filter_eq_nil_iff]
  simp only [List.mem_map, Prod.exists, mem_records, forall_exists_index, and_imp, Bool.and_eq_true, decide_eq_true_eq, not_and,
    Bool.not_eq_true]
  constructor
  · intro h i r hr
    exact h r i r hr rfl
  · rintro h r i q hr rfl
    exact h i q hr

theorem overlapsGate_congr {a b : ClosureRecord} (h : a.reaches = b.reaches) (c n : Nat) (g : Gate) :
    a.overlapsGate c n g = b.overlapsGate c n g := by
  simp only [ClosureRecord.reaches, Prod.mk.injEq] at h
  obtain ⟨-, hlo, hhi⟩ := h
  cases g <;> simp only [ClosureRecord.overlapsGate, ClosureRecord.aheadEast, ClosureRecord.aheadWest, hlo, hhi]

theorem demandingRecords_isEmpty_of (g : Gate) (hcfg : t.config = s.config)
    (hrec : ∀ i q, t.recordAt i = some q → ∃ r, s.recordAt i = some r ∧ r.reaches = q.reaches)
    (h : (s.demandingRecords g).isEmpty = true) : (t.demandingRecords g).isEmpty = true := by
  rw [demandingRecords_isEmpty_iff] at h ⊢
  intro i q hq hstate
  obtain ⟨r, hr, hreach⟩ := hrec i q hq
  rw [hcfg, ← overlapsGate_congr hreach]
  exact h i r hr ((congrArg Prod.fst hreach).trans hstate)

theorem demandNow_congr (g : Gate) (hcfg : t.config = s.config) (hkey : t.gates.keyLocal = s.gates.keyLocal)
    (hdemand : t.gates.localDemand = s.gates.localDemand)
    (hrec : ∀ i, (t.recordAt i).map ClosureRecord.reaches = (s.recordAt i).map ClosureRecord.reaches) :
    t.demandNow g = s.demandNow g := by
  have hsome : ∀ {a b : Option ClosureRecord}, a.map ClosureRecord.reaches = b.map ClosureRecord.reaches → ∀ q, a = some q →
      ∃ r, b = some r ∧ r.reaches = q.reaches := by
    rintro a b h q rfl
    rw [Option.map_some] at h
    exact Option.map_eq_some_iff.mp h.symm
  have hempty : (t.demandingRecords g).isEmpty = (s.demandingRecords g).isEmpty := by
    rw [Bool.eq_iff_iff]
    exact ⟨demandingRecords_isEmpty_of g hcfg.symm fun i q hq => hsome (hrec i).symm q hq,
      demandingRecords_isEmpty_of g hcfg fun i q hq => hsome (hrec i) q hq⟩
  unfold State.demandNow
  rw [hkey, hdemand, hempty]

theorem demandNow_of_frame {qs : List Part} (hf : Frame qs s t) (hd : Part.apart [.settings, .slots, .key] qs = true)
    (g : Gate) : t.demandNow g = s.demandNow g := by
  obtain ⟨-, hcfg, -⟩ := hf.settings_eq (Part.not_mem_of_apart hd (by simp))
  obtain ⟨hkey, hdemand⟩ := hf.keeps hd (p := .key) (by simp)
  have hslots : s.register.slots = t.register.slots := hf.keeps hd (p := .slots) (by simp)
  exact demandNow_congr g hcfg hkey.symm hdemand.symm fun i => by rw [recordAt_congr hslots.symm]

theorem demandLaw_of (hphase : t.phase.serving = s.phase.serving) (hcfg : t.config = s.config)
    (hunits : ∀ g, (t.gates.units.get g).demand = (s.gates.units.get g).demand) (hnow : ∀ g, t.demandNow g = s.demandNow g)
    (hs : DemandLaw s) : DemandLaw t := by
  intro hserving g hfitted
  rw [hphase] at hserving
  rw [hcfg] at hfitted
  rw [hunits, hnow]
  exact hs hserving g hfitted

theorem demandLaw_of_frame {qs : List Part} (hf : Frame qs s t)
    (hd : Part.apart [.settings, .slots, .gateUnits, .key] qs = true) (hs : DemandLaw s) : DemandLaw t := by
  obtain ⟨hphase, hcfg, -⟩ := hf.settings_eq (Part.not_mem_of_apart hd (by simp))
  have hunits : s.gates.units = t.gates.units := hf.keeps hd (p := .gateUnits) (by simp)
  obtain ⟨hkey, hdemand⟩ := hf.keeps hd (p := .key) (by simp)
  have hslots : s.register.slots = t.register.slots := hf.keeps hd (p := .slots) (by simp)
  refine demandLaw_of (congrArg _ hphase) hcfg (fun g => by rw [hunits]) (fun g => ?_) hs
  exact demandNow_congr g hcfg hkey.symm hdemand.symm fun i => by rw [recordAt_congr hslots.symm]

/-! ## A gate acts on its demand -/

theorem PerGate.set_set {α : Type} (v : PerGate α) (g : Gate) (a b : α) : (v.set g a).set g b = v.set g b := by
  cases g <;> rfl

theorem PerGate.set_get {α : Type} (v : PerGate α) (g : Gate) : v.set g (v.get g) = v := by
  cases g <;> rfl

/-- `t` is `s` with another gate unit, as far as the gates go. -/
def Regated (g : Gate) (x : GateUnit) (s t : State) : Prop := t.gates = { s.gates with units := s.gates.units.set g x }

theorem regated_putGate (g : Gate) (x : GateUnit) (s : State) : Regated g x s (putGate g x s) := putGate_gates g x s

theorem regated_self (g : Gate) (s : State) : Regated g (s.gates.units.get g) s s := by
  unfold Regated
  rw [PerGate.set_get]

theorem Regated.trans {g : Gate} {x y : GateUnit} (h : Regated g x s t) (k : Regated g y t u) : Regated g y s u := by
  unfold Regated at h k ⊢
  rw [k, h]
  simp only [PerGate.set_set]

theorem Regated.unit {g : Gate} {x : GateUnit} (h : Regated g x s t) : t.gates.units.get g = x := by rw [h]; simp

theorem Regated.other {g k : Gate} {x : GateUnit} (h : Regated g x s t) (hk : k ≠ g) :
    t.gates.units.get k = s.gates.units.get k := by rw [h]; simp [hk]

theorem moving_eq_closing {d : Demand} (h : d.moving = .closing) : d = .closed := by
  cases d with
  | closed => rfl
  | opened => cases h

/-- A travel toward the demand held fits. -/
theorem travelling_fits {fresh : Bool} {g : Gate} {d : Demand}
    (hserving : s.phase.serving = true ∧ s.config.fitted.get g = true) (hnow : (s.gates.units.get g).demand = s.demandNow g)
    (hd : d = .closed → (s.gates.units.get g).demand = some .closed) : (s.travelling fresh g d).Fits s g := by
  have hstate := travelling_state fresh g d s
  refine .of_demand hserving ((travelling_demand fresh g d s).trans hnow) (fun h => ?_) (fun h => ?_)
  · rw [h] at hstate
    cases d <;> rcases hstate with h | h <;> cases h
  · rw [travelling_demand]
    rw [h] at hstate
    rcases hstate with h | h
    · cases d <;> cases h
    · exact hd (moving_eq_closing h.symm)

/-- What fits after a gate's operation fits before it. -/
theorem GateUnit.Fits.before {g : Gate} {x : GateUnit} {qs : List Part} (hf : Frame qs s t)
    (hd : Part.apart [.settings, .key] qs = true) (hx : x.Fits t g) : x.Fits s g := by
  obtain ⟨hphase, hcfg, -⟩ := hf.settings_eq (Part.not_mem_of_apart hd (by simp))
  obtain ⟨hkey, hdemand⟩ := hf.keeps hd (p := .key) (by simp)
  exact hx.congr (congrArg _ hphase.symm) (congrArg _ hcfg.symm) hkey hdemand

/-- R157: the gate as it enters CLOSE-PENDING. -/
def State.pended (s : State) (g : Gate) : GateUnit :=
  { (s.gates.units.get g).rest .closePending with pendingEntry := some s.now }

theorem enterClosePending_eq (g : Gate) (s : State) : enterClosePending g s = if (putGate g (s.pended g) s).leadTest g then
    beginTravel true g .closed (putGate g (s.pended g) s) else putGate g (s.pended g) s := rfl

theorem enterClosePending_fits {g : Gate} (hserving : s.phase.serving = true ∧ s.config.fitted.get g = true)
    (hnow : (s.gates.units.get g).demand = s.demandNow g) (hkey : s.gates.keyLocal = false)
    (hclosed : (s.gates.units.get g).demand = some .closed) :
    ∃ x, Regated g x s (enterClosePending g s) ∧ x.demand = (s.gates.units.get g).demand ∧ x.Fits s g := by
  have hf := frame_putGate g (s.pended g) s
  have hr := regated_putGate g (s.pended g) s
  obtain ⟨hphase, hcfg, -⟩ := hf.settings_eq (by decide)
  rw [enterClosePending_eq]
  split
  · have hfits : ((putGate g (s.pended g) s).travelling true g .closed).Fits (putGate g (s.pended g) s) g := by
      refine travelling_fits ?_ ?_ fun _ => ?_
      · rw [hphase, hcfg]
        exact hserving
      · rw [hr.unit, demandNow_of_frame hf rfl]
        exact hnow
      · rw [hr.unit]
        exact hclosed
    refine ⟨_, hr.trans ?_, ?_, hfits.before hf rfl⟩
    · rw [beginTravel_eq]
      exact regated_putGate _ _ _
    · rw [travelling_demand, hr.unit]
      rfl
  · exact ⟨s.pended g, hr, rfl, .of_demand hserving hnow (fun _ => ⟨hkey, hclosed⟩) fun h => by cases h⟩

/-- A gate that holds the demand of its key state acts on it: it keeps the demand, and comes to a state its laws allow. -/
theorem actOnDemand_fits {g : Gate} (hserving : s.phase.serving = true ∧ s.config.fitted.get g = true)
    (hnow : (s.gates.units.get g).demand = s.demandNow g)
    (hpending : (s.gates.units.get g).state = .closePending → s.gates.keyLocal = false)
    (hbutton : (s.gates.units.get g).state = .closing → s.gates.keyLocal = true → s.gates.localDemand ≠ none) :
    ∃ x, Regated g x s (actOnDemand g s) ∧ x.demand = (s.gates.units.get g).demand ∧ x.Fits s g := by
  have hput : ∀ x : GateUnit, x.demand = (s.gates.units.get g).demand → x.Fits s g →
      ∃ y, Regated g y s (putGate g x s) ∧ y.demand = (s.gates.units.get g).demand ∧ y.Fits s g := fun x hd hx =>
    ⟨x, regated_putGate g x s, hd, hx⟩
  have hself : (s.gates.units.get g).Fits s g →
      ∃ x, Regated g x s s ∧ x.demand = (s.gates.units.get g).demand ∧ x.Fits s g := fun h => ⟨_, regated_self g s, rfl, h⟩
  have htravel : ∀ d, (d = .closed → (s.gates.units.get g).demand = some .closed) → ∃ x, Regated g x s (beginTravel true g d s)
      ∧ x.demand = (s.gates.units.get g).demand ∧ x.Fits s g := fun d hd => by
    rw [beginTravel_eq]
    exact ⟨_, regated_putGate _ _ _, travelling_demand _ _ _ _, travelling_fits hserving hnow hd⟩
  have hreverse : ∃ x, Regated g x s (reverse g s) ∧ x.demand = (s.gates.units.get g).demand ∧ x.Fits s g :=
    hput { (s.gates.units.get g).rest .reversing with dwell := some 0 } rfl
      (.of_demand hserving hnow (fun h => by cases h) fun h => by cases h)
  have hstay : (s.gates.units.get g).state ≠ .closePending → (s.gates.units.get g).state ≠ .closing →
      ∃ x, Regated g x s s ∧ x.demand = (s.gates.units.get g).demand ∧ x.Fits s g := fun h k =>
    hself (.of_demand hserving hnow (fun e => absurd e h) fun e => absurd e k)
  unfold actOnDemand
  dsimp only
  cases hd : (s.gates.units.get g).demand with
  | none =>
    rw [hd] at hnow hstay
    have hkey : s.gates.keyLocal = true ∧ s.gates.localDemand = none := by
      unfold State.demandNow at hnow
      split at hnow
      · next hk => exact ⟨hk, hnow.symm⟩
      · split at hnow <;> cases hnow
    refine hstay (fun h => ?_) (fun h => hbutton h hkey.1 hkey.2)
    have := hpending h
    rw [hkey.1] at this
    cases this
  | some d =>
    rw [hd] at hput hself htravel hreverse hstay
    cases d with
    | closed =>
      have hclose := htravel .closed fun _ => rfl
      have henter : s.gates.keyLocal ≠ true → _ := fun hk => hd ▸ enterClosePending_fits hserving hnow (by simpa using hk) hd
      dsimp only
      cases hst : (s.gates.units.get g).state with
      | opened =>
        dsimp only
        split
        · exact hclose
        · next hk => exact henter hk
      | unpositioned =>
        dsimp only
        split
        · exact hclose
        · next hk => exact henter hk
      | closePending =>
        dsimp only
        split
        · exact hclose
        · exact hself (.of_demand hserving hnow (fun h => ⟨hpending h, hd⟩) fun _ => hd)
      | opening => exact hreverse
      | closing => exact hself (.of_demand hserving hnow (fun h => ⟨hpending h, hd⟩) fun _ => hd)
      | _ =>
        refine hstay ?_ ?_ <;> rw [hst] <;> exact GateState.noConfusion
    | opened =>
      have hopen := htravel .opened fun h => by cases h
      dsimp only
      cases hst : (s.gates.units.get g).state with
      | closed =>
        dsimp only
        split
        · exact hopen
        · refine hstay ?_ ?_ <;> rw [hst] <;> exact GateState.noConfusion
      | unpositioned =>
        dsimp only
        split
        · exact hopen
        · refine hstay ?_ ?_ <;> rw [hst] <;> exact GateState.noConfusion
      | closePending =>
        refine hput ((s.gates.units.get g).rest (if s.pins.openLimit.get g then .opened else .unpositioned)) hd (.of_rest ?_)
        rw [GateUnit.rest_state]
        split <;> rfl
      | closing => exact hreverse
      | _ =>
        refine hstay ?_ ?_ <;> rw [hst] <;> exact GateState.noConfusion

/-- R155: an evaluation gives a gate the demand of its key state, and leaves it in a state its laws allow. -/
theorem evaluateGate_fits (g : Gate) (hs : (s.gates.units.get g).Fits s g) :
    ∃ x, Regated g x s (evaluateGate g s) ∧ x.Fits s g
      ∧ (s.phase.serving = true → s.config.fitted.get g = true → x.demand = s.demandNow g) := by
  unfold evaluateGate
  split
  · next h =>
    rw [Bool.and_eq_true] at h
    have hf : Frame [.gateUnits] s (refreshDemand g s) := frame_withGates_units s g _
    have hset : Regated g _ s (refreshDemand g s) := rfl
    have hkey : (refreshDemand g s).gates.keyLocal = s.gates.keyLocal := rfl
    have hnow : ∀ k, (refreshDemand g s).demandNow k = s.demandNow k := demandNow_of_frame hf rfl
    obtain ⟨x, hx, hdemand, hfits⟩ := actOnDemand_fits (s := refreshDemand g s) (g := g) h
      (by rw [hset.unit, hnow]) (by rw [hset.unit]; exact fun e => (hs.pending e).1)
      (by rw [hset.unit]; exact hs.button)
    refine ⟨x, hset.trans hx, hfits.before hf rfl, fun _ _ => ?_⟩
    rw [hdemand, hset.unit]
  · next h => exact ⟨_, regated_self g s, hs, fun hserving hfitted => absurd (by rw [hserving, hfitted]; rfl) h⟩

theorem evaluateGate_laws (g : Gate) (hs : MotionLaw s) : MotionLaw (evaluateGate g s)
    ∧ (s.phase.serving = true → s.config.fitted.get g = true →
        ((evaluateGate g s).gates.units.get g).demand = (evaluateGate g s).demandNow g)
    ∧ ∀ k, k ≠ g → (evaluateGate g s).gates.units.get k = s.gates.units.get k := by
  have hf := frame_evaluateGate g s
  obtain ⟨hphase, hcfg, -⟩ := hf.settings_eq (by decide)
  obtain ⟨hkey, hdemand⟩ := hf .key (by decide)
  obtain ⟨x, hr, hfits, hnow⟩ := evaluateGate_fits g (hs g)
  refine ⟨fun k => ?_, fun hserving hfitted => ?_, fun k hk => hr.other hk⟩
  · by_cases hk : k = g
    · subst hk
      rw [hr.unit]
      exact hfits.congr (congrArg _ hphase) (congrArg _ hcfg) hkey.symm hdemand.symm
    · rw [hr.other hk]
      exact (hs k).congr (congrArg _ hphase) (congrArg _ hcfg) hkey.symm hdemand.symm
  · rw [hr.unit, demandNow_of_frame hf rfl]
    exact hnow hserving hfitted

/-- R155: after an evaluation of the gates the laws of gates and demands hold. -/
theorem gateLaws_evaluateGates (hs : MotionLaw s) : GateLaws (evaluateGates s) := by
  have he := frame_evaluateGate .e s
  have hw := frame_evaluateGate .w (evaluateGate .e s)
  obtain ⟨hphase, hcfg, -⟩ := he.settings_eq (by decide)
  obtain ⟨hphase', hcfg', -⟩ := hw.settings_eq (by decide)
  obtain ⟨hmotion, heast, -⟩ := evaluateGate_laws .e hs
  obtain ⟨hmotion', hwest, hother⟩ := evaluateGate_laws .w hmotion
  refine ⟨hmotion', fun hserving g hfitted => ?_⟩
  replace hserving : (evaluateGate .e s).phase.serving = true := hphase' ▸ hserving
  replace hfitted : (evaluateGate .e s).config.fitted.get g = true := hcfg' ▸ hfitted
  cases g with
  | e =>
    show ((evaluateGate .w (evaluateGate .e s)).gates.units.get .e).demand = (evaluateGate .w (evaluateGate .e s)).demandNow .e
    rw [hother .e (by decide), demandNow_of_frame hw rfl]
    exact heast (hphase ▸ hserving) (hcfg ▸ hfitted)
  | w => exact hwest hserving hfitted

end Sys2Proof.Machine
end

section
/-! PROOF. The laws of gates and demands through every step (R154, R155, R157, R160, R161, R169 to R172). -/

namespace Sys2Proof.Machine

open Sys2Proof

variable {s t u : State}

/-! ## The operations of the other blocks -/

theorem gateLaws_of_frame {qs : List Part} (hf : Frame qs s t)
    (hd : Part.apart [.settings, .slots, .gateUnits, .key] qs = true) (hs : GateLaws s) : GateLaws t := by
  have hd' : Part.apart [.settings, .gateUnits, .key] qs = true := by
    unfold Part.apart at hd ⊢
    rw [List.all_eq_true] at hd ⊢
    exact fun p hp => hd p (by
      simp only [List.mem_cons, List.not_mem_nil, or_false] at hp ⊢
      rcases hp with h | h | h <;> simp [h])
  exact ⟨motionLaw_of_frame hf hd' hs.1, demandLaw_of_frame hf hd hs.2⟩

/-- The parts that MotionLaw and GateLaws look at are watched. -/
theorem Part.apart_of_watched {ps qs : List Part} (hps : ∀ p ∈ ps, p ∈ Part.watched) (h : Part.apart Part.watched qs = true) :
    Part.apart ps qs = true := by
  unfold Part.apart at h ⊢
  rw [List.all_eq_true] at h ⊢
  exact fun p hp => h p (hps p hp)

theorem reaches_of_unreported {a b : ClosureRecord} (h : Unreported a b) : a.reaches = b.reaches := by
  obtain ⟨-, -, h⟩ := h
  unfold reportable at h
  simp only [decide_eq_false_iff_not, not_or, Decidable.not_not] at h
  obtain ⟨hstate, hlo, hhi, -⟩ := h
  simp only [ClosureRecord.reaches, hstate, hlo, hhi]

theorem demandNow_setSlot {i : Nat} {a b : ClosureRecord} (h : s.recordAt i = some a) (hab : a.reaches = b.reaches) (g : Gate) :
    (s.setSlot i (some b)).demandNow g = s.demandNow g := by
  refine demandNow_congr g rfl rfl rfl fun j => ?_
  by_cases hj : j = i
  · subst hj
    rw [recordAt_setSlot_of_held h, h]
    simp only [Option.map_some, hab]
  · rw [recordAt_setSlot_of_ne hj]

theorem registerKeeps_motionLaw : RegisterKeeps MotionLaw where
  calm _ hf hd := motionLaw_of_frame hf (Part.apart_of_watched (by simp [Part.watched]) hd)
  report hf hs := motionLaw_of_frame (frame_judgeQuiet _) rfl
    (gateLaws_evaluateGates (motionLaw_of_frame (frame_evaluateSigns _) rfl (motionLaw_of_frame hf rfl hs))).1
  amend _ _ hs := fun g => (hs g).congr rfl rfl rfl rfl
  level hs := motionLaw_of_frame (frame_recomputeEffective _) rfl hs

theorem gateLaws_reportRecords (hs : MotionLaw s) : GateLaws (reportRecords s) :=
  gateLaws_of_frame (frame_judgeQuiet _) rfl (gateLaws_evaluateGates (motionLaw_of_frame (frame_evaluateSigns s) rfl hs))

theorem registerKeeps_gateLaws : RegisterKeeps GateLaws where
  calm _ hf hd := gateLaws_of_frame hf (Part.apart_of_watched (by simp [Part.watched]) hd)
  report hf hs := gateLaws_reportRecords (motionLaw_of_frame hf rfl hs.1)
  amend {s} _ _ _ h hu hs := ⟨registerKeeps_motionLaw.amend h hu hs.1,
    demandLaw_of (s := s) rfl rfl (fun _ => rfl) (demandNow_setSlot h (reaches_of_unreported hu)) hs.2⟩
  level hs := gateLaws_of_frame (frame_recomputeEffective _) rfl hs

theorem gateLaws_signReport (n : Sign) (hs : GateLaws s) : GateLaws (signReport n s) := by
  unfold signReport
  split
  · exact gateLaws_evaluateGates hs.1
  · exact hs

theorem gateLaws_reportFault {n : Sign} (hs : GateLaws s) : GateLaws (reportFault n s) := by
  have hforget : GateLaws (forgetDisplayed n s) := gateLaws_of_frame (frame_setSign _ _ _) rfl hs
  exact gateLaws_of_frame (frame_judgeQuiet _) rfl (gateLaws_of_frame (frame_present .status _) rfl
    (gateLaws_signReport n hforget))

theorem gateLaws_evaluateHazard (b : Bool) (hs : GateLaws s) : GateLaws (evaluateHazard b s) := by
  have hpublish : GateLaws (publish s) := gateLaws_of_frame (frame_withHazard s _) rfl hs
  rw [evaluateHazard_eq]
  exact gateLaws_of_frame (frame_reportEvaluation _ _) rfl (registerKeeps_gateLaws.requested b hpublish)

theorem stationKeeps_gateLaws : StationKeeps GateLaws where
  toRegisterKeeps := registerKeeps_gateLaws
  evaluateGates hs := gateLaws_evaluateGates hs.1
  fault hs := gateLaws_reportFault (gateLaws_of_frame (frame_setSignLink _ _ _) rfl hs)
  healthy hs := gateLaws_of_frame (frame_setSignLink _ _ _) rfl hs
  channel _ hs := gateLaws_of_frame (frame_setChannel _ _ _) rfl hs
  sample hs := gateLaws_of_frame (frame_presentSample _ _ _) rfl hs
  evaluation hs := gateLaws_evaluateHazard _ hs

/-! ## The gates' own commands -/

/-- A gate stored with the demand it has, in a state its laws allow. -/
theorem gateLaws_putGate {g : Gate} {x : GateUnit} (hdemand : x.demand = (s.gates.units.get g).demand) (hx : x.Fits s g)
    (hs : GateLaws s) : GateLaws (putGate g x s) := by
  have hf := frame_putGate g x s
  have hr := regated_putGate g x s
  obtain ⟨hphase, hcfg, -⟩ := hf.settings_eq (by decide)
  obtain ⟨hkey, hlocal⟩ := hf .key (by decide)
  refine ⟨fun k => ?_, demandLaw_of (congrArg _ hphase) hcfg (fun k => ?_) (demandNow_of_frame hf rfl) hs.2⟩
  · refine GateUnit.Fits.congr (s := s) ?_ (congrArg _ hphase) (congrArg _ hcfg) hkey.symm hlocal.symm
    by_cases hk : k = g
    · subst hk
      rw [hr.unit]
      exact hx
    · rw [hr.other hk]
      exact hs.1 k
  · by_cases hk : k = g
    · subst hk
      rw [hr.unit]
      exact hdemand
    · rw [hr.other hk]

theorem gateLaws_rest {g : Gate} {x : GateUnit} (hdemand : x.demand = (s.gates.units.get g).demand)
    (hx : x.state.acting = false) (hs : GateLaws s) : GateLaws (putGate g x s) := gateLaws_putGate hdemand (.of_rest hx) hs

theorem gateLaws_beginTravel {fresh : Bool} {g : Gate} {d : Demand} (hserving : s.phase.serving = true ∧ s.config.fitted.get g = true)
    (hd : d = .closed → (s.gates.units.get g).demand = some .closed) (hs : GateLaws s) : GateLaws (beginTravel fresh g d s) := by
  rw [beginTravel_eq]
  exact gateLaws_putGate (travelling_demand _ _ _ _) (travelling_fits hserving (hs.2 hserving.1 g hserving.2) hd) hs

theorem gateLaws_resumeTravel {g : Gate} (hserving : s.phase.serving = true ∧ s.config.fitted.get g = true) (hs : GateLaws s) :
    GateLaws (resumeTravel g s) := by
  have hrest := gateLaws_rest (s := s) (g := g) (x := (s.gates.units.get g).rest (s.limitsShow g)) rfl (limitsShow_rests s g) hs
  unfold resumeTravel
  dsimp only
  split
  · next d hd =>
    split
    · exact gateLaws_beginTravel hserving (fun h => h ▸ hd) hs
    · exact hrest
  · exact hrest

theorem gateLaws_completeTravel (g : Gate) (d : Demand) (hs : GateLaws s) : GateLaws (completeTravel g d s) := by
  have hrest : d.atRest.acting = false := by cases d <;> rfl
  unfold completeTravel
  dsimp only
  split
  · exact gateLaws_rest (s := recordTravel g d _ s) rfl hrest (gateLaws_of_frame (frame_recordTravel g d _ s) rfl hs)
  · exact gateLaws_rest rfl hrest hs

theorem gateLaws_limitEvent {g : Gate} (l : Limit) (a : Bool) (hserving : s.phase.serving = true ∧ s.config.fitted.get g = true)
    (hs : GateLaws s) : GateLaws (limitEvent g l a s) := by
  have hite : ∀ {p : Prop} [Decidable p] {a b : State}, GateLaws a → GateLaws b → GateLaws (if p then a else b) := fun ha hb => by
    split
    · exact ha
    · exact hb
  have hrest : ∀ {x : GateUnit}, x.demand = (s.gates.units.get g).demand → x.state.acting = false → GateLaws (putGate g x s) :=
    fun hd hx => gateLaws_rest hd hx hs
  have hgain : ∀ {x : GateUnit}, x.demand = (s.gates.units.get g).demand → x.state.acting = false →
      GateLaws (evaluateGate g (putGate g x s)) := fun {x} hd hx => by
    have hput := hrest hd hx
    have hf := frame_evaluateGate g (putGate g x s)
    obtain ⟨hmotion, hown, hother⟩ := evaluateGate_laws g hput.1
    obtain ⟨hphase, hcfg, -⟩ := hf.settings_eq (by decide)
    refine ⟨hmotion, fun h k hk => ?_⟩
    rw [hphase] at h
    rw [hcfg] at hk
    by_cases hkg : k = g
    · subst hkg
      exact hown h hk
    · rw [hother k hkg, demandNow_of_frame hf rfl]
      exact hput.2 h k hk
  have hshown : ∀ l : Limit, (match l with
      | .openLimit => GateState.opened
      | .closedLimit => GateState.closed).acting = false := fun l => by cases l <;> rfl
  unfold limitEvent
  refine hite hs (hite (hrest rfl rfl) ?_)
  split
  · exact hite (gateLaws_completeTravel g .closed hs) hs
  · exact hite (gateLaws_completeTravel g .opened hs) hs
  · exact hite hs (hite (gateLaws_beginTravel hserving (fun h => by cases h) hs) (hrest rfl rfl))
  · refine hite hs ?_
    split
    · next hd => exact gateLaws_beginTravel hserving (fun _ => hd) hs
    · exact hrest rfl rfl
  · exact hite (hgain rfl (hshown l)) hs
  · exact hite (hgain rfl (hshown l)) hs
  · exact hite (hrest rfl rfl) hs
  · exact hs
  · exact hs

theorem gateLaws_limitInputChange (g : Gate) (l : Limit) (a : Bool) (hs : GateLaws s) :
    GateLaws (outcome (.limitInputChange g l a) s) := by
  have hpin : GateLaws (takeLimit g l a s) := gateLaws_of_frame (frame_takeLimit g l a s) rfl hs
  dsimp only [outcome, exec, execLimitInputChange]
  split
  · exact hs
  · split
    · next hfitted =>
      split
      · unfold followLimits
        dsimp only
        split
        · exact hpin
        · exact gateLaws_rest rfl (limitsShow_rests _ g) hpin
      · split
        · next hserving => exact gateLaws_limitEvent (s := takeLimit g l a s) l a ⟨hserving, hfitted⟩ hpin
        · exact hpin
    · exact hpin

theorem serving_of_acting {g : Gate} {st : GateState} (hs : GateLaws s) (h : (s.gates.units.get g).state = st)
    (hst : st.acting = true) : s.phase.serving = true ∧ s.config.fitted.get g = true := (hs.1 g).serving (h ▸ hst)

theorem gateLaws_travelStall (g : Gate) (hs : GateLaws s) : GateLaws (outcome (.travelStall g) s) := by
  dsimp only [outcome, exec, execTravelStall]
  split
  · next h =>
    have hserving : s.phase.serving = true ∧ s.config.fitted.get g = true := by
      rcases h.1 with h | h
      · exact serving_of_acting hs h rfl
      · exact serving_of_acting hs h rfl
    split
    · exact gateLaws_putGate rfl (.of_demand hserving (hs.2 hserving.1 g hserving.2) (fun h => by cases h) fun h => by cases h) hs
    · exact gateLaws_rest rfl rfl hs
  · exact hs

/-! ### The key and the buttons -/

/-- R169, R171: in travel, reversing or stalled. -/
def GateState.stopping (st : GateState) : Bool := st.acting && st != .closePending

/-- The gate as it is stopped. -/
def State.stopped (s : State) (g : Gate) : GateUnit := { (s.gates.units.get g).rest (s.limitsShow g) with stalls := 0 }

theorem stopGate_eq (g : Gate) (s : State) :
    stopGate g s = if (s.gates.units.get g).state.stopping then putGate g (s.stopped g) s else s := by
  unfold stopGate State.stopped
  dsimp only
  cases (s.gates.units.get g).state <;> rfl

/-- R169: a fitted gate as the key turns to LOCAL: it does not act, and keeps its demand. -/
theorem gateToLocal_rests (g : Gate) (s : State) : ∃ x, Regated g x s (gateToLocal g s)
    ∧ x.demand = (s.gates.units.get g).demand
    ∧ (x.state.acting = true → (s.gates.units.get g).state.acting = true ∧ s.config.fitted.get g = false) := by
  have hrest : (s.limitsShow g).acting ≠ true := by
    rw [limitsShow_rests]
    exact Bool.noConfusion
  unfold gateToLocal
  dsimp only
  split
  · split
    · refine ⟨_, regated_putGate _ _ _, rfl, fun h => ?_⟩
      rw [GateUnit.rest_state] at h
      split at h <;> cases h
    · next hpending =>
      rw [stopGate_eq]
      split
      · exact ⟨_, regated_putGate _ _ _, rfl, fun h => absurd h hrest⟩
      · next hstop =>
        refine ⟨_, regated_self g s, rfl, fun h => absurd ?_ hstop⟩
        unfold GateState.stopping
        simp [h, hpending]
  · next hfitted => exact ⟨_, regated_self g s, rfl, fun h => ⟨h, by simpa using hfitted⟩⟩

/-- R171: a gate that is not in CLOSE-PENDING as the key turns to REMOTE. -/
theorem gateToRemote_rests (g : Gate) (s : State) (hpending : (s.gates.units.get g).state ≠ .closePending) :
    ∃ x, Regated g x s (gateToRemote g s) ∧ x.demand = (s.gates.units.get g).demand
    ∧ (x.state.acting = true → (s.gates.units.get g).state.acting = true ∧ s.config.fitted.get g = false) := by
  have hrest : (s.limitsShow g).acting ≠ true := by
    rw [limitsShow_rests]
    exact Bool.noConfusion
  unfold gateToRemote
  dsimp only
  split
  · split
    · exact ⟨s.stopped g, regated_putGate _ _ _, rfl, fun h => absurd h hrest⟩
    · rw [stopGate_eq]
      split
      · exact ⟨_, regated_putGate _ _ _, rfl, fun h => absurd h hrest⟩
      · next hstop =>
        refine ⟨_, regated_self g s, rfl, fun h => absurd ?_ hstop⟩
        unfold GateState.stopping
        simp [h, hpending]
  · next hfitted => exact ⟨_, regated_self g s, rfl, fun h => ⟨h, by simpa using hfitted⟩⟩

/-- Both gates taken through an operation on each gate's own unit. -/
theorem units_forGates {f : Gate → State → State} {own : Gate → GateUnit → GateUnit → Prop}
    (h : ∀ g v, s.config = v.config → (v.gates.units.get g = s.gates.units.get g) →
      ∃ x, Regated g x v (f g v) ∧ own g (s.gates.units.get g) x ∧ (f g v).config = v.config) :
    ∀ g, own g (s.gates.units.get g) ((forGates f s).gates.units.get g) := by
  obtain ⟨x, hx, hown, hcfg⟩ := h .e s rfl rfl
  obtain ⟨y, hy, hown', -⟩ := h .w (f .e s) hcfg.symm (hx.other (by decide))
  intro g
  cases g with
  | e =>
    show own .e _ ((f .w (f .e s)).gates.units.get .e)
    rw [hy.other (by decide), hx.unit]
    exact hown
  | w =>
    show own .w _ ((f .w (f .e s)).gates.units.get .w)
    rw [hy.unit]
    exact hown'

/-- A gate whose operation leaves it acting only where it is not fitted, and with its demand. -/
def Stops (s : State) (g : Gate) (a b : GateUnit) : Prop :=
  b.demand = a.demand ∧ (b.state.acting = true → a.state.acting = true ∧ s.config.fitted.get g = false)

theorem keyToLocal_stops (s : State) (g : Gate) :
    Stops s g (s.gates.units.get g) ((forGates gateToLocal s).gates.units.get g) := by
  refine units_forGates (own := Stops s) (fun k v hcfg hunit => ?_) g
  obtain ⟨x, hx, hd, hstop⟩ := gateToLocal_rests k v
  rw [← hunit]
  exact ⟨x, hx, ⟨hd, fun h => hcfg ▸ hstop h⟩, ((frame_gateToLocal k v).settings_eq (by decide)).2.1⟩

theorem keyToRemote_stops (s : State) (hpending : ∀ g, (s.gates.units.get g).state ≠ .closePending) (g : Gate) :
    Stops s g (s.gates.units.get g) ((forGates gateToRemote s).gates.units.get g) := by
  refine units_forGates (own := Stops s) (fun k v hcfg hunit => ?_) g
  obtain ⟨x, hx, hd, hstop⟩ := gateToRemote_rests k v (hunit ▸ hpending k)
  rw [← hunit]
  exact ⟨x, hx, ⟨hd, fun h => hcfg ▸ hstop h⟩, ((frame_gateToRemote k v).settings_eq (by decide)).2.1⟩

/-- No gate acts once the key has turned: a gate that is not fitted never did. -/
theorem rests_of_stops {g : Gate} {a b : GateUnit} (h : Stops t g a b) (hs : GateLaws s) (hcfg : t.config = s.config)
    (ha : a.state = (s.gates.units.get g).state) : b.state.acting = false := by
  refine Bool.eq_false_iff.mpr fun hb => ?_
  obtain ⟨hact, hfitted⟩ := h.2 hb
  rw [hcfg, ((hs.1 g).serving (ha ▸ hact)).2] at hfitted
  cases hfitted

/-- R169: the gates as they turn to LOCAL, without a demand. -/
def State.turnedLocal (s : State) : State :=
  forGates clearDemand ((s.withPins { s.pins with keyLocal := true }).withGates
    { (s.withPins { s.pins with keyLocal := true }).gates with keyLocal := true, localDemand := none })

/-- R171: the gates as they turn to REMOTE, with the demand OPEN. -/
def State.turnedRemote (s : State) : State :=
  forGates remoteDemand ((s.withPins { s.pins with keyLocal := false }).withGates
    { (s.withPins { s.pins with keyLocal := false }).gates with keyLocal := false, localDemand := none })

theorem keyToLocal_eq (h : s.phase.operating = true) (hk : s.gates.keyLocal = false) :
    outcome .keyToLocal s = forGates gateToLocal s.turnedLocal := if_pos (by rw [h, hk]; rfl)

theorem keyToRemote_eq (h : s.phase.operating = true) (hk : s.gates.keyLocal = true) :
    outcome .keyToRemote s = evaluateGates (forGates gateToRemote s.turnedRemote) := if_pos (by rw [h, hk]; rfl)

theorem turnedLocal_unit (s : State) (g : Gate) : s.turnedLocal.gates.units.get g
    = { s.gates.units.get g with demand := none, demanding := none } := by cases g <;> rfl

theorem turnedRemote_unit (s : State) (g : Gate) : s.turnedRemote.gates.units.get g
    = { s.gates.units.get g with demand := some .opened, demanding := none } := by cases g <;> rfl

theorem gateLaws_keyToLocal (hs : GateLaws s) : GateLaws (outcome .keyToLocal s) := by
  by_cases h : s.phase.operating = true ∧ s.gates.keyLocal = false
  · rw [keyToLocal_eq h.1 h.2]
    have hstops := keyToLocal_stops s.turnedLocal
    have hf : Frame Part.ofGates s.turnedLocal (forGates gateToLocal s.turnedLocal) := frame_forGates frame_gateToLocal _
    obtain ⟨hkey, hlocal⟩ := hf .key (by decide)
    refine ⟨fun g => .of_rest (rests_of_stops (hstops g) hs rfl (by rw [turnedLocal_unit])), fun _ g _ => ?_⟩
    rw [(hstops g).1, turnedLocal_unit]
    unfold State.demandNow
    rw [← hkey, ← hlocal]
    rfl
  · have hself : outcome .keyToLocal s = s.withPins { s.pins with keyLocal := true } :=
      if_neg (by simpa using h)
    rw [hself]
    exact gateLaws_of_frame (frame_withPins s _) rfl hs

theorem gateLaws_keyToRemote (hs : GateLaws s) : GateLaws (outcome .keyToRemote s) := by
  by_cases h : s.phase.operating = true ∧ s.gates.keyLocal = true
  · rw [keyToRemote_eq h.1 h.2]
    have hpending : ∀ g, (s.turnedRemote.gates.units.get g).state ≠ .closePending := fun g e => by
      rw [turnedRemote_unit] at e
      have hk := ((hs.1 g).pending e).1
      rw [h.2] at hk
      cases hk
    exact gateLaws_evaluateGates fun g =>
      .of_rest (rests_of_stops (keyToRemote_stops _ hpending g) hs rfl (by rw [turnedRemote_unit]))
  · have hself : outcome .keyToRemote s = s.withPins { s.pins with keyLocal := false } :=
      if_neg (by simpa using h)
    rw [hself]
    exact gateLaws_of_frame (frame_withPins s _) rfl hs

/-- R170: a button moves no gate before the evaluation. -/
theorem gateLaws_setLocalDemand (d : Demand) (hs : GateLaws s) : GateLaws (setLocalDemand d s) := by
  refine gateLaws_evaluateGates fun g => ?_
  obtain ⟨h1, h2, h3, -⟩ := hs.1 g
  exact ⟨h1, h2, h3, fun _ _ => Option.some_ne_none d⟩

/-! ## Start-up -/

theorem gateLaws_of_rest (hphase : s.phase.serving = false) (hrest : ∀ g, (s.gates.units.get g).state.acting = false) :
    GateLaws s :=
  ⟨fun g => .of_rest (hrest g), fun h => by
    rw [hphase] at h
    cases h⟩

theorem rests_of_not_serving (hs : GateLaws s) (h : s.phase.serving = false) (g : Gate) :
    (s.gates.units.get g).state.acting = false :=
  Bool.eq_false_iff.mpr fun e => by
    have := ((hs.1 g).serving e).1
    rw [h] at this
    cases this

theorem gatesAtStart_rests (s : State) (fitted : PerGate Bool) (g : Gate) :
    ((gatesAtStart s fitted).units.get g).state.acting = false := by
  have hunit : ((gatesAtStart s fitted).units.get g).state
      = if fitted.get g then s.limitsShow g else GateUnit.reset.state := by
    cases g with
    | e => show (if _ then _ else _ : GateUnit).state = _; split <;> rfl
    | w => show (if _ then _ else _ : GateUnit).state = _; split <;> rfl
  rw [hunit]
  split
  · exact limitsShow_rests s g
  · rfl

theorem gateLaws_configurationReadEnd (a : List Byte) (hs : GateLaws s) : GateLaws (outcome (.configurationReadEnd a) s) := by
  by_cases h : s.phase = .configRead
  · have hserving : s.phase.serving = false := by rw [h]; rfl
    rcases configurationReadEnd_cases a h with ⟨i, b, he⟩ | ⟨i, b, x, he⟩
    · rw [he]
      have hphase : (enterConfigFault i b s).phase = .configFault := (turns_enterConfigFault (ps := []) i b s).phase_eq
      have hunits : s.gates.units = (enterConfigFault i b s).gates.units := frame_configFault i b s .gateUnits (by decide)
      refine gateLaws_of_rest (by rw [hphase]; rfl) fun g => ?_
      rw [← hunits]
      exact rests_of_not_serving hs hserving g
    · rw [he]
      exact gateLaws_evaluateHazard false (gateLaws_of_rest rfl fun g => gatesAtStart_rests s _ g)
  · rw [configurationReadEnd_eq_self h]
    exact hs

/-- R172, R184: no gate acts as SETTLING starts; the last step of the entry evaluates them. -/
theorem gateLaws_settlingStart (hs : GateLaws s) : GateLaws (outcome .settlingStart s) := by
  by_cases h : s.phase = .joining ∧ 10 ≤ s.now
  · rw [settlingStart_eq h]
    have hrest := rests_of_not_serving hs (by rw [h.1]; rfl)
    have hstart : ∀ x y, MotionLaw ((s.withStartup x).withPeers y) := fun x y g => .of_rest (hrest g)
    have keep : ∀ {qs : List Part} {u v : State}, Frame qs u v → Part.apart [.settings, .gateUnits, .key] qs = true →
        MotionLaw u → MotionLaw v := fun hf hd => motionLaw_of_frame hf hd
    refine gateLaws_evaluateGates (keep (frame_arbitrate _) rfl (keep (frame_evaluateSigns _) rfl ?_))
    refine registerKeeps_motionLaw.deliverDeferred (registerKeeps_motionLaw.present _ (registerKeeps_motionLaw.present _
      (registerKeeps_motionLaw.present _ (keep (frame_restartRefresh _) rfl (hstart _ _)))))
  · rw [settlingStart_eq_self h]
    exact hs

theorem gateLaws_runningEntry (hs : GateLaws s) : GateLaws (outcome .runningEntry s) := by
  by_cases h : s.phase = .settling ∧ 70 ≤ s.now
  · have hserving : s.phase.serving = true := by rw [h.1]; rfl
    have hstart : GateLaws (s.withStartup { s.startup with phase := .running }) :=
      ⟨fun g => (hs.1 g).congr (hserving.symm ▸ rfl) rfl rfl rfl,
        demandLaw_of (s := s) (hserving.symm ▸ rfl) rfl (fun _ => rfl) (fun _ => rfl) hs.2⟩
    have k := stationKeeps_gateLaws
    rw [runningEntry_eq h]
    exact k.judgeQuiet (k.evaluateGates (k.evaluateSigns (k.bringForward (k.autocloseTest (k.restartWalker
      (k.aside (frame_raiseSerial _) rfl hstart))))))
  · rw [runningEntry_eq_self h]
    exact hs

theorem gateLaws_outcome (c : Instr) (hs : GateLaws s) : GateLaws (outcome c s) := by
  have hguard : ∀ {p : Prop} [Decidable p] {a : State}, (p → GateLaws a) → GateLaws (if p then a else s) := fun ha => by
    split
    · next h => exact ha h
    · exact hs
  cases hown : StationKeeps.ownWay c with
  | false => exact stationKeeps_gateLaws.command c hown hs
  | true =>
    cases c with
    | powerOnReset => exact gateLaws_of_rest rfl fun g => by cases g <;> rfl
    | warmReset => exact gateLaws_of_rest rfl fun g => by cases g <;> rfl
    | configurationReadEnd a => exact gateLaws_configurationReadEnd a hs
    | settlingStart => exact gateLaws_settlingStart hs
    | runningEntry => exact gateLaws_runningEntry hs
    | quietEntry => exact gateLaws_of_frame (frame_outcome .quietEntry s) rfl hs
    | limitInputChange g l a => exact gateLaws_limitInputChange g l a hs
    | gateLeadElapsed g =>
      refine hguard fun h => ?_
      simp only [Bool.and_eq_true, decide_eq_true_eq] at h
      obtain ⟨⟨⟨⟨hserving, hfitted⟩, -⟩, hpending⟩, -⟩ := h
      exact gateLaws_beginTravel ⟨hserving, hfitted⟩ (fun _ => ((hs.1 g).pending hpending).2) hs
    | dwellEnd g => exact hguard fun h => gateLaws_resumeTravel (serving_of_acting hs h.1 rfl) hs
    | travelStall g => exact gateLaws_travelStall g hs
    | stallRetry g => exact hguard fun h => gateLaws_resumeTravel (serving_of_acting hs h.1 rfl) hs
    | keyToLocal => exact gateLaws_keyToLocal hs
    | keyToRemote => exact gateLaws_keyToRemote hs
    | closeButtonPress => exact hguard fun _ => gateLaws_setLocalDemand .closed hs
    | openButtonPress b => exact hguard fun _ => gateLaws_setLocalDemand .opened hs
    | _ => cases hown

/-! ## Time -/

theorem gates_advanceTick (s : State) : (advanceTick s).gates = if s.phase.operating then
    { s.gates with units := ⟨s.gates.units.east.advance, s.gates.units.west.advance⟩ } else s.gates := by
  have hhear : ∀ t : State, (hearReplyPair t).gates = t.gates := fun t => by
    unfold hearReplyPair
    split <;> rfl
  unfold advanceTick
  dsimp only
  split
  · rfl
  · exact hhear _

theorem gate_advanceTick (s : State) (g : Gate) : (advanceTick s).gates.units.get g
    = if s.phase.operating then (s.gates.units.get g).advance else s.gates.units.get g := by
  rw [gates_advanceTick]
  split
  · cases g <;> rfl
  · rfl

theorem gateLaws_advanceTick (hs : GateLaws s) : GateLaws (advanceTick s) := by
  have hf := frame_advanceTick s
  obtain ⟨hphase, hcfg, -⟩ := hf.settings_eq (by decide)
  obtain ⟨hkey, hlocal⟩ := hf .key (by decide)
  refine ⟨fun g => GateUnit.Fits.congr (s := s) ?_ (congrArg _ hphase) (congrArg _ hcfg) hkey.symm hlocal.symm,
    demandLaw_of (congrArg _ hphase) hcfg (fun g => ?_) (demandNow_of_frame hf rfl) hs.2⟩
  · rw [gate_advanceTick]
    split
    · obtain ⟨h1, h2, h3, h4⟩ := hs.1 g
      exact ⟨h1, h2, h3, h4⟩
    · exact hs.1 g
  · rw [gate_advanceTick]
    split <;> rfl

theorem gateLaws_secondTimers (hs : GateLaws s) : GateLaws (secondTimers s) := by
  have hf := frame_secondTimers s
  obtain ⟨hphase, hcfg, -⟩ := hf.settings_eq (by decide)
  obtain ⟨hkey, hlocal⟩ := hf .key (by decide)
  have hunits : s.gates.units = (secondTimers s).gates.units := hf .gateUnits (by decide)
  refine ⟨motionLaw_of_frame hf rfl hs.1, demandLaw_of (congrArg _ hphase) hcfg (fun g => by rw [hunits]) (fun g => ?_) hs.2⟩
  refine demandNow_congr g hcfg hkey.symm hlocal.symm fun i => ?_
  rw [recordAt_secondTimers]
  split
  · cases s.recordAt i <;> rfl
  · rfl

/-! ## OPENING -/

theorem openingLaw_of_frame {qs : List Part} (hf : Frame qs s t) (hd : Part.apart [.settings, .gateUnits] qs = true)
    (hs : OpeningLaw s) : OpeningLaw t := by
  obtain ⟨hphase, -, -⟩ := hf.settings_eq (Part.not_mem_of_apart hd (by simp))
  have hunits : s.gates.units = t.gates.units := hf.keeps hd (p := .gateUnits) (by simp)
  intro g hg
  rw [hphase]
  exact hs g (hunits ▸ hg)

theorem openingLaw_of_turn {ps : List Part} (hd : Part.apart [.settings, .gateUnits] (Part.plain ++ ps) = true) (s t : State)
    (h : Turn ps s t) (hs : OpeningLaw s) : OpeningLaw t := by
  cases h with
  | aside h => exact openingLaw_of_frame h hd hs
  | present => exact openingLaw_of_frame (frame_present _ s) rfl hs
  | follow => exact openingLaw_of_frame (frame_followQueue s) rfl hs
  | endFrame => exact openingLaw_of_frame (frame_endFrame s) rfl hs
  | remove => exact openingLaw_of_frame (frame_removeEntries _ _ s) rfl hs
  | @gate g u _ hopening =>
    intro k hk
    have hset : Regated g u s (s.setGate g u) := rfl
    show s.phase = .running
    by_cases hkg : k = g
    · subst hkg
      rw [hset.unit] at hk
      rcases hopening hk with h | h
      · exact h
      · exact hs k h
    · rw [hset.other hkg] at hk
      exact hs k hk
  | _ => exact hs

theorem openingLaw_of_none (h : ∀ g, (s.gates.units.get g).state ≠ .opening) : OpeningLaw s := fun g hg => absurd hg (h g)

theorem ne_opening (hs : OpeningLaw s) (h : s.phase ≠ .running) (g : Gate) : (s.gates.units.get g).state ≠ .opening :=
  fun e => h (hs g e)

theorem openingLaw_outcome (c : Instr) (hs : OpeningLaw s) : OpeningLaw (outcome c s) := by
  have hturn : ∀ qs : List Part, Part.apart [.settings, .gateUnits] (Part.plain ++ qs) = true →
      ∀ a b, Turn qs a b → OpeningLaw a → OpeningLaw b := fun qs hqs => openingLaw_of_turn hqs
  cases c with
  | powerOnReset => exact openingLaw_of_none fun g => by cases g <;> exact GateState.noConfusion
  | warmReset => exact openingLaw_of_none fun g => by cases g <;> exact GateState.noConfusion
  | configurationReadEnd a =>
    by_cases h : s.phase = .configRead
    · rcases configurationReadEnd_cases a h with ⟨i, b, he⟩ | ⟨i, b, x, he⟩
      · rw [he]
        refine (turns_enterConfigFault (ps := []) i b s).keep (hturn _ rfl) (openingLaw_of_none fun g => ?_)
        exact ne_opening hs (by rw [h]; exact Phase.noConfusion) g
      · rw [he]
        refine (turns_evaluateHazard (ps := []) false _).keep (hturn _ rfl) (openingLaw_of_none fun g e => ?_)
        have hrest := gatesAtStart_rests s (configOf i).fitted g
        rw [show ((gatesAtStart s (configOf i).fitted).units.get g).state = .opening from e] at hrest
        cases hrest
    · rw [configurationReadEnd_eq_self h]
      exact hs
  | settlingStart =>
    by_cases h : s.phase = .joining ∧ 10 ≤ s.now
    · refine (turns_settlingStart (ps := []) h).keep (hturn _ rfl) (openingLaw_of_none fun g => ?_)
      exact ne_opening hs (by rw [h.1]; exact Phase.noConfusion) g
    · rw [settlingStart_eq_self h]
      exact hs
  | runningEntry =>
    by_cases h : s.phase = .settling ∧ 70 ≤ s.now
    · exact (turns_runningEntry (ps := []) h).keep (hturn _ rfl) fun _ _ => rfl
    · rw [runningEntry_eq_self h]
      exact hs
  | _ => exact keep_of_turns hturn rfl hs

theorem openingLaw_advanceTick (hs : OpeningLaw s) : OpeningLaw (advanceTick s) := by
  intro g hg
  rw [gateState_advanceTick] at hg
  exact ((frame_advanceTick s).settings_eq (by decide)).1.trans (hs g hg)

/-- Settles O11: OPENING by turns; the run-close output by the demand a gate holds and the state it acts from. -/
theorem openingAndRunCloseLawsAreKept : Obligations.OpeningAndRunCloseLawsAreKept := by
  refine ⟨keptByEveryStep_of (fun _ _ h => h) (fun c _ h => openingLaw_outcome c h)
    (advance_keeps (fun _ h => openingLaw_advanceTick h) (fun _ _ h => h)
      (fun u h => openingLaw_of_frame (frame_secondTimers u) rfl h)
      (fun u h => openingLaw_of_frame (frame_secondQuiet u) rfl h)), ?_⟩
  intro s t hs ht
  rw [← gateLaws_iff] at hs ⊢
  exact keptByEveryStep_of (law := GateLaws) (fun u x h => gateLaws_of_frame (frame_withPending u x) rfl h)
    (fun c _ h => gateLaws_outcome c h) (advance_keeps (fun _ h => gateLaws_advanceTick h)
      (fun u x h => gateLaws_of_frame (frame_withClock u x) rfl h) (fun _ h => gateLaws_secondTimers h)
      (fun u h => gateLaws_of_frame (frame_secondQuiet u) rfl h)) s t hs ht

end Sys2Proof.Machine
end

section
/-! PROOF. What the transmit queue holds after a report: the entry presented (R65 to R68), and the STATUS of the reports that
follow it. -/

namespace Sys2Proof.Machine

open Sys2Proof

variable {s t u : State} {q : List Bulletin}

/-! ## The same entry again -/

theorem mem_insertEntry (e : Bulletin) (q : List Bulletin) : e ∈ insertEntry e q :=
  (insertEntry_perm e q).mem_iff.mpr List.mem_cons_self

theorem enqueue_of_mem {e : Bulletin} (h : e ∈ q) : enqueue e q = q := if_pos h

/-- R67: an entry presented twice is presented once. -/
theorem enqueue_enqueue (e : Bulletin) (q : List Bulletin) : enqueue e (enqueue e q) = enqueue e q := by
  have hcases : e ∈ enqueue e q ∨ enqueue e q = q := by
    unfold enqueue
    split
    · exact .inr rfl
    · split
      · exact .inl (mem_insertEntry e q)
      · split
        · split
          · exact .inl (mem_insertEntry e _)
          · exact .inr rfl
        · exact .inl (mem_insertEntry e q)
  rcases hcases with h | h
  · exact enqueue_of_mem h
  · rw [h, h]

/-! ## Presenting -/

/-- In operation every entry that is presented is queued. -/
theorem queue_present_operating (e : Bulletin) (h : s.phase.operating = true) : (present e s).line.queue = enqueue e s.line.queue := by
  have hphase : ¬ (s.phase = .configRead ∨ (s.phase = .configFault ∧ e = .status)) := by
    rintro (hp | ⟨hp, -⟩)
    all_goals rw [hp] at h; cases h
  rw [queue_present, if_neg hphase]

theorem operating_of_serving (h : s.phase.serving = true) : s.phase.operating = true := by
  revert h
  cases s.phase <;> decide

theorem operating_of_eq {p : Phase} (h : s.phase = p) (hp : p.operating = true) : s.phase.operating = true := h ▸ hp

theorem Frame.queue_eq {qs : List Part} (h : Frame qs s t) (hd : Part.apart [.queue] qs = true) : t.line.queue = s.line.queue :=
  (h.keeps hd (p := .queue) (by simp)).symm

theorem Frame.phase_eq {qs : List Part} (h : Frame qs s t) (hd : Part.apart [.settings] qs = true) : t.phase = s.phase :=
  (h.settings_eq (Part.not_mem_of_apart hd (by simp))).1

theorem Frame.config_eq {qs : List Part} (h : Frame qs s t) (hd : Part.apart [.settings] qs = true) : t.config = s.config :=
  (h.settings_eq (Part.not_mem_of_apart hd (by simp))).2.1

/-- R176: a judgement leaves the queue as it is, or adds the STATUS of the end of QUIET. -/
theorem queue_judgeQuiet (s : State) : (judgeQuiet s).line.queue = s.line.queue
    ∨ ((judgeQuiet s).line.queue = enqueue .status s.line.queue ∧ s.startup.quiet = true) := by
  unfold judgeQuiet
  split
  · next hrun =>
    split
    · next hq =>
      split
      · exact .inl rfl
      · refine .inr ⟨?_, hq⟩
        have hset : ∀ x, ((present .status (s.withStartup { s.startup with quiet := x, entryTimer := none })).line.queue)
            = enqueue .status s.line.queue := fun x =>
          queue_present_operating .status (s := s.withStartup { s.startup with quiet := x, entryTimer := none })
            (by show s.phase.operating = true; rw [hrun]; rfl)
        exact ((frame_evaluateSigns _).queue_eq rfl).trans (((frame_restartRefresh _).queue_eq rfl).trans (hset false))
    · split
      · split <;> exact .inl rfl
      · exact .inl rfl
  · exact .inl rfl

/-- The queue `q` with the STATUS that a report adds. -/
theorem queue_judgeQuiet_of_status (h : s.line.queue = enqueue .status q) :
    (judgeQuiet s).line.queue = enqueue .status q := by
  rcases queue_judgeQuiet s with hs | ⟨hs, -⟩
  · rw [hs, h]
  · rw [hs, h, enqueue_enqueue]

/-- R18: the change of an alert queues a STATUS. -/
theorem queue_reportAlert (h : s.phase.operating = true) : (reportAlert s).line.queue = enqueue .status s.line.queue :=
  queue_judgeQuiet_of_status (((frame_evaluateSigns _).queue_eq rfl).trans (queue_present_operating .status h))

end Sys2Proof.Machine
end

section
/-! PROOF. Scaling (R9, R10), the edges of the pulse inputs, and the samples of the channels (R4 to R18). -/

namespace Sys2Proof.Machine

open Sys2Proof

variable {s t : State}

/-! ## Scaling -/

/-- The nearest whole number, and of two equally near the one further from zero, is what `roundDiv` answers. -/
theorem roundDiv_eq {a q : Int} (h : 2 * (a - q * 1024).natAbs < 1024
    ∨ (2 * (a - q * 1024).natAbs = 1024 ∧ a.natAbs < (q * 1024).natAbs)) : roundDiv a 1024 = q := by
  unfold roundDiv
  rcases Int.lt_trichotomy a 0 with ha | rfl | ha
  · rw [Int.sign_eq_neg_one_of_neg ha]
    omega
  · rw [Int.sign_zero, Int.zero_mul]
    omega
  · rw [Int.sign_eq_one_of_pos ha]
    omega

theorem clampValue_eq (x : Int) : clampValue x = max (-32767) (min 32767 x) := by
  unfold clampValue
  split
  · omega
  · split <;> omega

theorem clampValue_ne_iff (x : Int) : clampValue x ≠ x ↔ x < -32767 ∨ 32767 < x := by
  rw [clampValue_eq]
  omega

/-- Settles O21: the exact product is rounded to the nearest whole number, and the rest is the clamp. -/
theorem scalingRoundsAndClamps : Obligations.ScalingRoundsAndClamps := by
  intro raw gain offset q h
  have hraw : scaleRaw raw gain offset = q + offset := by rw [scaleRaw, roundDiv_eq h]
  refine ⟨?_, ?_⟩
  · rw [scale, hraw, clampValue_eq]
  · rw [scaleClamped, scale, hraw, bne_iff_ne, clampValue_ne_iff]

/-! ## The comparator's part of a sample -/

/-- R15 to R17: the channel after its sample has been compared. -/
def Channel.compared (ch : Channel) (k : ChannelConfig) (v : Value) : Channel :=
  { ch with alert := (compare k ch.alert ch.run v).1, run := (compare k ch.alert ch.run v).2 }

theorem presentSample_eq (c : Chan) (v : Value) (s : State) : presentSample c v s =
    if ((s.channels.get c).compared (s.channelConfig c) v).alert = (s.channels.get c).alert then
      s.setChannel c ((s.channels.get c).compared (s.channelConfig c) v)
    else reportAlert (s.setChannel c ((s.channels.get c).compared (s.channelConfig c) v)) := rfl

theorem Frame.channels_eq {qs : List Part} (h : Frame qs s t) (hd : Part.apart [.channels] qs = true) : t.channels = s.channels :=
  (h.keeps hd (p := .channels) (by simp)).symm

theorem channels_presentSample (c : Chan) (v : Value) (s : State) : (presentSample c v s).channels
    = s.channels.set c ((s.channels.get c).compared (s.channelConfig c) v) := by
  rw [presentSample_eq]
  split
  · rfl
  · exact (frame_reportAlert _).channels_eq rfl

/-- R18: a change of the alert queues a STATUS, and nothing else does. -/
theorem queue_presentSample (c : Chan) (v : Value) (h : s.phase.operating = true) : (presentSample c v s).line.queue
    = if ((s.channels.get c).compared (s.channelConfig c) v).alert = (s.channels.get c).alert then s.line.queue
      else enqueue .status s.line.queue := by
  rw [presentSample_eq]
  split
  · rfl
  · exact queue_reportAlert (s := s.setChannel c _) h

theorem PerChan.set_set {α : Type} (v : PerChan α) (c : Chan) (a b : α) : (v.set c a).set c b = v.set c b := by
  cases c <;> rfl

/-- A channel is changed and its sample presented. -/
theorem channels_sampled (c : Chan) (x : Channel) (v : Value) (s : State) : (presentSample c v (s.setChannel c x)).channels
    = s.channels.set c (x.compared (s.channelConfig c) v) := by
  rw [channels_presentSample]
  simp only [State.setChannel_channels, PerChan.get_set_same, PerChan.set_set]
  rfl

theorem queue_sampled (c : Chan) (x : Channel) (v : Value) (h : s.phase.operating = true) :
    (presentSample c v (s.setChannel c x)).line.queue
    = if (x.compared (s.channelConfig c) v).alert = x.alert then s.line.queue else enqueue .status s.line.queue := by
  rw [queue_presentSample (s := s.setChannel c x) c v h]
  simp only [State.setChannel_channels, PerChan.get_set_same]
  rfl

/-- R11: an absent sample leaves the comparator as it was. -/
theorem compared_none (ch : Channel) (k : ChannelConfig) : ch.compared k none = ch := rfl

theorem presentSample_none (c : Chan) (s : State) : presentSample c none s = s.setChannel c (s.channels.get c) := by
  rw [presentSample_eq, compared_none, if_pos rfl]

theorem absentSample_eq (c : Chan) (x : Channel) (s : State) : presentSample c none (s.setChannel c x) = s.setChannel c x := by
  rw [presentSample_none]
  simp only [State.setChannel_channels, PerChan.get_set_same]
  unfold State.setChannel
  simp only [State.withChannels_channels, PerChan.set_set]
  rfl

/-! ## Edges -/

/-- Settles O23: by the mode of the channel and the state of its pulse. -/
theorem pulseEdgesAreCounted : Obligations.PulseEdgesAreCounted := by
  intro s ch rising c counted
  have hexec : exec (.pulseEdge ch rising) s = .next (outcome (.pulseEdge ch rising) s) := exec_eq_next _ s
  have hrun : s.phase.operating = true → s.pins.sense.get ch = true → outcome (.pulseEdge ch rising) s = _ := fun hop hsense =>
    if_pos (by rw [hop, hsense]; rfl)
  rw [hexec]
  refine ⟨fun h => ?_, fun hop hsense hmode => ?_, fun hop hsense hmode => ?_, fun hop hsense hmode hpulse => ?_⟩
  · rcases h with h | h | h
    · exact congrArg _ (if_neg (by rw [h]; simp))
    · exact congrArg _ (if_neg (by rw [h]; simp))
    · congr 1
      dsimp only [outcome, exec, execPulseEdge]
      rw [show (s.channels.get ch).mode = .off from h]
      split <;> rfl
  · rw [hrun hop hsense, show (s.channels.get ch).mode = .rate from hmode]
    rfl
  · rw [hrun hop hsense, show (s.channels.get ch).mode = .total from hmode]
    rfl
  · rw [hrun hop hsense, show (s.channels.get ch).mode = .width from hmode, show (s.channels.get ch).pulse = none from hpulse]
    cases rising <;> rfl

/-! ## Width samples -/

/-- R7, R8: the channel after a width sample, before the comparator. -/
def Channel.widened (ch : Channel) (k : ChannelConfig) (raw : Option Nat) : Channel :=
  { ch.takeRaw k raw with
    pulse := none, silence := (ch.takeRaw k raw).silenceAfter raw,
    minuteWidth := if (ch.takeRaw k raw).latest.isSome then (ch.takeRaw k raw).latest else (ch.takeRaw k raw).minuteWidth }

theorem widthSample_eq (c : Chan) (raw : Option Nat) (s : State) : widthSample c raw s
    = presentSample c ((s.channels.get c).takeRaw (s.channelConfig c) raw).latest
        (s.setChannel c ((s.channels.get c).widened (s.channelConfig c) raw)) := rfl

/-- R8: an absent width sample makes the latest value ABSENT, ends the pulse and restarts the silence timer. -/
theorem widthSample_none (c : Chan) (s : State) : widthSample c none s
    = s.setChannel c { s.channels.get c with pulse := none, silence := some 0, latest := none } := by
  rw [widthSample_eq]
  exact absentSample_eq c _ s

theorem silentSample_eq (c : Chan) (s : State) : silentSample c s
    = s.setChannel c { s.channels.get c with latest := none, silence := some 0 } := absentSample_eq c _ s

theorem channels_setChannel (c : Chan) (x : Channel) (s : State) : (s.setChannel c x).channels = s.channels.set c x := rfl

/-- R7: the falling edge of a pulse forms its sample. -/
theorem pulseEdge_falling {ch : Chan} {w : Nat} (hop : s.phase.operating = true) (hsense : s.pins.sense.get ch = true)
    (hmode : (s.channels.get ch).mode = .width) (hpulse : (s.channels.get ch).pulse = some w) (hw : w ≤ 65535) :
    outcome (.pulseEdge ch false) s = widthSample ch (some w) s := by
  rw [show outcome (.pulseEdge ch false) s = _ from if_pos (by rw [hop, hsense]; rfl), hmode, hpulse]
  show widthSample ch (pulseWidth w) s = _
  rw [pulseWidth, if_pos hw]

theorem silenceTimerExpiry_eq {ch : Chan} (hop : s.phase.operating = true) (hmode : (s.channels.get ch).mode = .width)
    (h : 1000000 ≤ (s.channels.get ch).silence.getD 0) : outcome (.silenceTimerExpiry ch) s = silentSample ch s :=
  if_pos (by rw [hop, hmode]; simpa [ticksPerSecond] using h)

/-- The channel after the present sample of a pulse of `w` ticks. -/
theorem compared_widened (ch : Channel) (k : ChannelConfig) (w : Nat) :
    (ch.widened k (some w)).compared k (some (scale w k.gain k.offset)) = { ch with
      pulse := none, silence := (if 1000000 ≤ ch.silence.getD 0 then ch.silence else some 0),
      latest := some (scale w k.gain k.offset),
      clamped := scaleClamped w k.gain k.offset, minuteWidth := some (scale w k.gain k.offset),
      alert := (compare k ch.alert ch.run (some (scale w k.gain k.offset))).1,
      run := (compare k ch.alert ch.run (some (scale w k.gain k.offset))).2 } := by
  have hsilence : (ch.takeRaw k (some w)).silenceAfter (some w) = if 1000000 ≤ ch.silence.getD 0 then ch.silence else some 0 := by
    unfold Channel.silenceAfter
    by_cases h : 1000000 ≤ ch.silence.getD 0
    · rw [if_pos h]
      exact if_pos (decide_eq_true h)
    · rw [if_neg h]
      exact if_neg fun e => h (of_decide_eq_true e)
  unfold Channel.widened Channel.compared
  rw [hsilence]
  rfl

theorem channels_widthSample_some (c : Chan) (w : Nat) (s : State) : (widthSample c (some w) s).channels
    = s.channels.set c (((s.channels.get c).widened (s.channelConfig c) (some w)).compared (s.channelConfig c)
        (some (scale w (s.channelConfig c).gain (s.channelConfig c).offset))) := by
  rw [widthSample_eq, channels_sampled]
  rfl

/-- Settles O24: a present sample goes through the comparator, an absent one past it. -/
theorem widthSamplesAreFormed : Obligations.WidthSamplesAreFormed := by
  refine ⟨?_, ?_, ?_⟩
  · intro s ch w c k hop hsense hmode hpulse hw
    rw [completes_iff, pulseEdge_falling hop hsense hmode hpulse hw]
    refine ⟨?_, fun hne => ?_⟩
    · rw [channels_widthSample_some, compared_widened]
    · rw [widthSample_eq, queue_sampled _ _ _ hop]
      exact if_neg hne
  · intro s ch c hop hmode
    refine ⟨fun h => ?_, fun h => ?_⟩
    · rw [completes_iff, show outcome (.widthOverrange ch) s = _ from
        if_pos (by rw [hop, show (s.channels.get ch).mode = .width from hmode]; simpa using h), widthSample_none]
      exact ⟨rfl, rfl, rfl⟩
    · rw [completes_iff, silenceTimerExpiry_eq hop hmode h, silentSample_eq]
      exact ⟨rfl, rfl, rfl⟩
  · intro s ch w c v hop hsense hmode hpulse hw hsilence
    refine ⟨?_, ?_⟩
    · rw [completes_iff, pulseEdge_falling hop hsense hmode hpulse hw, completes_iff]
      have hch := congrArg (PerChan.get · ch) (channels_widthSample_some ch w s)
      simp only [compared_widened, PerChan.get_set_same] at hch
      have hop' : (widthSample ch (some w) s).phase.operating = true :=
        (congrArg _ ((frame_widthSample ch (some w) s).phase_eq rfl)).trans hop
      have hsilence' : ((widthSample ch (some w) s).channels.get ch).silence = (s.channels.get ch).silence := by
        rw [hch]
        exact if_pos hsilence
      rw [silenceTimerExpiry_eq hop' (by rw [hch]; exact hmode) (by rw [hsilence']; exact hsilence), silentSample_eq,
        channels_setChannel, PerChan.get_set_same]
      refine ⟨rfl, ?_, rfl⟩
      rw [hch]
    · rw [completes_iff, silenceTimerExpiry_eq hop hmode hsilence, silentSample_eq, completes_iff]
      have hch : (s.setChannel ch { s.channels.get ch with latest := none, silence := some 0 }).channels.get ch
          = { s.channels.get ch with latest := none, silence := some 0 } := PerChan.get_set_same _ _ _
      rw [pulseEdge_falling (s := s.setChannel ch _) hop hsense (by rw [hch]; exact hmode) (by rw [hch]; exact hpulse) hw,
        channels_widthSample_some, compared_widened, PerChan.get_set_same, hch]
      exact ⟨rfl, rfl, rfl⟩

/-! ## The sense line and the windows -/

/-- Settles O25: the pin takes its level, and a fall marks or abandons what is in progress. -/
theorem senseLineFallMarksTheChannel : Obligations.SenseLineFallMarksTheChannel := by
  intro s ch high c s1
  have hexec : exec (.senseLineChange ch high) s = .next (outcome (.senseLineChange ch high) s) := exec_eq_next _ s
  have hfall : s.phase.operating = true → high = false → s.pins.sense.get ch = true → outcome (.senseLineChange ch high) s = _ :=
    fun hop hhigh hsense => if_pos (by rw [hop, hhigh, hsense]; rfl)
  refine ⟨fun h => ?_, fun hop hhigh hsense hmode => ?_, fun hop hhigh hsense hmode => ?_⟩
  · rw [hexec]
    congr 1
    have hmodes : c.mode = .off ∨ c.mode = .total → outcome (.senseLineChange ch high) s = s1 := fun h => by
      dsimp only [outcome, exec, execSenseLineChange]
      split
      · rcases h with h | h <;> rw [show (s.channels.get ch).mode = _ from h]
      · rfl
    rcases h with h | h | h | h | h
    · exact if_neg (by rw [h]; simp)
    · exact if_neg (by rw [h]; simp)
    · exact if_neg (by rw [h]; simp)
    · exact hmodes (.inl h)
    · exact hmodes (.inr h)
  · rw [hexec, hfall hop hhigh hsense]
    congr 1
    split
    · rfl
    · next h => exact ChannelMode.noConfusion (hmode.symm.trans h)
    · next h _ => exact absurd hmode h
  · have hsample : outcome (.senseLineChange ch high) s = widthSample ch none s1 := by
      rw [hfall hop hhigh hsense]
      split
      · next h => exact ChannelMode.noConfusion (hmode.symm.trans h)
      · rfl
      · next h => exact absurd hmode h
    rw [completes_iff, hsample, widthSample_none]
    exact ⟨rfl, rfl⟩

/-- Settles O26: the window's sample is absent where the sense line was low in it. -/
theorem rateWindowFormsItsSample : Obligations.RateWindowFormsItsSample := by
  intro s ch c k v hop hmode hended
  have hdue : s.windowDue ch = true := by
    unfold State.windowDue
    rw [hop]
    simpa using ⟨hmode, hended⟩
  rw [completes_iff, show outcome (.rateWindowEnd ch) s = endWindow ch s from if_pos hdue]
  have hraw : ∀ b : Bool, (c.takeRaw k (if b then none else some c.windowCount)) = { c with
      latest := if b then none else some (scale c.windowCount k.gain k.offset),
      clamped := if b then c.clamped else scaleClamped c.windowCount k.gain k.offset } := fun b => by cases b <;> rfl
  unfold endWindow
  dsimp only
  rw [channels_sampled, queue_sampled _ _ _ hop]
  rw [show (s.channels.get ch).takeRaw (s.channelConfig ch) _ = _ from hraw (s.channels.get ch).windowLow]
  exact ⟨rfl, fun hne => if_neg hne⟩

end Sys2Proof.Machine
end

section
/-! PROOF. The close of a minute and of an hour (R12 to R15, R22 to R30). -/

namespace Sys2Proof.Machine

open Sys2Proof

variable {s t : State}

/-! ## The largest and the smallest value present -/

/-- The one of two values that `f` chooses, an ABSENT one giving way. -/
def pickValue (f : Int → Int → Int) : Value → Value → Value
  | some a, some b => some (f a b)
  | none, x => x
  | x, none => x

theorem maxValue_eq (vs : List Value) : maxValue vs = vs.foldl (pickValue max) none := by
  rfl

theorem minValue_eq (vs : List Value) : minValue vs = vs.foldl (pickValue min) none := by
  rfl

theorem presentValues_cons_some (a : Int) (vs : List Value) : presentValues (some a :: vs) = a :: presentValues vs := rfl

theorem presentValues_cons_none (vs : List Value) : presentValues (none :: vs) = presentValues vs := rfl

theorem presentValues_map_some (vs : List Int) : presentValues (vs.map some) = vs := by
  induction vs with
  | nil => rfl
  | cons v rest ih => rw [List.map_cons, presentValues_cons_some, ih]

/-- What a choice along a list keeps: it is one of the values, and stands in the order to each of them. -/
theorem foldl_chosen {f : Int → Int → Int} {R : Int → Int → Prop} (hmem : ∀ a b, f a b = a ∨ f a b = b)
    (hleft : ∀ a b, R (f a b) a) (hright : ∀ a b, R (f a b) b) (htrans : ∀ {a b c}, R a b → R b c → R a c)
    (hrefl : ∀ a, R a a) (l : List Int) : ∀ a, l.foldl f a ∈ a :: l ∧ ∀ v ∈ a :: l, R (l.foldl f a) v := by
  induction l with
  | nil => exact fun a => ⟨List.mem_cons_self, fun v hv => by rw [List.mem_singleton.mp hv]; exact hrefl a⟩
  | cons b rest ih =>
    intro a
    rw [List.foldl_cons]
    obtain ⟨hin, hall⟩ := ih (f a b)
    refine ⟨?_, fun v hv => ?_⟩
    · rcases List.mem_cons.mp hin with h | h
      · rw [h]
        rcases hmem a b with h | h <;> rw [h] <;> simp
      · exact List.mem_cons_of_mem _ (List.mem_cons_of_mem _ h)
    · have hfirst := hall _ List.mem_cons_self
      rcases List.mem_cons.mp hv with rfl | hv
      · exact htrans hfirst (hleft v b)
      · rcases List.mem_cons.mp hv with rfl | hv
        · exact htrans hfirst (hright a v)
        · exact hall v (List.mem_cons_of_mem _ hv)

theorem foldl_pickValue_some (f : Int → Int → Int) (vs : List Value) : ∀ a,
    vs.foldl (pickValue f) (some a) = some ((presentValues vs).foldl f a) := by
  induction vs with
  | nil => exact fun a => rfl
  | cons v rest ih =>
    intro a
    cases v with
    | none => exact ih a
    | some b => exact ih (f a b)

theorem foldl_pickValue_none (f : Int → Int → Int) {vs : List Value} (h : presentValues vs ≠ []) :
    ∃ a rest, presentValues vs = a :: rest ∧ vs.foldl (pickValue f) none = some (rest.foldl f a) := by
  induction vs with
  | nil => exact absurd rfl h
  | cons v rest ih =>
    cases v with
    | none => exact ih h
    | some b => exact ⟨b, presentValues rest, rfl, foldl_pickValue_some f rest b⟩

theorem maxValue_spec {vs : List Value} (h : presentValues vs ≠ []) :
    ∃ m, maxValue vs = some m ∧ m ∈ presentValues vs ∧ ∀ v ∈ presentValues vs, v ≤ m := by
  obtain ⟨a, rest, hvs, hmax⟩ := foldl_pickValue_none max h
  obtain ⟨hin, hall⟩ := foldl_chosen (f := max) (R := fun m v => v ≤ m) (fun a b => by omega) (fun a b => by omega)
    (fun a b => by omega) (fun h k => Int.le_trans k h) Int.le_refl rest a
  rw [maxValue_eq, hmax, hvs]
  exact ⟨_, rfl, hin, hall⟩

theorem minValue_spec {vs : List Value} (h : presentValues vs ≠ []) :
    ∃ m, minValue vs = some m ∧ m ∈ presentValues vs ∧ ∀ v ∈ presentValues vs, m ≤ v := by
  obtain ⟨a, rest, hvs, hmin⟩ := foldl_pickValue_none min h
  obtain ⟨hin, hall⟩ := foldl_chosen (f := min) (R := fun m v => m ≤ v) (fun a b => by omega) (fun a b => by omega)
    (fun a b => by omega) (fun h k => Int.le_trans h k) Int.le_refl rest a
  rw [minValue_eq, hmin, hvs]
  exact ⟨_, rfl, hin, hall⟩

theorem presentValues_length (vs : List Value) : (presentValues vs).length + absentCount vs = vs.length := by
  induction vs with
  | nil => rfl
  | cons v rest ih =>
    cases v with
    | none =>
      have h : absentCount (none :: rest) = absentCount rest + 1 := rfl
      rw [presentValues_cons_none, h, List.length_cons]
      omega
    | some b =>
      have h : absentCount (some b :: rest) = absentCount rest := rfl
      rw [presentValues_cons_some, h, List.length_cons, List.length_cons]
      omega

/-! ## The minute -/

/-- R12 to R15: a channel after the close of a minute. -/
def Channel.minuteClosed (ch : Channel) (k : ChannelConfig) : Channel :=
  if ch.mode = .total then
    let x := ch.nextMinute.takeRaw k (if ch.totalPresent then some ch.hourCount else none)
    x.compared k x.latest
  else ch.nextMinute

theorem minuteClosed_spec (c : Channel) (k : ChannelConfig) :
    let d := c.minuteClosed k
    d.minutes = c.minutes ++ [c.minuteSample] ∧ d.minuteCount = 0 ∧ d.lowTicks = 0 ∧ d.windows = []
      ∧ d.minuteWidth = none ∧ d.hourCount = c.hourCount ∧ d.hourPeak = c.hourPeak
      ∧ (c.mode = .total →
          let v : Value := if c.lowTicks ≤ 3000000 then some (scale c.hourCount k.gain k.offset) else none
          d.latest = v ∧ d.alert = (compare k c.alert c.run v).1 ∧ d.run = (compare k c.alert c.run v).2
            ∧ d.clamped = (if c.lowTicks ≤ 3000000 then scaleClamped c.hourCount k.gain k.offset else c.clamped))
      ∧ (c.mode ≠ .total → d.latest = c.latest ∧ d.alert = c.alert ∧ d.run = c.run ∧ d.clamped = c.clamped) := by
  unfold Channel.minuteClosed
  by_cases hm : c.mode = .total
  · have hpresent : c.totalPresent = decide (c.lowTicks ≤ 3000000) := rfl
    rw [if_pos hm, hpresent]
    by_cases hlow : c.lowTicks ≤ 3000000
    · rw [if_pos (decide_eq_true hlow)]
      simp only [if_pos hlow]
      exact ⟨rfl, rfl, rfl, rfl, rfl, rfl, rfl, fun _ => ⟨rfl, rfl, rfl, rfl⟩, fun h => absurd hm h⟩
    · rw [if_neg fun e => hlow (of_decide_eq_true e)]
      simp only [if_neg hlow]
      exact ⟨rfl, rfl, rfl, rfl, rfl, rfl, rfl, fun _ => ⟨rfl, rfl, rfl, rfl⟩, fun h => absurd hm h⟩
  · rw [if_neg hm]
    exact ⟨rfl, rfl, rfl, rfl, rfl, rfl, rfl, fun h => absurd h hm, fun _ => ⟨rfl, rfl, rfl, rfl⟩⟩

theorem closeMinute_channels (c : Chan) (s : State) : (closeMinute c s).channels
    = s.channels.set c ((s.channels.get c).minuteClosed (s.channelConfig c)) := by
  unfold closeMinute Channel.minuteClosed
  dsimp only
  split
  · next h =>
    rw [if_pos h]
    exact channels_sampled c _ _ s
  · next h =>
    rw [if_neg h, channels_setChannel]

/-- R18: a channel whose alert changes at the close queues a STATUS. -/
theorem closeMinute_queue (c : Chan) (h : s.phase.operating = true) : (closeMinute c s).line.queue
    = if ((s.channels.get c).minuteClosed (s.channelConfig c)).alert = (s.channels.get c).alert then s.line.queue
      else enqueue .status s.line.queue := by
  have halert : ∀ raw, ((s.channels.get c).nextMinute.takeRaw (s.channelConfig c) raw).alert = (s.channels.get c).alert :=
    fun raw => StationKeeps.takeRaw_alert _ _ raw
  unfold closeMinute Channel.minuteClosed
  dsimp only
  split
  · next hm =>
    rw [if_pos hm, queue_sampled _ _ _ h, halert]
  · next hm =>
    rw [if_neg hm]
    exact (if_pos rfl).symm

theorem closeMinute_phase (c : Chan) (s : State) : (closeMinute c s).phase = s.phase := (frame_closeMinute c s).phase_eq rfl

theorem closeMinute_config (c d : Chan) (s : State) : (closeMinute c s).channelConfig d = s.channelConfig d :=
  congrArg (fun k : StationConfig => k.channels.get d) ((frame_closeMinute c s).config_eq rfl)

/-- Every channel's minute closes, whatever the order. -/
theorem closeMinutes_channels (s : State) (ch : Chan) : (forChannels closeMinute s).channels.get ch
    = (s.channels.get ch).minuteClosed (s.channelConfig ch) := by
  unfold forChannels
  cases ch <;> simp [closeMinute_channels, closeMinute_config]

/-- A STATUS for each channel of a list whose condition fails. -/
def statusUnless (same : Chan → Bool) (q : List Bulletin) (c : Chan) : List Bulletin :=
  if same c then q else enqueue .status q

theorem foldl_statusUnless_queued (same : Chan → Bool) (q : List Bulletin) : ∀ l : List Chan,
    l.foldl (statusUnless same) (enqueue .status q) = enqueue .status q
  | [] => rfl
  | c :: rest => by
    have h : statusUnless same (enqueue .status q) c = enqueue .status q := by
      unfold statusUnless
      split
      · rfl
      · exact enqueue_enqueue _ q
    rw [List.foldl_cons, h, foldl_statusUnless_queued same q rest]

theorem foldl_statusUnless (same : Chan → Bool) (q : List Bulletin) : ∀ l : List Chan,
    l.foldl (statusUnless same) q = if l.all same then q else enqueue .status q
  | [] => rfl
  | c :: rest => by
    rw [List.foldl_cons, List.all_cons]
    unfold statusUnless
    cases h : same c with
    | true => exact foldl_statusUnless same q rest
    | false => exact foldl_statusUnless_queued same q rest

/-- Whether the close of a minute leaves the channel's alert as it is. -/
def State.alertStays (s : State) (ch : Chan) : Bool :=
  decide (((s.channels.get ch).minuteClosed (s.channelConfig ch)).alert = (s.channels.get ch).alert)

/-- R18: what the four closes add to the queue. -/
theorem closeMinutes_queue (h : s.phase.operating = true) : (forChannels closeMinute s).line.queue
    = if Chan.order.all s.alertStays then s.line.queue else enqueue .status s.line.queue := by
  have hstep : ∀ (c : Chan) (u : State), u.phase.operating = true → u.channels.get c = s.channels.get c →
      u.channelConfig c = s.channelConfig c → (closeMinute c u).line.queue = statusUnless s.alertStays u.line.queue c :=
    fun c u hu hch hcfg => by
      rw [closeMinute_queue c hu, hch, hcfg]
      unfold statusUnless State.alertStays
      simp only [decide_eq_true_eq]
  rw [← foldl_statusUnless]
  show (closeMinute .c4 (closeMinute .c3 (closeMinute .c2 (closeMinute .c1 s)))).line.queue
    = statusUnless _ (statusUnless _ (statusUnless _ (statusUnless _ _ .c1) .c2) .c3) .c4
  rw [hstep .c4, hstep .c3, hstep .c2, hstep .c1 s h rfl rfl]
  all_goals simp [closeMinute_phase, closeMinute_channels, closeMinute_config, h]

theorem minuteClose_eq (h : s.minuteDue = true) : outcome .minuteClose s = evaluateSigns ((forChannels closeMinute s).withClock
    { (forChannels closeMinute s).clock with minutesClosed := (forChannels closeMinute s).clock.minutesClosed + 1 }) := if_pos h

theorem operating_of_minuteDue (h : s.minuteDue = true) : s.phase.operating = true := by
  unfold State.minuteDue at h
  simp only [Bool.and_eq_true] at h
  exact h.1.1

theorem minuteClose_channel (h : s.minuteDue = true) (ch : Chan) : (outcome .minuteClose s).channels.get ch
    = (s.channels.get ch).minuteClosed (s.channelConfig ch) := by
  rw [minuteClose_eq h, (frame_evaluateSigns _).channels_eq rfl]
  exact closeMinutes_channels s ch

theorem minuteClose_queue (h : s.minuteDue = true) : (outcome .minuteClose s).line.queue
    = if Chan.order.all s.alertStays then s.line.queue else enqueue .status s.line.queue := by
  rw [minuteClose_eq h, (frame_evaluateSigns _).queue_eq rfl]
  exact closeMinutes_queue (operating_of_minuteDue h)

theorem rateMinute_present {vs : List Value} (h : 2 * absentCount vs ≤ vs.length) (hne : vs ≠ []) :
    ∃ m, maxValue vs = some m ∧ m ∈ presentValues vs ∧ (∀ v ∈ presentValues vs, v ≤ m)
      ∧ rateMinute vs = ⟨some (roundDiv (presentValues vs).sum (presentValues vs).length), maxValue vs⟩ := by
  have hlen := presentValues_length vs
  have hpos := List.length_pos_iff.mpr hne
  have hsome : presentValues vs ≠ [] := fun e => by
    rw [e, List.length_nil] at hlen
    omega
  obtain ⟨m, hm, hin, hall⟩ := maxValue_spec hsome
  refine ⟨m, hm, hin, hall, if_neg ?_⟩
  rintro (hlt | he)
  · omega
  · exact hsome he

/-- Settles O27: channel by channel, and the STATUS of a change of any alert. -/
theorem minuteCloseFormsSamples : Obligations.MinuteCloseFormsSamples := by
  refine ⟨fun s h => ?_, fun s h => ?_, fun c => ⟨fun hm => ?_, fun hm => ?_, fun hm => ?_, fun hm hlt => ?_, fun hm hle hne => ?_⟩⟩
  · rw [completes_iff]
    refine ⟨?_, fun ch => ?_⟩
    · rw [minuteClose_eq h, ← (frame_evaluateSigns _) .clock (by decide)]
      have hclock : s.clock = (forChannels closeMinute s).clock := (frame_forChannels frame_closeMinute s) .clock (by decide)
      rw [State.withClock_clock, ← hclock]
    · rw [minuteClose_channel h ch]
      exact minuteClosed_spec _ _
  · have hall : Chan.order.all s.alertStays = true ↔
        ∀ ch, ((outcome .minuteClose s).channels.get ch).alert = (s.channels.get ch).alert := by
      simp only [minuteClose_channel h]
      refine ⟨fun e ch => of_decide_eq_true (List.all_eq_true.mp e ch (by cases ch <;> simp [Chan.order])), fun e => ?_⟩
      exact List.all_eq_true.mpr fun ch _ => decide_eq_true (e ch)
    rw [completes_iff, minuteClose_queue h]
    refine ⟨fun ⟨ch, hne⟩ => if_neg fun e => hne (hall.mp e ch), fun e => if_pos (hall.mpr e)⟩
  · rw [Channel.minuteSample, hm]
  · rw [Channel.minuteSample, hm]
    simp only [Channel.totalPresent, decide_eq_true_eq]
    rfl
  · rw [Channel.minuteSample, hm]
  · rw [Channel.minuteSample, hm]
    exact if_pos (.inl hlt)
  · obtain ⟨m, hm', hin, hall, heq⟩ := rateMinute_present hle hne
    rw [Channel.minuteSample, hm]
    show (rateMinute c.windows).value = _ ∧ _
    rw [heq]
    exact ⟨rfl, m, hm', hin, hall⟩

/-! ## The hour -/

theorem hourClose_eq (h : s.hourDue = true) : outcome .hourClose s = evaluateHazard true (insertHour s) := if_pos h

theorem beginHour_channels (c : Chan) (s : State) : (beginHour c s).channels
    = s.channels.set c ((s.channels.get c).nextHour (s.channelConfig c)) := rfl

theorem insertHour_channel (s : State) (ch : Chan) : (insertHour s).channels.get ch
    = (s.channels.get ch).nextHour (s.channelConfig ch) := by
  cases ch <;> rfl

theorem insertHour_retained (s : State) : (insertHour s).retained = s.retained.insert s.hourRecord := rfl

theorem hourClose_channel (h : s.hourDue = true) (ch : Chan) : (outcome .hourClose s).channels.get ch
    = (s.channels.get ch).nextHour (s.channelConfig ch) := by
  rw [hourClose_eq h, (frame_evaluateHazard true _).channels_eq rfl]
  exact insertHour_channel s ch

/-- R24: a field of a role that a channel holds. -/
theorem hourField_of_channel {r : Role} {c : Chan} (h : s.channelOf r = some c) (form : Chan → Value) : s.hourField r form
    = if (presentValues ((s.channels.get c).minutes.map MinuteSample.value)).length < 30 then none else form c := by
  unfold State.hourField
  rw [h]
  rfl

theorem hourField_of_none {r : Role} (h : s.channelOf r = none) (form : Chan → Value) : s.hourField r form = none := by
  unfold State.hourField
  rw [h]

/-- R24 to R28: what the hour's record holds for the role of a channel, `field` being what R24 makes of a value. -/
theorem hourRecord_fields {r : Role} {ch : Chan} (h : s.channelOf r = some ch) {vs : List Int} {field : Value → Value}
    (hvs : vs = presentValues ((s.channels.get ch).minutes.map MinuteSample.value))
    (hfield : ∀ v, (if vs.length < 30 then none else v) = field v) :
    (r = .precip → s.hourRecord.precipitation = field (some (scale (s.channels.get ch).hourCount (s.channelConfig ch).gain
        (s.channelConfig ch).offset)))
      ∧ (r = .wind → s.hourRecord.meanWind = field (some (roundDiv vs.sum vs.length))
          ∧ s.hourRecord.gust = field (s.channels.get ch).hourPeak)
      ∧ (r = .temp → s.hourRecord.tempMin = field (minValue (vs.map some)) ∧ s.hourRecord.tempMax = field (maxValue (vs.map some)))
      ∧ (r = .depth → s.hourRecord.depth = field vs.getLast?) := by
  subst hvs
  have hrole : ∀ form : Chan → Value, s.hourField r form = field (form ch) := fun form =>
    (hourField_of_channel h form).trans (hfield _)
  refine ⟨?_, ?_, ?_, ?_⟩
  · rintro rfl
    exact hrole _
  · rintro rfl
    exact ⟨hrole _, hrole _⟩
  · rintro rfl
    exact ⟨hrole _, hrole _⟩
  · rintro rfl
    exact hrole _

/-- Settles O28: the record takes its place, and its fields are those of the channels' hours. -/
theorem hourCloseInsertsARecord : Obligations.HourCloseInsertsARecord := by
  refine ⟨fun s h => ?_, ?_, ?_⟩
  · have hf := frame_evaluateHazard true (insertHour s)
    rw [completes_iff]
    simp only [hourClose_channel h]
    rw [hourClose_eq h]
    obtain ⟨hrecords, hcount, hserial⟩ := hf .ring (by decide)
    have hpartial : (insertHour s).partialPending = _ := hf .partialPending (by decide)
    have hclock : (insertHour s).clock = _ := hf .clock (by decide)
    rw [← hrecords, ← hcount, ← hserial, ← hpartial, ← hclock]
    exact ⟨rfl, rfl, rfl, rfl, rfl, rfl, rfl, fun ch => ⟨rfl, rfl, rfl, rfl⟩⟩
  · intro s r ch hrole vs h
    refine ⟨fun hlt => hourRecord_fields (field := fun _ => none) hrole rfl fun _ => if_pos hlt, fun hle => ?_⟩
    obtain ⟨hprecip, hwind, htemp, hdepth⟩ :=
      hourRecord_fields (vs := vs) (field := fun v => v) hrole rfl fun _ => if_neg (Nat.not_lt.mpr hle)
    have hsome : presentValues (vs.map some) ≠ [] := fun e => by
      rw [presentValues_map_some] at e
      rw [e] at hle
      cases hle
    refine ⟨hprecip, hwind, fun hr => ?_, hdepth⟩
    obtain ⟨hmin, hmax⟩ := htemp hr
    obtain ⟨lo, hlo, hloin, hloall⟩ := minValue_spec hsome
    obtain ⟨hi, hhi, hhiin, hhiall⟩ := maxValue_spec hsome
    rw [presentValues_map_some] at hloin hloall hhiin hhiall
    exact ⟨⟨lo, hmin.trans hlo, hloin, hloall⟩, ⟨hi, hmax.trans hhi, hhiin, hhiall⟩⟩
  · intro s h
    refine ⟨fun ch => by cases ch <;> rfl, fun hn => hourField_of_none hn _, fun hn => ?_, fun hn => ?_,
      fun hn => hourField_of_none hn _⟩
    · exact ⟨hourField_of_none hn _, hourField_of_none hn _⟩
    · exact ⟨hourField_of_none hn _, hourField_of_none hn _⟩

end Sys2Proof.Machine
end

section
/-! PROOF. The evaluation of the hour ring: its terms, the score, the levels and the hold (R31, R35 to R43, R52, R54, R55). -/

namespace Sys2Proof.Machine

open Sys2Proof

variable {s t : State}

/-! ## Levels -/

/-- Whether a level is above `l` with its threshold at or below the score. -/
def Thresholds.reaches (t : Thresholds) (score l k : Nat) : Bool := decide (l < k ∧ t.ofLevel k ≤ score)

theorem reaches_iff {t : Thresholds} {score l k : Nat} : t.reaches score l k = true ↔ l < k ∧ t.ofLevel k ≤ score :=
  decide_eq_true_iff

theorem levelUp_eq (t : Thresholds) (score l : Nat) : levelUp t score l = [5, 4, 3, 2, 1].find? (t.reaches score l) := rfl

/-- R42: a level found reaches the score, and the next above it does not. -/
theorem levelUp_some {t : Thresholds} {score l k : Nat} (h : levelUp t score l = some k) :
    k ≤ 5 ∧ t.reaches score l k = true ∧ (k < 5 → t.reaches score l (k + 1) = false) := by
  rw [levelUp_eq] at h
  simp only [List.find?_cons, List.find?_nil] at h
  split at h
  · next h5 => cases h; exact ⟨by omega, h5, fun h => absurd h (by omega)⟩
  · next h5 =>
    split at h
    · next h4 => cases h; exact ⟨by omega, h4, fun _ => h5⟩
    · next h4 =>
      split at h
      · next h3 => cases h; exact ⟨by omega, h3, fun _ => h4⟩
      · next h3 =>
        split at h
        · next h2 => cases h; exact ⟨by omega, h2, fun _ => h3⟩
        · next h2 =>
          split at h
          · next h1 => cases h; exact ⟨by omega, h1, fun _ => h2⟩
          · cases h

theorem levelUp_none {t : Thresholds} {score l k : Nat} (h : levelUp t score l = none) (h1 : 1 ≤ k) (h5 : k ≤ 5) :
    t.reaches score l k = false := by
  have hk : k ∈ [5, 4, 3, 2, 1] := by
    simp only [List.mem_cons, List.not_mem_nil, or_false]
    omega
  exact Bool.eq_false_iff.mpr (List.find?_eq_none.mp h k hk)

theorem ofLevel_mono {t : Thresholds} (h1 : t.t1 < t.t2) (h2 : t.t2 < t.t3) (h3 : t.t3 < t.t4) (h4 : t.t4 < t.t5) {i j : Nat}
    (hi : 1 ≤ i) (hij : i ≤ j) (hj : j ≤ 5) : t.ofLevel i ≤ t.ofLevel j := by
  have hstep : ∀ k, 1 ≤ k → k < 5 → t.ofLevel k ≤ t.ofLevel (k + 1) := fun k hk hk5 => by
    obtain rfl | rfl | rfl | rfl : k = 1 ∨ k = 2 ∨ k = 3 ∨ k = 4 := by omega
    · exact h1.le
    · exact h2.le
    · exact h3.le
    · exact h4.le
  induction j, hij using Nat.le_induction with
  | base => exact Nat.le_refl _
  | succ j hij ih => exact (ih (by omega)).trans (hstep j (by omega) (by omega))

/-- Settles O30: up to the highest threshold reached, or down by one below the hysteresis. -/
theorem computedLevelFollowsTheScore : Obligations.ComputedLevelFollowsTheScore := by
  intro t hys score l hl h1 h2 h3 h4 k
  have hfails : ∀ {j}, t.reaches score l j = false → l < j → score < t.ofLevel j := fun hj hlt => by
    by_contra hle
    rw [reaches_iff.mpr ⟨hlt, by omega⟩] at hj
    cases hj
  have hk : k = nextLevel t hys score l := rfl
  unfold nextLevel at hk
  split at hk
  · next up hup =>
    obtain ⟨h5, hreach, habove⟩ := levelUp_some hup
    obtain ⟨hlt, hle⟩ := reaches_iff.mp hreach
    subst hk
    have hmono : 0 < l → t.ofLevel l ≤ t.ofLevel k := fun h => ofLevel_mono h1 h2 h3 h4 h (by omega) h5
    refine ⟨by omega, h5, fun _ => ⟨hle, fun h => hfails (habove h) (by omega)⟩, fun h => absurd h (by omega),
      fun h => absurd h (by omega), fun ⟨hpos, hlow⟩ => ?_⟩
    have := hmono hpos
    omega
  · next hup =>
    have hnext : l < 5 → score < t.ofLevel (l + 1) := fun h => hfails (levelUp_none hup (by omega) (by omega)) (by omega)
    split at hk
    · exact ⟨by omega, by omega, fun h => absurd h (by omega), fun _ => hnext, fun _ => by omega, fun _ => by omega⟩
    · exact ⟨by omega, by omega, fun h => absurd h (by omega), fun _ => hnext, fun h => absurd h (by omega), fun h => by omega⟩

/-! ## Reading the ring -/

theorem read_of_gt {m : Retained} {p : Nat} (h : m.count < p) : m.read p = none := if_neg (by omega)

theorem read_of_le {m : Retained} {p : Nat} (h1 : 1 ≤ p) (h2 : p ≤ m.count) : m.read p = m.records[p - 1]? := if_pos ⟨h1, h2⟩

/-- Positions beyond the count read ABSENT. -/
theorem fields_of_gt {m : Retained} {first : Nat} (h : m.count < first) (field : HourRecord → Value) (n : Nat) :
    m.fields field first n = List.replicate n none := by
  unfold Retained.fields
  rw [List.eq_replicate_iff]
  refine ⟨by simp, fun v hv => ?_⟩
  obtain ⟨k, -, rfl⟩ := List.mem_map.mp hv
  rw [read_of_gt (by omega)]
  rfl

theorem presentValues_replicate (n : Nat) : presentValues (List.replicate n none) = [] := by
  induction n with
  | zero => rfl
  | succ n ih => rw [List.replicate_succ, presentValues_cons_none, ih]

theorem fields_length (m : Retained) (field : HourRecord → Value) (first n : Nat) : (m.fields field first n).length = n := by
  simp [Retained.fields]

/-! ## The terms -/

theorem limitNat_eq (x : Int) (n : Nat) : (limitNat x n : Int) = max 0 (min (n : Int) x) := by
  unfold limitNat
  split
  · omega
  · split <;> omega

theorem maxValue_none {vs : List Value} (h : presentValues vs = []) : maxValue vs = none := by
  rw [maxValue_eq]
  induction vs with
  | nil => rfl
  | cons v rest ih =>
    cases v with
    | none => exact ih h
    | some b => cases h

theorem minValue_none {vs : List Value} (h : presentValues vs = []) : minValue vs = none := by
  rw [minValue_eq]
  induction vs with
  | nil => rfl
  | cons v rest ih =>
    cases v with
    | none => exact ih h
    | some b => cases h

theorem maxValue_eq_of {vs : List Value} {m : Int} (hin : m ∈ presentValues vs) (hall : ∀ v ∈ presentValues vs, v ≤ m) :
    maxValue vs = some m := by
  obtain ⟨x, hx, hxin, hxall⟩ := maxValue_spec (List.ne_nil_of_mem hin)
  rw [hx, Int.le_antisymm (hall x hxin) (hxall m hin)]

theorem minValue_eq_of {vs : List Value} {m : Int} (hin : m ∈ presentValues vs) (hall : ∀ v ∈ presentValues vs, m ≤ v) :
    minValue vs = some m := by
  obtain ⟨x, hx, hxin, hxall⟩ := minValue_spec (List.ne_nil_of_mem hin)
  rw [hx, Int.le_antisymm (hxall m hin) (hall x hxin)]

theorem termA_isNone_iff (m : Retained) :
    (termA m).isNone = true ↔ 6 < absentCount (m.fields HourRecord.precipitation 1 24) := by
  unfold termA
  dsimp only
  split
  · next h => simp [h]
  · next h => simp [h]

theorem termB_isNone_iff (m : Retained) (n : Nat) :
    (termB m n).isNone = true ↔ 6 < absentCount (m.fields HourRecord.meanWind 1 24) := by
  unfold termB
  dsimp only
  split
  · next h => simp [h]
  · next h => split <;> simp [h]

theorem termC_isNone_iff (m : Retained) : (termC m).isNone = true ↔
    presentValues (m.fields HourRecord.tempMax 1 6) = [] ∨ presentValues (m.fields HourRecord.tempMin 1 24) = [] := by
  unfold termC
  by_cases hhi : presentValues (m.fields HourRecord.tempMax 1 6) = []
  · rw [maxValue_none hhi]
    simp [hhi]
  · obtain ⟨hi, hmax, -⟩ := maxValue_spec hhi
    by_cases hlo : presentValues (m.fields HourRecord.tempMin 1 24) = []
    · rw [hmax, minValue_none hlo]
      simp [hlo]
    · obtain ⟨lo, hmin, -⟩ := minValue_spec hlo
      rw [hmax, hmin]
      simp only [hhi, hlo, or_self, iff_false]
      split <;> simp

theorem termD_isNone_iff (m : Retained) : (termD m).isNone = true ↔
    presentValues (m.fields HourRecord.depth 1 6) = [] ∨ presentValues (m.fields HourRecord.depth 49 24) = [] := by
  unfold termD
  split
  · next now old hnow hold =>
    have h1 : presentValues (m.fields HourRecord.depth 1 6) ≠ [] := fun e => by rw [e] at hnow; cases hnow
    have h2 : presentValues (m.fields HourRecord.depth 49 24) ≠ [] := fun e => by rw [e] at hold; cases hold
    simp [h1, h2]
  · next h =>
    simp only [Option.isNone_none, true_iff]
    cases h1 : presentValues (m.fields HourRecord.depth 1 6) with
    | nil => exact .inl rfl
    | cons a rest =>
      refine .inr ?_
      cases h2 : (presentValues (m.fields HourRecord.depth 49 24)).getLast? with
      | none => exact List.getLast?_eq_none_iff.mp h2
      | some old => exact absurd h2 (h a old (by rw [h1]; rfl))

theorem termA_present {m : Retained} (h : absentCount (m.fields HourRecord.precipitation 1 24) ≤ 6) :
    ∃ a, termA m = some a ∧ (a : Int) = max 0 (min 120 ((presentValues (m.fields HourRecord.precipitation 1 24)).sum * 24
      / (24 - (absentCount (m.fields HourRecord.precipitation 1 24) : Int)) / 5)) := by
  refine ⟨_, if_neg (by omega), ?_⟩
  rw [limitNat_eq, show ((24 - absentCount (m.fields HourRecord.precipitation 1 24) : Nat) : Int)
    = 24 - (absentCount (m.fields HourRecord.precipitation 1 24) : Int) by omega]
  rfl

theorem termB_present {m : Retained} (n : Nat) (h : absentCount (m.fields HourRecord.meanWind 1 24) ≤ 6) :
    termB m n = some (if (presentValues (m.fields HourRecord.precipitation 1 72)).sum < 10 then 0 else min 60
      (3 * ((presentValues (m.fields HourRecord.meanWind 1 24)).filter (fun v => decide ((n : Int) ≤ v))).length)) := by
  unfold termB
  dsimp only
  rw [if_neg (by omega)]
  split
  · rfl
  · rw [Nat.min_comm]

theorem termC_present {m : Retained} {hi lo : Int}
    (hhi : hi ∈ presentValues (m.fields HourRecord.tempMax 1 6)) (hmax : ∀ v ∈ presentValues (m.fields HourRecord.tempMax 1 6), v ≤ hi)
    (hlo : lo ∈ presentValues (m.fields HourRecord.tempMin 1 24))
    (hmin : ∀ v ∈ presentValues (m.fields HourRecord.tempMin 1 24), lo ≤ v) :
    ∃ c, termC m = some c ∧ (c : Int) = if hi ≤ -50 ∨ hi - lo ≤ 0 then 0 else min 40 ((hi - lo) / 5) := by
  unfold termC
  rw [maxValue_eq_of hhi hmax, minValue_eq_of hlo hmin]
  dsimp only
  split
  · exact ⟨0, rfl, rfl⟩
  · refine ⟨_, rfl, ?_⟩
    rw [limitNat_eq]
    omega

theorem termD_present {m : Retained} {now old : Int} (hnow : (presentValues (m.fields HourRecord.depth 1 6)).head? = some now)
    (hold : (presentValues (m.fields HourRecord.depth 49 24)).getLast? = some old) :
    ∃ d, termD m = some d ∧ (d : Int) = max 0 (min 40 ((now - old) / 2)) := by
  unfold termD
  rw [hnow, hold]
  exact ⟨_, rfl, limitNat_eq _ _⟩

/-! ## The computation -/

/-- A term that fails its data test keeps its value. -/
theorem getD_of_isNone {o : Option Nat} (h : o.isNone = true) (x : Nat) : o.getD x = x := by
  rw [Option.isNone_iff_eq_none.mp h]
  rfl

theorem compute_degraded_iff (k : StationConfig) (m : Retained) (h : Hazard) : (compute k m h).degraded = true ↔
    (termA m).isNone = true ∨ (termB m k.transport).isNone = true ∨ (termC m).isNone = true ∨ (termD m).isNone = true := by
  simp only [compute, Bool.or_eq_true, or_assoc]

/-! ## The evaluation -/

/-- R52, R54: the lift counter after the requests of an hour close. -/
def liftCount (h : Hazard) : Nat :=
  let n := if h.computed ≤ 2 ∧ h.floorLevel ≤ 2 then h.liftCounter + 1 else 0
  if 2 ≤ n then 0 else n

theorem Frame.liftCounter_eq {qs : List Part} (h : Frame qs s t) (hd : Part.apart [.liftCounter] qs = true) :
    t.hazard.liftCounter = s.hazard.liftCounter := (h.keeps hd (p := .liftCounter) (by simp)).symm

def State.withLiftCounter (s : State) (n : Nat) : State := s.withHazard { s.hazard with liftCounter := n }

theorem countLift_eq (s : State) : countLift s =
    if 2 ≤ (if s.hazard.computed ≤ 2 ∧ s.hazard.floorLevel ≤ 2 then s.hazard.liftCounter + 1 else 0) then
      forIndices liftAt (s.withLiftCounter 0)
    else s.withLiftCounter (if s.hazard.computed ≤ 2 ∧ s.hazard.floorLevel ≤ 2 then s.hazard.liftCounter + 1 else 0) := rfl

theorem liftCounter_countLift (s : State) : (countLift s).hazard.liftCounter = liftCount s.hazard := by
  have hset : ∀ n, (s.withLiftCounter n).hazard.liftCounter = n := fun _ => rfl
  have hlift : (forIndices liftAt (s.withLiftCounter 0)).hazard.liftCounter = 0 :=
    ((frame_forIndices (f := liftAt) frame_liftAt (s.withLiftCounter 0)).liftCounter_eq rfl).trans (hset 0)
  rw [countLift_eq]
  unfold liftCount
  dsimp only
  generalize (if s.hazard.computed ≤ 2 ∧ s.hazard.floorLevel ≤ 2 then s.hazard.liftCounter + 1 else 0) = n
  split
  · exact hlift
  · exact hset n

/-- R55: the requests of an hour close leave the counter of R52 behind. -/
theorem liftCounter_requested (s : State) : (requested true s).hazard.liftCounter
    = if s.phase = .running then liftCount s.hazard else s.hazard.liftCounter := by
  by_cases h : s.phase = .running
  · have hreq : requested true s = bringForward (autocloseTest (countLift s)) := by
      unfold requested
      simp [h]
    rw [hreq, (frame_bringForward _).liftCounter_eq rfl, (frame_autocloseTest _).liftCounter_eq rfl, liftCounter_countLift, if_pos h]
  · have hreq : requested true s = s := by
      unfold requested
      simp [h]
    rw [hreq, if_neg h]

theorem liftCounter_evaluateHazard (s : State) : (evaluateHazard true s).hazard.liftCounter
    = if s.phase = .running then liftCount (publish s).hazard else s.hazard.liftCounter := by
  rw [evaluateHazard_eq, (frame_reportEvaluation _ _).liftCounter_eq rfl, liftCounter_requested]
  rfl

/-- What an evaluation publishes (R41, R48, R54). -/
theorem publish_hazard (s : State) : (publish s).hazard = { compute s.config s.retained s.hazard with
    hold := if (compute s.config s.retained s.hazard).computed = 5 then none else s.hazard.hold,
    effective := max (compute s.config s.retained s.hazard).computed (max s.hazard.floorLevel s.hazard.neighbourFloor) } := by
  have hkept : ∀ (k : StationConfig) (m : Retained) (h : Hazard), (compute k m h).hold = h.hold
      ∧ (compute k m h).floorLevel = h.floorLevel ∧ (compute k m h).neighbourFloor = h.neighbourFloor := fun _ _ _ =>
    ⟨rfl, rfl, rfl⟩
  obtain ⟨hhold, hfloor, hneighbour⟩ := hkept s.config s.retained s.hazard
  unfold publish Hazard.largest
  dsimp only
  rw [State.withHazard_hazard, hhold, hfloor, hneighbour]

/-- R55: what follows the publication leaves the evaluation's results. -/
theorem frame_afterPublish (b : Bool) (s : State) : Frame (.liftCounter :: Part.ofRecords) (publish s) (evaluateHazard b s) := by
  rw [evaluateHazard_eq]
  exact (frame_requested b _).trans ((frame_reportEvaluation _ _).widen rfl)

/-- R35, R52, R54: the results of an hour close, by the evaluation `e` of the ring with the new record. -/
theorem hourClose_results (h : s.hourDue = true) :
    let e := compute s.config (s.retained.insert s.hourRecord) s.hazard
    let n := if e.computed ≤ 2 ∧ s.hazard.floorLevel ≤ 2 then s.hazard.liftCounter + 1 else 0
    Completes .hourClose s (fun t =>
      t.hazard.termA = e.termA ∧ t.hazard.termB = e.termB ∧ t.hazard.termC = e.termC ∧ t.hazard.termD = e.termD
        ∧ t.hazard.score = e.score ∧ t.hazard.degraded = e.degraded ∧ t.hazard.computed = e.computed
        ∧ t.hazard.effective = max e.computed (max s.hazard.floorLevel s.hazard.neighbourFloor)
        ∧ t.hazard.hold = (if e.computed = 5 then none else s.hazard.hold)
        ∧ t.hazard.liftCounter = (if s.phase = .running then (if 2 ≤ n then 0 else n) else s.hazard.liftCounter)) := by
  intro e n
  have hpub := publish_hazard (insertHour s)
  have hcfg := (frame_insertHour s).config_eq rfl
  have hphase := (frame_insertHour s).phase_eq rfl
  have hhazard := (frame_insertHour s).hazard_eq rfl
  have hkept : e.floorLevel = s.hazard.floorLevel ∧ e.liftCounter = s.hazard.liftCounter := ⟨rfl, rfl⟩
  obtain ⟨hfloor, hcounter⟩ := hkept
  rw [hcfg, hhazard, insertHour_retained, show compute s.config (s.retained.insert s.hourRecord) s.hazard = e from rfl] at hpub
  have hf := frame_afterPublish true (insertHour s)
  obtain ⟨hA, hB, hC, hD, hscore, hdeg, hcomp⟩ := hf .computation (by decide)
  have heff : (publish (insertHour s)).hazard.effective = (evaluateHazard true (insertHour s)).hazard.effective := hf .effective (by decide)
  have hhold : (publish (insertHour s)).hazard.hold = (evaluateHazard true (insertHour s)).hazard.hold := hf .hold (by decide)
  have hlift := liftCounter_evaluateHazard (insertHour s)
  rw [hpub] at hA hB hC hD hscore hdeg hcomp heff hhold hlift
  have hcount : liftCount { e with
      hold := (if e.computed = 5 then none else s.hazard.hold),
      effective := max e.computed (max s.hazard.floorLevel s.hazard.neighbourFloor) } = if 2 ≤ n then 0 else n := by
    unfold liftCount
    dsimp only
    rw [hfloor, hcounter]
  rw [hcount, hphase, hhazard] at hlift
  rw [completes_iff, hourClose_eq h]
  exact ⟨hA.symm, hB.symm, hC.symm, hD.symm, hscore.symm, hdeg.symm, hcomp.symm, heff.symm, hhold.symm, hlift⟩

/-- R31: what a read of a position answers. -/
theorem read_spec (m : Retained) (p : Nat) (field : HourRecord → Value) :
    (m.count < p → readSerial (m.read p) = none ∧ readValue field (m.read p) = none ∧ readPartial (m.read p) = false
      ∧ readPresent (m.read p) = ⟨0, 0, 0, 0⟩)
    ∧ (∀ h : HourRecord, 1 ≤ p → p ≤ m.count → m.records[p - 1]? = some h →
        readSerial (m.read p) = some h.serial ∧ readValue field (m.read p) = field h
          ∧ readPartial (m.read p) = h.isPartial ∧ readPresent (m.read p) = h.present) := by
  refine ⟨fun h => ?_, fun r h1 h2 hr => ?_⟩
  · rw [read_of_gt h]
    exact ⟨rfl, rfl, rfl, rfl⟩
  · rw [read_of_le h1 h2, hr]
    exact ⟨rfl, rfl, rfl, rfl⟩

/-- Settles O29: the terms by their formulas, and the evaluation as the frame of what follows it leaves it. -/
theorem hourCloseEvaluatesTheRing : Obligations.HourCloseEvaluatesTheRing := by
  refine ⟨fun s h => hourClose_results h, ?_, read_spec⟩
  · intro k m h e rain winds highs lows lately before
    have hdeg := compute_degraded_iff k m h
    have hA := termA_isNone_iff m
    have hB := termB_isNone_iff m k.transport
    have hC := termC_isNone_iff m
    have hD := termD_isNone_iff m
    have hempty : m.count < 49 → before = [] := fun hc => by
      show presentValues (m.fields HourRecord.depth 49 24) = []
      rw [fields_of_gt hc, presentValues_replicate]
    have hnone : m.count = 0 → ∀ (field : HourRecord → Value) n, presentValues (m.fields field 1 n) = [] := fun hc field n => by
      rw [fields_of_gt (by omega), presentValues_replicate]
    have habsent : m.count = 0 → ∀ (field : HourRecord → Value), absentCount (m.fields field 1 24) = 24 := fun hc field => by
      have h1 := presentValues_length (m.fields field 1 24)
      rw [hnone hc, fields_length] at h1
      simpa using h1
    have heA : e.termA = (termA m).getD h.termA := rfl
    have heB : e.termB = (termB m k.transport).getD h.termB := rfl
    have heC : e.termC = (termC m).getD h.termC := rfl
    have heD : e.termD = (termD m).getD h.termD := rfl
    refine ⟨fun ha => ?_, fun ha => ?_, fun hb => ?_, fun hb => ?_, fun hc => ?_, fun hi lo h1 h2 h3 h4 => ?_, fun hd => ?_,
      fun now old hn ho => ?_, ?_, fun hc => ?_, fun hc => ?_, rfl, rfl⟩
    · exact ⟨getD_of_isNone (hA.mpr ha) _, hdeg.mpr (.inl (hA.mpr ha))⟩
    · obtain ⟨a, hsome, ha⟩ := termA_present ha
      rw [heA, hsome]
      exact ha
    · exact ⟨getD_of_isNone (hB.mpr hb) _, hdeg.mpr (.inr (.inl (hB.mpr hb)))⟩
    · rw [heB, termB_present _ hb]
      rfl
    · exact ⟨getD_of_isNone (hC.mpr hc) _, hdeg.mpr (.inr (.inr (.inl (hC.mpr hc))))⟩
    · obtain ⟨c, hsome, hc⟩ := termC_present h1 h2 h3 h4
      rw [heC, hsome]
      exact hc
    · exact ⟨getD_of_isNone (hD.mpr hd) _, hdeg.mpr (.inr (.inr (.inr (hD.mpr hd))))⟩
    · obtain ⟨d, hsome, hd⟩ := termD_present hn ho
      rw [heD, hsome]
      exact hd
    · rw [hdeg, hA, hB, hC, hD, or_assoc]
    · have hd := hD.mpr (.inr (hempty hc))
      exact ⟨getD_of_isNone hd _, hdeg.mpr (.inr (.inr (.inr hd)))⟩
    · exact ⟨getD_of_isNone (hA.mpr (by rw [habsent hc]; omega)) _, getD_of_isNone (hB.mpr (by rw [habsent hc]; omega)) _,
        getD_of_isNone (hC.mpr (.inl (hnone hc _ _))) _, getD_of_isNone (hD.mpr (.inl (hnone hc _ _))) _⟩

end Sys2Proof.Machine
end

section
/-! PROOF. What the hazard unit asks of the register, record by record: the autoclose test, the records it brings forward and those
it lifts (R49 to R54, R112, R113). -/

namespace Sys2Proof.Machine

open Sys2Proof

variable {s t u : State}

/-! ## Room for a record -/

theorem admitRecord_of_free {i : Nat} (h : freeIndex 0 s.register.slots = some i) (r : ClosureRecord) :
    admitRecord r s = (storeRecord i r.settled s, true) := by
  unfold admitRecord
  rw [h]

theorem admitRecord_of_evicted {r : ClosureRecord} {i : Nat} (h : freeIndex 0 s.register.slots = none)
    (he : s.evictIndex r = some i) : admitRecord r s = (storeRecord i r.settled (vacate i s), true) := by
  unfold admitRecord
  rw [h]
  dsimp only
  rw [he]

theorem admitRecord_of_full {r : ClosureRecord} (h : freeIndex 0 s.register.slots = none) (he : s.evictIndex r = none) :
    admitRecord r s = (setFull true s, false) := by
  unfold admitRecord
  rw [h]
  dsimp only
  rw [he]

theorem lt_length_of_freeIndex {i : Nat} (h : freeIndex 0 s.register.slots = some i) : i < s.register.slots.length := by
  obtain ⟨-, hi⟩ := freeIndex_spec h
  exact (List.getElem?_eq_some_iff.mp hi).1

theorem recordAt_of_freeIndex {i : Nat} (h : freeIndex 0 s.register.slots = some i) : s.recordAt i = none := by
  obtain ⟨-, hi⟩ := freeIndex_spec h
  rw [Nat.sub_zero] at hi
  unfold State.recordAt
  rw [hi]
  rfl

theorem recordAt_storeRecord_of_lt {i : Nat} (h : i < s.register.slots.length) (r : ClosureRecord) :
    (storeRecord i r s).recordAt i = some r := by
  rw [storeRecord, recordAt_reportRecords, recordAt_setSlot _ _ _ _ h, if_pos rfl]

theorem length_storeRecord (i : Nat) (r : ClosureRecord) (s : State) :
    (storeRecord i r s).register.slots.length = s.register.slots.length := by
  rw [slots_storeRecord, List.length_set]

/-- REGISTER-FULL stays as it is where no room is sought. -/
theorem Frame.full_eq {qs : List Part} (h : Frame qs s t) (hd : Part.apart [.registerFull] qs = true) :
    t.register.full = s.register.full := (h.keeps hd (p := .registerFull) (by simp)).symm

theorem Frame.computed_eq {qs : List Part} (h : Frame qs s t) (hd : Part.apart [.computation] qs = true) :
    t.hazard.computed = s.hazard.computed := by
  obtain ⟨-, -, -, -, -, -, hcomputed⟩ := h.keeps hd (p := .computation) (by simp)
  exact hcomputed.symm

theorem Frame.floor_eq {qs : List Part} (h : Frame qs s t) (hd : Part.apart [.floor] qs = true) :
    t.hazard.floorLevel = s.hazard.floorLevel ∧ t.hazard.floorRemaining = s.hazard.floorRemaining := by
  obtain ⟨hlevel, hremaining⟩ := h.keeps hd (p := .floor) (by simp)
  exact ⟨hlevel.symm, hremaining.symm⟩

theorem Frame.neighbourFloor_eq {qs : List Part} (h : Frame qs s t) (hd : Part.apart [.neighbours] qs = true) :
    t.hazard.neighbourFloor = s.hazard.neighbourFloor := by
  obtain ⟨hfloor, -⟩ := h.keeps hd (p := .neighbours) (by simp)
  exact hfloor.symm

theorem Frame.effective_eq {qs : List Part} (h : Frame qs s t) (hd : Part.apart [.effective] qs = true) :
    t.hazard.effective = s.hazard.effective := (h.keeps hd (p := .effective) (by simp)).symm

theorem Frame.hold_eq {qs : List Part} (h : Frame qs s t) (hd : Part.apart [.hold] qs = true) :
    t.hazard.hold = s.hazard.hold := (h.keeps hd (p := .hold) (by simp)).symm

theorem Frame.ownSerial_eq {qs : List Part} (h : Frame qs s t) (hd : Part.apart [.ownSerial] qs = true) :
    t.retained.ownSerial = s.retained.ownSerial := (h.keeps hd (p := .ownSerial) (by simp)).symm

theorem full_setFull (b : Bool) (s : State) : (setFull b s).register.full = b := by
  unfold setFull
  split
  · next h => exact h
  · exact (frame_present _ _).full_eq rfl

/-! ## Index by index -/

/-- A change of the record at each index of a list in turn. -/
theorem recordAt_foldl {f : Nat → State → State} {g : ClosureRecord → ClosureRecord} {P : State → Prop}
    (hP : ∀ j t, P t → P (f j t))
    (hf : ∀ j t, P t → ∀ k, (f j t).recordAt k = if k = j then (t.recordAt j).map g else t.recordAt k) :
    ∀ (l : List Nat) (t : State), l.Nodup → P t → ∀ k, (l.foldl (fun s i => f i s) t).recordAt k
      = if k ∈ l then (t.recordAt k).map g else t.recordAt k := by
  intro l
  induction l with
  | nil => intro t _ _ k; rfl
  | cons j rest ih =>
    intro t hnodup ht k
    obtain ⟨hj, hrest⟩ := List.nodup_cons.mp hnodup
    rw [List.foldl_cons, ih _ hrest (hP j t ht) k, hf j t ht k]
    by_cases hk : k = j
    · subst hk
      simp [hj]
    · simp [hk]

/-- A change of the record at every index. -/
theorem recordAt_forIndices {f : Nat → State → State} {g : ClosureRecord → ClosureRecord} {P : State → Prop}
    (hP : ∀ j t, P t → P (f j t))
    (hf : ∀ j t, P t → ∀ k, (f j t).recordAt k = if k = j then (t.recordAt j).map g else t.recordAt k) (hs : P s) (k : Nat) :
    (forIndices f s).recordAt k = if k < 16 then (s.recordAt k).map g else s.recordAt k := by
  rw [forIndices, recordAt_foldl hP hf _ _ List.nodup_range hs k]
  simp only [List.mem_range]

theorem forIndices_keeps {law : State → Prop} {f : Nat → State → State} (hf : ∀ j t, law t → law (f j t)) (hs : law s) :
    law (forIndices f s) := forIndices_induction hf hs

/-! ## Bringing forward -/

/-- R51, R112: an own AVALANCHE record that is ANNOUNCED comes in force. -/
def ClosureRecord.brought (r : ClosureRecord) : ClosureRecord :=
  if r.own ∧ r.kind = .avalanche ∧ r.state = .announced then
    { r with state := .inForce, lead := 0, revision := r.revision + 1 }
  else r

theorem recordAt_bringForwardAt (j : Nat) (s : State) (k : Nat) : (bringForwardAt j s).recordAt k
    = if k = j then (s.recordAt j).map ClosureRecord.brought else s.recordAt k := by
  unfold bringForwardAt
  cases hr : s.recordAt j with
  | none =>
    dsimp only
    split
    · next h => rw [h, hr]; rfl
    · rfl
  | some r =>
    dsimp only
    split
    · next hcond =>
      by_cases hk : k = j
      · subst hk
        rw [if_pos rfl, recordAt_storeRecord_same ((recordAt_queueOwn _ s k).trans hr), Option.map_some, ClosureRecord.brought,
          if_pos hcond]
      · rw [if_neg hk, recordAt_storeRecord_of_ne hk, recordAt_queueOwn]
    · next hcond =>
      split
      · next h => rw [h, hr, Option.map_some, ClosureRecord.brought, if_neg hcond]
      · rfl

/-- R51: where the test is made, every own AVALANCHE record then ANNOUNCED is brought forward. -/
theorem recordAt_bringForward (h : s.phase = .running ∧ s.hazard.computed = 5) (k : Nat) : (bringForward s).recordAt k
    = if k < 16 then (s.recordAt k).map ClosureRecord.brought else s.recordAt k := by
  rw [show bringForward s = forIndices bringForwardAt s from if_pos h]
  exact recordAt_forIndices (P := fun _ => True) (fun _ _ _ => trivial) (fun j t _ => recordAt_bringForwardAt j t) trivial k

theorem bringForward_eq_self (h : ¬ (s.phase = .running ∧ s.hazard.computed = 5)) : bringForward s = s := if_neg h

/-- Bringing forward seeks no room. -/
theorem frame_bringForward_slots (s : State) : Frame (.slots :: Part.ofGates) s (bringForward s) := by
  have hat : ∀ j t, Frame (.slots :: Part.ofGates) t (bringForwardAt j t) := fun j t => by
    unfold bringForwardAt
    split
    · exact Frame.guard (((frame_queueOwn _ t).widen rfl).trans (frame_storeRecord _ _ _))
    · exact Frame.refl _ t
  exact Frame.guard (frame_forIndices hat s)

/-! ## The autoclose test -/

/-- R49: the five conditions of the autoclose test. -/
def State.Called (s : State) : Prop :=
  s.config.autoclose ≠ none
    ∧ (∀ l : Nat, s.config.autoclose = some l → l ≤ max s.hazard.computed s.hazard.floorLevel)
    ∧ (∀ j r, s.recordAt j = some r → r.own = true → r.kind = .avalanche → r.state = .lifted)
    ∧ s.hazard.hold = none
    ∧ s.phase = .running

theorem autocloses_iff (s : State) : s.autocloses = true ↔ s.Called := by
  have hrecords : s.records.all (fun p => !p.2.standingAvalanche) = true ↔
      ∀ j r, s.recordAt j = some r → r.own = true → r.kind = .avalanche → r.state = .lifted := by
    simp only [List.all_eq_true, Prod.forall, mem_records, ClosureRecord.standingAvalanche, Bool.not_eq_true', Bool.and_eq_false_imp,
      decide_eq_false_iff_not, not_and, ne_eq, Decidable.not_not]
  unfold State.autocloses State.Called
  simp only [Bool.and_eq_true, hrecords, Option.isNone_iff_eq_none, decide_eq_true_eq]
  cases s.config.autoclose with
  | none => simp
  | some l => simp [and_assoc]

theorem autocloseTest_eq_self (h : ¬ s.Called) : autocloseTest s = s := by
  exact if_neg (mt (autocloses_iff s).mp h)

theorem autocloseTest_of_called (h : s.Called) :
    autocloseTest s = if (originate s).2 then bringForward (originate s).1 else (originate s).1 := by
  unfold autocloseTest
  rw [if_pos ((autocloses_iff s).mpr h)]
  cases hb : (originate s).2 with
  | false =>
    rw [show originate s = ((originate s).1, false) from hb ▸ rfl]
    rfl
  | true =>
    rw [show originate s = ((originate s).1, true) from hb ▸ rfl]
    rfl

/-- R112: where there is room, the record takes the lowest free index. -/
theorem originate_of_free {i : Nat} (h : freeIndex 0 s.register.slots = some i) :
    originate s = (queueOwn (s.ownRecord .avalanche s.config.segmentHalf .announced s.config.announceLead)
      (takeSerial s.nextSerial (storeRecord i
        (s.ownRecord .avalanche s.config.segmentHalf .announced s.config.announceLead).settled s)), true) := by
  unfold originate
  dsimp only
  rw [admitRecord_of_free h]
  rfl

/-! ## A control lift -/

/-- R102, R103: the merged record in its place, before the hazard unit is told. -/
theorem replaceRecord_eq (control : Bool) (i : Nat) (a b : ClosureRecord) (s : State) :
    ∃ u, Frame (.slots :: Part.ofGates) s u ∧ replaceRecord control i a b s = tellHazard control a b u := by
  refine ⟨_, ?_, rfl⟩
  have hqueue : Frame (.slots :: Part.ofGates) s (if control && carriedChanged a b then queueOwn b s else s) :=
    Frame.guard ((frame_queueOwn b s).widen rfl)
  have hset := hqueue.trans ((frame_setSlot _ i (some b)).widen rfl)
  exact Frame.ite (hset.trans ((frame_reportRecords _).widen rfl)) hset

/-- R98 to R102: a heard control bulletin of a revision that is not older is merged. -/
theorem outcome_merge {h : FrameHeader} {b : ClosureBody} {c : ClosureContent} {i : Nat} {r q : ClosureRecord}
    (hphase : s.phase.operating = true) (hheard : Heard h s) (hcontrol : s.isControl h.source = true)
    (hc : closureContent false b = some c) (hf : s.findRecord c.id = some (i, r)) (hk : s.kindAllowed c.id.origin c.kind = true)
    (hm : mergeRecord c r = some q) :
    ∃ u, Frame Part.ofFrame s u ∧ outcome (.closureReceived h b) s = replaceRecord true i r q u := by
  obtain ⟨u, hu, hserved⟩ := receiveFrame_of_heard hheard (fun p => p) (serveClosure false h.source b)
  refine ⟨u, hu, ?_⟩
  have hslots : u.register.slots = s.register.slots := hu.slots_eq (by decide)
  obtain ⟨hup, huc, hua⟩ := hu.settings_eq (by decide)
  have ha : u.authorised h.source c.id.origin = true := by
    rw [authorised_congr hup huc hua, State.authorised, hcontrol, Bool.or_true, Bool.true_or]
  have hcontrol' : u.isControl h.source = true := (isControl_congr hup huc _).trans hcontrol
  calc outcome (.closureReceived h b) s
      = receiveFrame h (fun p => p) (serveClosure false h.source b) s := rfl
    _ = takeClosure false h.source b u := by rw [hserved, serveClosure, hup, if_pos hphase]
    _ = replaceRecord true i r q u := by
      rw [(takeClosure_of_held (s := u) hc ((findRecord_congr hslots c.id).trans hf) ha
        ((kindAllowed_congr hup huc _ _).trans hk)).2 q hm, hcontrol']

/-- R113: a control lift of an own AVALANCHE record in RUNNING is told to the hazard unit. -/
theorem outcome_controlLift {h : FrameHeader} {b : ClosureBody} {c : ClosureContent} {i : Nat} {r : ClosureRecord}
    (hphase : s.phase = .running) (hheard : Heard h s) (hcontrol : s.isControl h.source = true)
    (hc : closureContent false b = some c) (hf : s.findRecord c.id = some (i, r)) (hown : r.own = true)
    (hkind : r.kind = .avalanche) (hstate : r.state ≠ .lifted) (hlift : c.state = .lifted)
    (hd : (c.revision - r.revision).toNat ≤ 127) (hk : s.kindAllowed c.id.origin c.kind = true) :
    ∃ u, Frame (.slots :: (Part.ofFrame ++ Part.ofGates)) s u
      ∧ outcome (.closureReceived h b) s = autocloseTest (controlLift u) := by
  obtain ⟨q, hm, hq⟩ : ∃ q, mergeRecord c r = some q ∧ q.state = .lifted := by
    rcases Nat.eq_zero_or_pos (revisionDistance c.revision r.revision) with h0 | h0
    · refine ⟨_, mergeRecord_equal h0, ?_⟩
      rw [mergeEqual_eq]
      simp [hlift, laterState_eq_lifted_iff]
    · refine ⟨_, mergeRecord_newer h0 hd, ?_⟩
      rw [mergeNewer_eq]
      simp [hlift]
  obtain ⟨u, hu, houtcome⟩ := outcome_merge (by rw [hphase]; rfl) hheard hcontrol hc hf hk hm
  obtain ⟨v, hv, hreplace⟩ := replaceRecord_eq true i r q u
  have hsv : Frame (.slots :: (Part.ofFrame ++ Part.ofGates)) s v := (hu.widen rfl).trans (hv.widen rfl)
  refine ⟨v, hsv, ?_⟩
  have hstanding : r.standingAvalanche = true := by
    simp [ClosureRecord.standingAvalanche, hown, hkind, hstate]
  rw [houtcome, hreplace, tellHazard, hstanding, hq, hsv.phase_eq rfl, hphase]
  rfl

/-! ## The hold and autoclose -/

/-- R53: below computed level 5 a control lift starts the hold. -/
theorem controlLift_hazard (h : s.hazard.computed < 5) : controlLift s = s.withHazard { s.hazard with hold := some 21600 } :=
  if_neg (by omega)

/-- R49, R112: the record that autoclose originates. -/
def State.autocloseRecord (s : State) : ClosureRecord :=
  s.ownRecord .avalanche s.config.segmentHalf .announced s.config.announceLead

/-- R112: with a lead the record is placed ANNOUNCED, and its serial taken. -/
theorem originate_placed {i : Nat} (hfree : freeIndex 0 s.register.slots = some i) (hlead : 0 < s.config.announceLead) :
    ∃ t, originate s = (t, true) ∧ Frame (.slots :: .ownSerial :: Part.ofGates) s t
      ∧ t.recordAt i = some s.autocloseRecord ∧ t.retained.ownSerial = s.nextSerial + 1 := by
  have hsettled : s.autocloseRecord.settled = s.autocloseRecord := by
    rw [settled_eq, if_neg]
    exact fun ⟨_, h⟩ => absurd (show s.config.announceLead = 0 from h) (by omega)
  refine ⟨_, originate_of_free hfree, ?_, ?_, ?_⟩
  · exact ((frame_storeRecord _ _ s).widen rfl).trans (((frame_takeSerial _ _).widen rfl).trans ((frame_queueOwn _ _).widen rfl))
  · rw [recordAt_queueOwn, show s.ownRecord .avalanche s.config.segmentHalf .announced s.config.announceLead
      = s.autocloseRecord from rfl, hsettled]
    exact recordAt_storeRecord_of_lt (lt_length_of_freeIndex hfree) _
  · rw [(frame_queueOwn _ _).ownSerial_eq rfl]
    rfl

/-- R49, R112: autoclose originates its record, and at a computed level of 5 brings it forward. -/
theorem autocloseTest_placed (h : s.Called) {i : Nat} (hfree : freeIndex 0 s.register.slots = some i) (hi : i < 16)
    (hlead : 0 < s.config.announceLead) :
    (autocloseTest s).recordAt i = some (if s.hazard.computed = 5
        then { s.autocloseRecord with state := .inForce, lead := 0, revision := 1#8 } else s.autocloseRecord)
      ∧ (autocloseTest s).retained.ownSerial = s.nextSerial + 1 := by
  obtain ⟨t, horiginate, hframe, hrecord, hserial⟩ := originate_placed hfree hlead
  have htest : autocloseTest s = bringForward t := by
    rw [autocloseTest_of_called h, horiginate]
    rfl
  have hcomputed : t.hazard.computed = s.hazard.computed := hframe.computed_eq rfl
  obtain ⟨-, -, -, -, hrunning⟩ := h
  have hphase : t.phase = .running := (hframe.phase_eq rfl).trans hrunning
  refine ⟨?_, ?_⟩
  · rw [htest]
    split
    · next h5 =>
      rw [recordAt_bringForward ⟨hphase, hcomputed.trans h5⟩, if_pos hi, hrecord]
      rfl
    · next h5 =>
      rw [bringForward_eq_self (fun h => h5 (hcomputed.symm.trans h.2)), hrecord]
  · rw [htest, (frame_bringForward_slots t).ownSerial_eq rfl, hserial]

/-- Settles O32: the ends of a control lift and of the hold are followed through the autoclose test, which leaves the hazard unit
alone; where the test holds, its record is read back at the free index. -/
theorem holdAndAutocloseFollowTheirConditions : Obligations.HoldAndAutocloseFollowTheirConditions := by
  refine ⟨?_, ?_, ?_⟩
  · intro s h b c i r hphase hheard hcontrol hc hf hown hkind hstate hlift hd hk hlevel
    rw [completes_iff]
    obtain ⟨u, hu, houtcome⟩ := outcome_controlLift hphase hheard hcontrol hc hf hown hkind hstate hlift hd hk
    have hcomputed : u.hazard.computed = s.hazard.computed := hu.computed_eq rfl
    have hframe := frame_autocloseTest (controlLift u)
    rw [houtcome, hframe.hold_eq rfl, hframe.computed_eq rfl, controlLift_hazard (hcomputed ▸ hlevel)]
    exact ⟨rfl, hcomputed⟩
  · intro s hphase hhold
    rw [completes_iff]
    have houtcome : outcome .overrideHoldExpiry s = autocloseTest (s.withHazard { s.hazard with hold := none }) :=
      if_pos (by rw [hphase, hhold]; rfl)
    have hframe := frame_autocloseTest (s.withHazard { s.hazard with hold := none })
    obtain ⟨hfloor, -⟩ := hframe.floor_eq rfl
    rw [houtcome]
    exact ⟨hframe.hold_eq rfl, hframe.effective_eq rfl, hframe.computed_eq rfl, hfloor⟩
  · intro s i
    refine ⟨autocloseTest_eq_self, fun hcalled hfree hlead hi => ?_⟩
    obtain ⟨hrecord, hserial⟩ := autocloseTest_placed hcalled hfree hi hlead
    exact ⟨hrecord, hserial, rfl, rfl, rfl, rfl, rfl, rfl, rfl, rfl, rfl⟩

end Sys2Proof.Machine
end

section
/-! PROOF. The requests of the hazard unit, seen from the commands that make them (R50 to R52, R54): what the autoclose test
leaves stays true through the reports that follow it, and a bring-forward or a lift goes record by record. -/

namespace Sys2Proof.Machine

open Sys2Proof

variable {s t u : State}

/-! ## What the autoclose test leaves -/

/-- R49, R50: one of the conditions of the test fails, or the register is without room. -/
def State.Tested (t : State) : Prop :=
  t.register.full = true ∨ t.phase ≠ .running ∨ t.hazard.hold ≠ none
    ∨ (∀ l : Nat, t.config.autoclose = some l → max t.hazard.computed t.hazard.floorLevel < l)
    ∨ ∃ j q, t.recordAt j = some q ∧ q.own = true ∧ q.kind = .avalanche ∧ q.state ≠ .lifted

/-- The parts the conditions of the test are read from. -/
def Part.testRead : List Part := [.settings, .registerFull, .hold, .computation, .floor]

theorem State.Tested.of_frame {qs : List Part} (h : s.Tested) (hf : Frame qs s t) (hd : Part.apart Part.testRead qs = true)
    (hrecords : ∀ j q, s.recordAt j = some q → q.own = true → q.kind = .avalanche → q.state ≠ .lifted →
      ∃ p, t.recordAt j = some p ∧ p.own = true ∧ p.kind = .avalanche ∧ p.state ≠ .lifted) : t.Tested := by
  have hfull : s.register.full = t.register.full := hf.keeps hd (p := .registerFull) (by simp [Part.testRead])
  have hhold : s.hazard.hold = t.hazard.hold := hf.keeps hd (p := .hold) (by simp [Part.testRead])
  obtain ⟨-, -, -, -, -, -, hcomputed⟩ := hf.keeps hd (p := .computation) (by simp [Part.testRead])
  obtain ⟨hfloor, -⟩ := hf.keeps hd (p := .floor) (by simp [Part.testRead])
  obtain ⟨hphase, hconfig, -⟩ := hf.settings_eq (Part.not_mem_of_apart hd (p := .settings) (by simp [Part.testRead]))
  unfold State.Tested at h ⊢
  rw [← hfull, ← hhold, ← hcomputed, ← hfloor, hphase, hconfig]
  rcases h with h | h | h | h | ⟨j, q, hq, hown, hkind, hstate⟩
  · exact .inl h
  · exact .inr (.inl h)
  · exact .inr (.inr (.inl h))
  · exact .inr (.inr (.inr (.inl h)))
  · obtain ⟨p, hp⟩ := hrecords j q hq hown hkind hstate
    exact .inr (.inr (.inr (.inr ⟨j, p, hp⟩)))

/-- A report of what has changed leaves the conditions. -/
theorem State.Tested.of_report {qs : List Part} (h : s.Tested) (hf : Frame qs s t)
    (hd : Part.apart (.slots :: Part.testRead) qs = true) : t.Tested := by
  have hslots : s.register.slots = t.register.slots := hf.keeps hd (p := .slots) (by simp)
  have hd' : Part.apart Part.testRead qs = true := by
    unfold Part.apart at hd
    rw [List.all_cons, Bool.and_eq_true] at hd
    exact hd.2
  exact h.of_frame hf hd' fun j q hq ho hk hs => ⟨q, (recordAt_congr hslots.symm j).trans hq, ho, hk, hs⟩

theorem ClosureRecord.brought_own (r : ClosureRecord) : r.brought.own = r.own ∧ r.brought.kind = r.kind := by
  unfold ClosureRecord.brought
  split <;> exact ⟨rfl, rfl⟩

theorem ClosureRecord.brought_lifted {r : ClosureRecord} (h : r.state ≠ .lifted) : r.brought.state ≠ .lifted := by
  unfold ClosureRecord.brought
  split
  · exact nofun
  · exact h

/-- R51: a bring-forward leaves every own AVALANCHE record standing. -/
theorem State.Tested.bringForward (h : s.Tested) : (bringForward s).Tested := by
  by_cases hc : s.phase = .running ∧ s.hazard.computed = 5
  · refine h.of_frame (frame_bringForward_slots s) rfl fun j q hq hown hkind hstate => ?_
    rw [recordAt_bringForward hc, hq]
    split
    · exact ⟨_, rfl, q.brought_own.1.trans hown, q.brought_own.2.trans hkind, q.brought_lifted hstate⟩
    · exact ⟨q, rfl, hown, hkind, hstate⟩
  · rw [bringForward_eq_self hc]
    exact h

/-- R95, R112: a request finds room, and its record stands, or REGISTER-FULL is set. -/
theorem originate_cases (s : State) : (∃ t, originate s = (t, false) ∧ t.register.full = true)
    ∨ ∃ t j, originate s = (t, true) ∧ t.recordAt j = some s.autocloseRecord.settled := by
  cases hr : admitRecord s.autocloseRecord s with
  | mk t placed =>
    unfold originate
    dsimp only
    rw [show s.ownRecord .avalanche s.config.segmentHalf .announced s.config.announceLead = s.autocloseRecord from rfl, hr]
    cases placed with
    | true =>
      obtain ⟨j, hj⟩ := admitRecord_held hr
      refine .inr ⟨_, j, rfl, ?_⟩
      rw [recordAt_queueOwn]
      exact hj
    | false =>
      refine .inl ⟨t, rfl, ?_⟩
      cases hfree : freeIndex 0 s.register.slots with
      | some i => rw [admitRecord_of_free hfree] at hr; cases hr
      | none =>
        cases hevict : s.evictIndex s.autocloseRecord with
        | some i => rw [admitRecord_of_evicted hfree hevict] at hr; cases hr
        | none =>
          rw [admitRecord_of_full hfree hevict] at hr
          cases hr
          exact full_setFull true s

theorem settled_autocloseRecord (s : State) : s.autocloseRecord.settled.own = true
    ∧ s.autocloseRecord.settled.kind = .avalanche ∧ s.autocloseRecord.settled.state ≠ .lifted := by
  rw [settled_eq]
  refine ⟨rfl, rfl, ?_⟩
  dsimp only
  split <;> exact nofun

/-- R49, R50: after the test one of its conditions fails, or the register is without room. -/
theorem tested_autocloseTest (s : State) : (autocloseTest s).Tested := by
  by_cases hcalled : s.Called
  · rw [autocloseTest_of_called hcalled]
    rcases originate_cases s with ⟨t, hr, hfull⟩ | ⟨t, j, hr, hj⟩
    · rw [hr]
      exact .inl hfull
    · rw [hr]
      obtain ⟨hown, hkind, hstate⟩ := settled_autocloseRecord s
      exact State.Tested.bringForward (.inr (.inr (.inr (.inr ⟨j, _, hj, hown, hkind, hstate⟩))))
  · rw [autocloseTest_eq_self hcalled]
    by_cases hphase : s.phase = .running
    · by_cases hhold : s.hazard.hold = none
      · by_cases hrecords : ∀ j r, s.recordAt j = some r → r.own = true → r.kind = .avalanche → r.state = .lifted
        · refine .inr (.inr (.inr (.inl fun l hl => ?_)))
          by_contra hle
          refine hcalled ⟨by rw [hl]; exact nofun, fun k hk => ?_, hrecords, hhold, hphase⟩
          cases hl.symm.trans hk
          omega
        · push Not at hrecords
          obtain ⟨j, q, hq⟩ := hrecords
          exact .inr (.inr (.inr (.inr ⟨j, q, hq⟩)))
      · exact .inr (.inr (.inl hhold))
    · exact .inr (.inl hphase)

/-! ## The commands that make the test -/

theorem tested_evaluateHazard (b : Bool) (s : State) : (evaluateHazard b s).Tested := by
  rw [evaluateHazard_eq]
  have hrequested : (requested b (publish s)).Tested := by
    unfold requested
    dsimp only
    split
    · exact (tested_autocloseTest _).bringForward
    · next h =>
      refine .inr (.inl ?_)
      have hlift : Frame (.liftCounter :: Part.ofRecords) (publish s)
          (if b && decide ((publish s).phase = .running) then countLift (publish s) else publish s) := Frame.guard (frame_countLift _)
      rw [hlift.phase_eq rfl]
      exact h
  exact hrequested.of_report (frame_reportEvaluation _ _) rfl

theorem tested_runningEntry (h : s.phase = .settling ∧ 70 ≤ s.now) : (outcome .runningEntry s).Tested := by
  rw [runningEntry_eq h]
  exact (tested_autocloseTest _).bringForward.of_report (frame_reportRecords _) rfl

theorem tested_applyFloor (level minutes : Nat) (s : State) :
    (applyFloor level minutes s).hazard.floorLevel = s.hazard.floorLevel ∨ (applyFloor level minutes s).Tested := by
  unfold applyFloor
  dsimp only
  generalize (if decide (level = 0 ∨ minutes = 0) = true then 0 else min level 5) = l
  split
  · next h => exact .inl h
  · exact .inr (tested_autocloseTest _)

/-- R44: a heard FLOOR of a control station that is meant for this one is applied. -/
theorem outcome_floorReceived {h : FrameHeader} {b : FloorBody} (hphase : s.phase.operating = true) (hheard : Heard h s)
    (hcontrol : s.isControl h.source = true) (htarget : b.target = 0#8 ∨ b.target = s.startup.address) :
    ∃ u, Frame Part.ofFrame s u ∧ outcome (.floorReceived h b) s = applyFloor b.level.toNat b.minutes.toNat u := by
  obtain ⟨u, hu, hserved⟩ := receiveFrame_of_heard hheard (fun p => p) (serveFloor h.source b)
  refine ⟨u, hu, ?_⟩
  obtain ⟨hup, huc, hua⟩ := hu.settings_eq (by decide)
  have happlies : (u.isControl h.source && u.targeted b.target && u.phase.operating) = true := by
    rw [isControl_congr hup huc, hcontrol, State.targeted, hua, decide_eq_true htarget, hup, hphase]
    rfl
  calc outcome (.floorReceived h b) s = receiveFrame h (fun p => p) (serveFloor h.source b) s := rfl
    _ = applyFloor b.level.toNat b.minutes.toNat u := by rw [hserved, serveFloor, if_pos happlies]

theorem outcome_durationExpiry {i : Nat} {r : ClosureRecord} (hphase : s.phase.operating = true) (hr : s.recordAt i = some r)
    (hstate : r.state = .inForce) (hzero : r.duration = some 0) :
    outcome (.durationExpiry i) s = tellHazard false r { r with state := .lifted, duration := none, display := 600 }
      (storeRecord i { r with state := .lifted, duration := none, display := 600 }
        (queueOwn { r with state := .lifted, duration := none, display := 600 } s)) := by
  have hcond : (s.phase.operating && decide (r.state = .inForce ∧ r.duration = some 0)) = true := by
    rw [hphase, hstate, hzero]
    rfl
  change (match s.recordAt i with | some r => _ | none => _) = _
  rw [hr]
  exact if_pos hcond

theorem outcome_liftedDisplayExpiry {i : Nat} {r : ClosureRecord} (hphase : s.phase.operating = true) (hr : s.recordAt i = some r)
    (hstate : r.state = .lifted) (hzero : r.display = 0) : outcome (.liftedDisplayExpiry i) s = removeRecord i r s := by
  have hcond : (s.phase.operating && decide (r.state = .lifted ∧ r.display = 0)) = true := by
    rw [hphase, hstate, hzero]
    rfl
  change (match s.recordAt i with | some r => _ | none => _) = _
  rw [hr]
  exact if_pos hcond

theorem tested_removeRecord {i : Nat} {r : ClosureRecord}
    (h : s.register.full = true ∨ (r.own = true ∧ r.kind = .avalanche)) : (removeRecord i r s).Tested := by
  unfold removeRecord
  dsimp only
  rw [if_pos]
  · exact tested_autocloseTest _
  · rcases h with h | ⟨hown, hkind⟩
    · rw [h, Bool.true_or]
    · rw [hown, hkind]
      exact Bool.or_true _

/-! ## Bringing forward and lifting -/

/-- R49: the test moves no own AVALANCHE record; one that is ANNOUNCED fails its conditions. -/
theorem recordAt_autocloseTest_of_own {j : Nat} {r : ClosureRecord} (h : s.recordAt j = some r) (hown : r.own = true)
    (hkind : r.kind = .avalanche) : (autocloseTest s).recordAt j = some r := by
  by_cases hstate : r.state = .announced
  · rw [autocloseTest_eq_self]
    · exact h
    · rintro ⟨-, -, hrecords, -, -⟩
      rw [hrecords j r h hown hkind] at hstate
      cases hstate
  · exact autocloseTest_keeps_own h hown hstate

/-- R51: what a bring-forward leaves of the own AVALANCHE records of `s`. -/
def BroughtForward (s t : State) : Prop := t.hazard.computed = 5 → t.phase = .running →
  (∀ j q, t.recordAt j = some q → q.own = true → q.kind = .avalanche → q.state ≠ .announced)
    ∧ (∀ j r, s.recordAt j = some r → r.own = true → r.kind = .avalanche →
        t.recordAt j = some (if r.state = .announced
          then { r with state := .inForce, lead := 0, revision := r.revision + 1 } else r))

theorem ClosureRecord.brought_eq {r : ClosureRecord} (hown : r.own = true) (hkind : r.kind = .avalanche) :
    r.brought = if r.state = .announced then { r with state := .inForce, lead := 0, revision := r.revision + 1 } else r := by
  simp only [ClosureRecord.brought, hown, hkind, true_and]

/-- R50, R51: the test and the bring-forward that follows it, as `t` shows them at the end. -/
theorem broughtForward_of_test (hslots : u.register.slots = s.register.slots)
    (hs : RegisterLaw s) (ht : RegisterLaw t) (hframe : Frame Part.ofGates (bringForward (autocloseTest u)) t) : BroughtForward s t := by
  intro hcomputed hphase
  have hforward : Frame (.slots :: Part.ofGates) (autocloseTest u) t :=
    (frame_bringForward_slots _).trans (hframe.widen rfl)
  have hcond : (autocloseTest u).phase = .running ∧ (autocloseTest u).hazard.computed = 5 :=
    ⟨(hforward.phase_eq rfl).symm.trans hphase, (hforward.computed_eq rfl).symm.trans hcomputed⟩
  obtain ⟨hslength, -, -⟩ := (registerLaw_iff s).mp hs
  obtain ⟨htlength, -, -⟩ := (registerLaw_iff t).mp ht
  have hsix : ∀ j, t.recordAt j = if j < 16 then ((autocloseTest u).recordAt j).map ClosureRecord.brought
      else (autocloseTest u).recordAt j := fun j =>
    (recordAt_congr (hframe.slots_eq (by decide)) j).trans (recordAt_bringForward hcond j)
  refine ⟨fun j q hq hown hkind => ?_, fun j r hr hown hkind => ?_⟩
  · have hj : j < 16 := htlength ▸ lt_length_of_recordAt hq
    rw [hsix j, if_pos hj] at hq
    obtain ⟨p, -, rfl⟩ := Option.map_eq_some_iff.mp hq
    rw [p.brought_own.1] at hown
    rw [p.brought_own.2] at hkind
    rw [ClosureRecord.brought_eq hown hkind]
    split
    · exact nofun
    · assumption
  · have hheld : (autocloseTest u).recordAt j = some r :=
      recordAt_autocloseTest_of_own ((recordAt_congr hslots j).trans hr) hown hkind
    have hj : j < 16 := hslength ▸ lt_length_of_recordAt hr
    rw [hsix j, if_pos hj, hheld, Option.map_some, ClosureRecord.brought_eq hown hkind]

theorem broughtForward_hourClose (hs : RegisterLaw s) (h : s.hourDue = true) : BroughtForward s (outcome .hourClose s) := by
  have hlaw := registerLaw_outcome .hourClose s hs
  rw [hourClose_eq h, evaluateHazard_eq] at hlaw ⊢
  intro hcomputed hphase
  have hpublished : Frame [.clock, .channels, .ring, .partialPending, .computation, .hold, .effective] s (publish (insertHour s)) :=
    ((frame_insertHour s).widen rfl).trans ((frame_publish _).widen rfl)
  have hreported := frame_reportEvaluation (insertHour s).hazard (requested true (publish (insertHour s)))
  have hsince : Frame (.liftCounter :: Part.ofRecords) (publish (insertHour s)) _ :=
    (frame_requested true _).trans (hreported.widen rfl)
  have hrunning : (publish (insertHour s)).phase = .running := (hsince.phase_eq rfl).symm.trans hphase
  have hfive : (publish (insertHour s)).hazard.computed = 5 := (hsince.computed_eq rfl).symm.trans hcomputed
  generalize publish (insertHour s) = v at *
  have hrequested : requested true v = bringForward (autocloseTest (v.withLiftCounter 0)) := by
    unfold requested
    dsimp only
    rw [if_pos hrunning, hrunning, countLift_eq, hfive]
    rfl
  rw [hrequested] at hreported hlaw hcomputed hphase ⊢
  exact broughtForward_of_test (u := v.withLiftCounter 0) (hpublished.slots_eq (by decide)) hs hlaw
    (hreported.widen rfl) hcomputed hphase

theorem broughtForward_runningEntry (hs : RegisterLaw s) (h : s.phase = .settling ∧ 70 ≤ s.now) :
    BroughtForward s (outcome .runningEntry s) := by
  have hlaw := registerLaw_outcome .runningEntry s hs
  rw [runningEntry_eq h] at hlaw ⊢
  refine broughtForward_of_test (u := restartWalker (raiseSerial (s.withStartup { s.startup with phase := .running }))) ?_ hs hlaw
    (frame_reportRecords _)
  exact ((frame_restartWalker _).slots_eq (by decide)).trans ((frame_raiseSerial _).slots_eq (by decide))

/-- R112: the record the hazard unit's lift leaves. -/
def ClosureRecord.liftedByHazard (r : ClosureRecord) : ClosureRecord :=
  if r.own = true ∧ r.kind = .avalanche ∧ r.state ≠ .lifted then
    { r with state := .lifted, lead := 0, revision := r.revision + 1, display := 600 }
  else r

/-- At levels up to 2, with autoclose from level 4 on, the test does not hold (R49). -/
def LowLevels (s : State) : Prop :=
  s.hazard.computed ≤ 2 ∧ s.hazard.floorLevel ≤ 2 ∧ ∀ l : Nat, s.config.autoclose = some l → 4 ≤ l

theorem LowLevels.not_called (h : LowLevels s) : ¬ s.Called := by
  obtain ⟨hcomputed, hfloor, hclose⟩ := h
  rintro ⟨hsome, hlevel, -⟩
  obtain ⟨l, hl⟩ := Option.ne_none_iff_exists'.mp hsome
  have h1 := hlevel l hl
  have h2 := hclose l hl
  omega

theorem LowLevels.of_frame {qs : List Part} (h : LowLevels s) (hf : Frame qs s t)
    (hd : Part.apart [.settings] qs = true) (hc : Part.apart [.computation] qs = true) (hl : Part.apart [.floor] qs = true) :
    LowLevels t := by
  unfold LowLevels
  rw [hf.computed_eq hc, (hf.floor_eq hl).1, hf.config_eq hd]
  exact h

theorem recordAt_liftAt (j : Nat) (h : LowLevels s) (k : Nat) : (liftAt j s).recordAt k
    = if k = j then (s.recordAt j).map ClosureRecord.liftedByHazard else s.recordAt k := by
  unfold liftAt
  cases hr : s.recordAt j with
  | none =>
    dsimp only
    split
    · next hk => rw [hk, hr]; rfl
    · rfl
  | some r =>
    dsimp only
    have hstanding : r.standingAvalanche = true ↔ r.own = true ∧ r.kind = .avalanche ∧ r.state ≠ .lifted := by
      rw [ClosureRecord.standingAvalanche, Bool.and_eq_true, decide_eq_true_eq]
    rw [Option.map_some, ClosureRecord.liftedByHazard]
    by_cases hcond : r.own = true ∧ r.kind = .avalanche ∧ r.state ≠ .lifted
    · rw [if_pos (hstanding.mpr hcond), if_pos hcond]
      generalize { r with state := ClosureState.lifted, lead := 0, revision := r.revision + 1, display := 600 } = q
      have hframe : Frame (.slots :: Part.ofGates) s (storeRecord j q (queueOwn q s)) :=
        ((frame_queueOwn q s).widen rfl).trans (frame_storeRecord _ _ _)
      rw [autocloseTest_eq_self (h.of_frame hframe rfl rfl rfl).not_called]
      by_cases hk : k = j
      · subst hk
        rw [if_pos rfl, recordAt_storeRecord_same ((recordAt_queueOwn _ s k).trans hr)]
      · rw [if_neg hk, recordAt_storeRecord_of_ne hk, recordAt_queueOwn]
    · rw [if_neg (mt hstanding.mp hcond), if_neg hcond]
      split
      · next hk => rw [hk, hr]
      · rfl

/-- R52: the second quiet hour close in RUNNING lifts every own AVALANCHE record that stands. -/
theorem recordAt_quietHour (hs : RegisterLaw s) (hdue : s.hourDue = true) (hphase : s.phase = .running)
    (hfloor : s.hazard.floorLevel ≤ 2) (hcomputed : (compute s.config (s.retained.insert s.hourRecord) s.hazard).computed ≤ 2)
    (hlift : 1 ≤ s.hazard.liftCounter) (hclose : ∀ l : Nat, s.config.autoclose = some l → 4 ≤ l) {j : Nat} {r : ClosureRecord}
    (hr : s.recordAt j = some r) : (outcome .hourClose s).recordAt j = some r.liftedByHazard := by
  obtain ⟨hlength, -, -⟩ := (registerLaw_iff s).mp hs
  have hpublished : Frame [.clock, .channels, .ring, .partialPending, .computation, .hold, .effective] s (publish (insertHour s)) :=
    ((frame_insertHour s).widen rfl).trans ((frame_publish _).widen rfl)
  have hpub : (publish (insertHour s)).hazard.computed ≤ 2 := by
    rw [publish_hazard, insertHour_retained, (frame_insertHour s).config_eq rfl, (frame_insertHour s).hazard_eq rfl]
    exact hcomputed
  have hcount : (publish (insertHour s)).hazard.liftCounter = s.hazard.liftCounter := hpublished.liftCounter_eq rfl
  have hpf : (publish (insertHour s)).hazard.floorLevel = s.hazard.floorLevel := (hpublished.floor_eq rfl).1
  have hslots := hpublished.slots_eq (by decide)
  have hrun : (publish (insertHour s)).phase = .running := (hpublished.phase_eq rfl).trans hphase
  have hconfig := hpublished.config_eq rfl
  rw [hourClose_eq hdue, evaluateHazard_eq, recordAt_congr ((frame_reportEvaluation _ _).slots_eq (by decide))]
  generalize publish (insertHour s) = v at *
  have hlow : LowLevels (v.withLiftCounter 0) := ⟨hpub, hpf ▸ hfloor, fun l hl => hclose l (hconfig ▸ hl)⟩
  have hcountLift : countLift v = forIndices liftAt (v.withLiftCounter 0) := by
    rw [countLift_eq, if_pos]
    rw [if_pos ⟨hpub, hpf ▸ hfloor⟩, hcount]
    omega
  have hlowLifted : LowLevels (forIndices liftAt (v.withLiftCounter 0)) :=
    forIndices_keeps (fun j t ht => ht.of_frame (frame_liftAt j t) rfl rfl rfl) hlow
  have hrequested : requested true v = forIndices liftAt (v.withLiftCounter 0) := by
    unfold requested
    dsimp only
    rw [if_pos hrun, hrun, Bool.true_and, decide_eq_true rfl, if_pos rfl, hcountLift, autocloseTest_eq_self hlowLifted.not_called,
      bringForward_eq_self]
    rintro ⟨-, h5⟩
    have := hlowLifted.1
    omega
  rw [hrequested, recordAt_forIndices (fun j t ht => ht.of_frame (frame_liftAt j t) rfl rfl rfl)
    (fun j t ht => recordAt_liftAt j ht) hlow, if_pos (hlength ▸ lt_length_of_recordAt hr)]
  rw [show (v.withLiftCounter 0).recordAt j = some r from (recordAt_congr hslots j).trans hr]
  rfl

/-- Settles O33: each command that must make the autoclose test ends in it, up to reports that its conditions do not read;
bring-forward and lift are followed record by record. -/
theorem requestsReachTheRegister : Obligations.RequestsReachTheRegister := by
  refine ⟨fun s i r h b => ⟨?_, ?_, ?_, ?_, ?_, ?_, ?_, ?_⟩, fun s hs => ⟨?_, ?_⟩, ?_⟩
  · intro hdue
    rw [completes_iff, hourClose_eq hdue]
    exact tested_evaluateHazard true _
  · intro hphase hnow
    rw [completes_iff]
    exact tested_runningEntry ⟨hphase, hnow⟩
  · intro hphase hhold
    rw [completes_iff, show outcome .overrideHoldExpiry s = autocloseTest (s.withHazard { s.hazard with hold := none }) from
      if_pos (by rw [hphase, hhold]; rfl)]
    exact tested_autocloseTest _
  · intro hphase hlevel hzero
    rw [completes_iff, show outcome .operatorFloorExpiry s
      = autocloseTest (recomputeEffective (s.withHazard { s.hazard with floorLevel := 0 })) from
      if_pos (by rw [hphase, Bool.true_and]; exact decide_eq_true ⟨hlevel, hzero⟩)]
    exact tested_autocloseTest _
  · intro hphase hheard hcontrol htarget
    rw [completes_iff]
    obtain ⟨u, hu, houtcome⟩ := outcome_floorReceived (b := b) hphase hheard hcontrol htarget
    rw [houtcome, ← (hu.floor_eq rfl).1]
    exact tested_applyFloor _ _ u
  · intro hphase hr hown hkind
    refine ⟨fun hstate hzero => ?_, fun hstate hzero => ?_⟩
    · have hstanding : r.standingAvalanche = true := by
        simp [ClosureRecord.standingAvalanche, hown, hkind, hstate]
      rw [completes_iff, outcome_durationExpiry hphase hr hstate hzero, tellHazard, if_pos (by rw [hstanding]; rfl)]
      exact tested_autocloseTest _
    · rw [completes_iff, outcome_liftedDisplayExpiry hphase hr hstate hzero]
      exact tested_removeRecord (.inr ⟨hown, hkind⟩)
  · intro hphase hfull hr hstate hzero
    rw [completes_iff, outcome_liftedDisplayExpiry hphase hr hstate hzero]
    exact tested_removeRecord (.inl hfull)
  · intro b c hphase hheard hcontrol hc hf hown hkind hstate hlift hd hk hcomputed
    rw [completes_iff]
    obtain ⟨u, hu, houtcome⟩ := outcome_controlLift hphase hheard hcontrol hc hf hown hkind hstate hlift hd hk
    rw [houtcome]
    refine ⟨?_, tested_autocloseTest _⟩
    have hcontrolLift : controlLift u = autocloseTest (u.withHazard { u.hazard with hold := none }) :=
      if_pos ((hu.computed_eq rfl).trans hcomputed)
    rw [(frame_autocloseTest _).hold_eq rfl, hcontrolLift, (frame_autocloseTest _).hold_eq rfl]
    rfl
  · intro hdue
    rw [completes_iff]
    exact broughtForward_hourClose hs hdue
  · intro hphase hnow
    rw [completes_iff]
    exact broughtForward_runningEntry hs ⟨hphase, hnow⟩
  · intro s hs hdue hphase hfloor hcomputed hlift hclose
    rw [completes_iff]
    refine ⟨?_, fun j r hr => recordAt_quietHour hs hdue hphase hfloor hcomputed hlift hclose hr⟩
    obtain ⟨-, -, -, -, -, -, -, -, -, hcount⟩ := completes_iff.mp (hourClose_results hdue)
    rw [hcount, if_pos hphase, if_pos]
    rw [if_pos ⟨hcomputed, hfloor⟩]
    omega

end Sys2Proof.Machine
end

section
/-! PROOF. The end of the configuration read (R178 to R182, R186): what CONFIG-FAULT shows, and what JOINING starts with. -/

namespace Sys2Proof.Machine

open Sys2Proof

variable {s t u : State}

/-! ## Blocks that a frame leaves whole -/

theorem Frame.retained_eq {qs : List Part} (h : Frame qs s t)
    (hd : Part.apart [.ring, .histories, .ownSerial, .retainedMarks] qs = true) : t.retained = s.retained := by
  obtain ⟨hrecords, hcount, hserial⟩ := h.keeps hd (p := .ring) (by simp)
  obtain ⟨hclosing, hopening⟩ := h.keeps hd (p := .histories) (by simp)
  have hown : s.retained.ownSerial = t.retained.ownSerial := h.keeps hd (p := .ownSerial) (by simp)
  obtain ⟨hchecksum, hintegrity⟩ := h.keeps hd (p := .retainedMarks) (by simp)
  cases hx : s.retained; cases hy : t.retained
  simp_all

theorem Frame.startup_eq {qs : List Part} (h : Frame qs s t) (hd : Part.apart [.settings, .quiet] qs = true) :
    t.startup = s.startup := by
  have hsettings := h.keeps hd (p := .settings) (by simp)
  obtain ⟨hquiet, htimer⟩ := h.keeps hd (p := .quiet) (by simp)
  unfold Part.agree at hsettings
  cases hx : s.startup; cases hy : t.startup
  simp_all

/-! ## CONFIG-FAULT -/

theorem outcome_configurationReadEnd_faulty {arrived : List Byte} {image : Option (List Byte)} {b : Bool}
    (h : s.phase = .configRead) (hread : readEnd s.startup.address arrived = .faulty image b) :
    outcome (.configurationReadEnd arrived) s = enterConfigFault image b s := by
  rw [show outcome (.configurationReadEnd arrived) s = _ from if_pos h, hread]

theorem outcome_configurationReadEnd_usable {arrived image : List Byte} {b : Bool} {x : Word16}
    (h : s.phase = .configRead) (hread : readEnd s.startup.address arrived = .usable image b x) :
    outcome (.configurationReadEnd arrived) s = enterJoining image b x s := by
  rw [show outcome (.configurationReadEnd arrived) s = _ from if_pos h, hread]

/-- R186: CONFIG-FAULT as it is entered, before an ANNOUNCE is queued. -/
def faultedStart (image : Option (List Byte)) (b : Bool) (s : State) : State :=
  startLineAndClock (s.withStartup { s.startup with phase := .configFault, image := image, substituted := b })

theorem enterConfigFault_of_mute {image : Option (List Byte)} {b : Bool} (h : s.startup.address = 0#8) :
    enterConfigFault image b s = faultedStart image b s := if_pos h

/-- R186, R93: an ANNOUNCE is queued and its timer started. -/
theorem enterConfigFault_speaks (image : Option (List Byte)) (b : Bool) (h : s.startup.address ≠ 0#8) :
    (enterConfigFault image b s).phase = .configFault
      ∧ (enterConfigFault image b s).startup.image = image
      ∧ (enterConfigFault image b s).startup.substituted = b
      ∧ (enterConfigFault image b s).line.queue = enqueue .announce s.line.queue
      ∧ (enterConfigFault image b s).peers.announceTimer = some 0
      ∧ (enterConfigFault image b s).retained = s.retained
      ∧ (enterConfigFault image b s).now = 0
      ∧ (enterConfigFault image b s).line.receiver = .hunting := by
  rw [show enterConfigFault image b s = present .announce ((faultedStart image b s).withPeers
    { (faultedStart image b s).peers with announceTimer := some 0 }) from if_neg h]
  obtain ⟨w, d, hpresent⟩ := present_eq .announce ((faultedStart image b s).withPeers
    { (faultedStart image b s).peers with announceTimer := some 0 })
  rw [hpresent]
  exact ⟨rfl, rfl, rfl, rfl, rfl, rfl, rfl, rfl⟩

theorem imageOf_of_length {arrived : List Byte} (h : arrived.length = 128) : imageOf arrived = arrived :=
  List.take_left' h

/-- Settles O18: each way a read can end unusable is a branch of `readEnd`. -/
theorem faultyReadEntersConfigFault : Obligations.FaultyReadEntersConfigFault := by
  intro s arrived hphase
  refine ⟨fun haddr => ?_, fun haddr hbad => ?_, fun haddr hlength hsum hcontrol => ?_⟩
  · have hread : readEnd s.startup.address arrived = .faulty none false := if_pos haddr
    rw [completes_iff, outcome_configurationReadEnd_faulty hphase hread, enterConfigFault_of_mute haddr]
    exact ⟨rfl, rfl, rfl, rfl, rfl, rfl, rfl⟩
  · have hread : readEnd s.startup.address arrived = .faulty (some (imageOf arrived)) false := by
      unfold readEnd
      dsimp only
      rw [if_neg haddr]
      by_cases hshort : arrived.length < 128
      · exact if_pos hshort
      · rw [if_neg hshort]
        exact if_pos (hbad.resolve_left hshort)
    rw [completes_iff, outcome_configurationReadEnd_faulty hphase hread]
    obtain ⟨h1, h2, h3, h4, h5, h6, h7, h8⟩ := enterConfigFault_speaks (some (imageOf arrived)) false haddr
    exact ⟨h1, h2, h3, h4, h5, h6, h7, h8⟩
  · have hread : readEnd s.startup.address arrived
        = .faulty (some (substituteValues arrived).1) (substituteValues arrived).2 := by
      unfold readEnd
      dsimp only
      rw [imageOf_of_length hlength, if_neg haddr, if_neg (by omega), if_neg (show ¬ imageWord arrived 0x7E ≠ imageChecksum arrived from not_not_intro hsum)]
      exact if_pos hcontrol
    rw [completes_iff, outcome_configurationReadEnd_faulty hphase hread]
    obtain ⟨h1, -, -, h4, h5, h6, h7, -⟩ :=
      enterConfigFault_speaks (some (substituteValues arrived).1) (substituteValues arrived).2 haddr
    exact ⟨h1, h4, h5, h6, h7⟩

/-! ## JOINING -/

/-- R182: what an evaluation at the entry to JOINING leaves alone, and what it computes. -/
theorem enterJoining_spec (img : List Byte) (sub : Bool) (ck : Word16) (s : State) :
    Frame ([.computation, .hold, .effective] ++ Part.ofPresent) (joiningBlocks img sub ck s) (enterJoining img sub ck s)
      ∧ (enterJoining img sub ck s).hazard.computed = (compute (configOf img) (joiningBlocks img sub ck s).retained s.hazard).computed
      ∧ (enterJoining img sub ck s).hazard.degraded
        = (compute (configOf img) (joiningBlocks img sub ck s).retained s.hazard).degraded := by
  rw [enterJoining_eq]
  have hafter := frame_afterPublish false (joiningBlocks img sub ck s)
  obtain ⟨-, -, -, -, -, hdegraded, -⟩ := hafter.keeps (qs := [.computation]) rfl (p := .computation) (by simp)
  refine ⟨frame_evaluateHazard_joining rfl, ?_, ?_⟩
  · rw [hafter.computed_eq rfl, publish_hazard]
    rfl
  · rw [← hdegraded, publish_hazard]
    rfl

/-! ## Retained memory -/

theorem judgeRetained_valid {warm : Bool} {m : Retained} {ck : Word16} (hwarm : warm = true) (hintegrity : m.integrity = true)
    (hck : m.checksum = ck) : judgeRetained warm m ck = m.checkRing := by
  have hvalid : retainedValid warm m ck = true := by
    rw [retainedValid, hwarm, hintegrity, hck]
    exact decide_eq_true rfl
  rw [judgeRetained, if_pos hvalid, ← hck, ← hintegrity]

theorem judgeRetained_invalid {warm : Bool} {m : Retained} {ck : Word16}
    (h : warm = false ∨ m.integrity = false ∨ m.checksum ≠ ck) :
    judgeRetained warm m ck = { Retained.lost with checksum := ck, integrity := true } := by
  have hvalid : retainedValid warm m ck = false := by
    rw [retainedValid]
    rcases h with h | h | h
    · rw [h]; rfl
    · rw [h, Bool.and_false]; rfl
    · rw [decide_eq_false h, Bool.and_false]
  rw [judgeRetained, hvalid]
  rfl

theorem checksum_judgeRetained (warm : Bool) (m : Retained) (ck : Word16) : (judgeRetained warm m ck).checksum = ck := by
  unfold judgeRetained Retained.checkRing
  split
  · split <;> rfl
  · rfl

/-- R33: serials fall by one from the one before them. -/
theorem serialsFall_iff (next : Word16) (l : List HourRecord) : serialsFall next l = true ↔
    (∀ r, l[0]? = some r → r.serial = next - 1)
      ∧ ∀ p r q, l[p]? = some r → l[p + 1]? = some q → q.serial = r.serial - 1 := by
  have hpred : ∀ a b : Word16, a + 1 = b ↔ a = b - 1 := fun a b => eq_sub_iff_add_eq.symm
  induction l generalizing next with
  | nil => simp [serialsFall]
  | cons x rest ih =>
    rw [serialsFall, Bool.and_eq_true, decide_eq_true_eq, hpred]
    refine (and_congr_right fun _ => ih x.serial).trans ?_
    constructor
    · rintro ⟨hx, hfirst, hrest⟩
      refine ⟨fun r hr => ?_, fun p r q hr hq => ?_⟩
      · cases hr
        exact hx
      · cases p with
        | zero => cases hr; exact hfirst q hq
        | succ p => exact hrest p r q hr hq
    · rintro ⟨hfirst, hall⟩
      exact ⟨hfirst x rfl, fun r hr => hall 0 x r rfl hr, fun p r q hr hq => hall (p + 1) r q hr hq⟩

theorem ringOk_records (m : Retained) : m.ringOk = true ↔ m.count ≤ 72 ∧ m.records.length = m.count
    ∧ (∀ r, m.records[0]? = some r → r.serial = m.hourSerial - 1)
    ∧ ∀ p r q, m.records[p]? = some r → m.records[p + 1]? = some q → q.serial = r.serial - 1 := by
  rw [Retained.ringOk, Bool.and_eq_true, decide_eq_true_eq, serialsFall_iff, and_assoc]

/-! ## The blocks JOINING starts with -/

theorem gatesAtStart_state (s : State) (fitted : PerGate Bool) (g : Gate) : ((gatesAtStart s fitted).units.get g).state
    = if fitted.get g = true then s.limitsShow g else GateUnit.reset.state := by
  have hunit : ((gatesAtStart s fitted).units.get g).state
      = (if fitted.get g then gateAtStart s g else GateUnit.reset).state := by cases g <;> rfl
  rw [hunit]
  split
  · exact GateUnit.rest_state _ _
  · rfl

theorem usableRead_joins {arrived img : List Byte} {sub : Bool} {ck : Word16} (hphase : s.phase = .configRead)
    (hread : readEnd s.startup.address arrived = .usable img sub ck) :
    Completes (.configurationReadEnd arrived) s (fun t =>
        t.phase = .joining ∧ t.startup.image = some img ∧ t.config = configOf img ∧ t.now = 0
          ∧ t.startup.substituted = (sub || (channelsAtStart (configOf img).channels s.pins.sense).2)
          ∧ t.channels = (channelsAtStart (configOf img).channels s.pins.sense).1
          ∧ t.slide.state = (if s.pins.contact then .confirming else .armed)
          ∧ t.retained = judgeRetained s.startup.warm s.retained ck ∧ t.retained.checksum = ck
          ∧ t.hazard.computed = (compute (configOf img) t.retained s.hazard).computed
          ∧ t.hazard.degraded = (compute (configOf img) t.retained s.hazard).degraded
          ∧ t.line.receiver = .hunting ∧ t.gates.keyLocal = s.pins.keyLocal
          ∧ (∀ g : Gate, (configOf img).fitted.get g = true →
              (t.gates.units.get g).state = limitsState (s.pins.openLimit.get g) (s.pins.closedLimit.get g))
          ∧ (∀ n : Sign, (t.signs.get n).role = (configOf img).signRoles.get n
              ∧ t.health n = (if (configOf img).signRoles.get n = .notFitted then .notFitted else .untried))) := by
  rw [completes_iff, outcome_configurationReadEnd_usable hphase hread]
  obtain ⟨hframe, hcomputed, hdegraded⟩ := enterJoining_spec img sub ck s
  have hstartup := hframe.startup_eq rfl
  have hretained := hframe.retained_eq rfl
  have hgates := hframe.gates_eq rfl
  have hlink := hframe.link_eq rfl
  have hsigns : (joiningBlocks img sub ck s).signs = (enterJoining img sub ck s).signs :=
    hframe.keeps (qs := [.signs]) rfl (p := .signs) (by simp)
  have hslide : (joiningBlocks img sub ck s).slide = (enterJoining img sub ck s).slide :=
    hframe.keeps (qs := [.slide]) rfl (p := .slide) (by simp)
  have hclock : (joiningBlocks img sub ck s).clock = (enterJoining img sub ck s).clock :=
    hframe.keeps (qs := [.clock]) rfl (p := .clock) (by simp)
  obtain ⟨hreceiver, -⟩ := hframe.keeps (qs := [.receiver]) rfl (p := .receiver) (by simp)
  refine ⟨congrArg Startup.phase hstartup, congrArg Startup.image hstartup, congrArg Startup.config hstartup, ?_,
    congrArg Startup.substituted hstartup, hframe.channels_eq rfl, ?_, hretained, ?_, ?_, ?_, hreceiver.symm,
    congrArg Gates.keyLocal hgates, fun g hg => ?_, fun n => ⟨?_, ?_⟩⟩
  · exact congrArg Clock.time hclock.symm
  · rw [← hslide]
    change (slideAtStart s.pins.contact).state = _
    cases s.pins.contact <;> rfl
  · rw [hretained]
    exact checksum_judgeRetained _ _ _
  · rw [hretained, hcomputed]
  · rw [hretained, hdegraded]
  · rw [hgates]
    change (((gatesAtStart s (configOf img).fitted).units).get g).state = _
    rw [gatesAtStart_state, if_pos hg]
    rfl
  · rw [← hsigns, signs_joiningBlocks]
    rfl
  · rw [State.health, hlink, signLinks_joiningBlocks]
    rfl

/-! ## The channels at the start -/

theorem checkChannel_eq (k : ChannelConfig) (taken : List Role) : checkChannel k taken =
    if compatible k.mode k.role = true ∧ k.role ∉ taken then ((k.mode, k.role), false)
    else ((.off, .none), decide (k.mode ≠ .off)) := by
  unfold checkChannel
  by_cases hoff : k.mode = .off
  · rw [if_pos hoff, if_neg, hoff]
    · rfl
    · rw [hoff]
      exact fun h => Bool.false_ne_true h.1
  · rw [if_neg hoff, decide_eq_true hoff]

theorem compatible_iff (m : ChannelMode) (x : Role) : compatible m x = true ↔
    (m = .rate ∧ (x = .wind ∨ x = .temp)) ∨ (m = .total ∧ x = .precip) ∨ (m = .width ∧ x = .depth) := by
  cases m <;> cases x <;> simp [compatible]

/-- R1, R2: one channel's start, by the roles the lower-numbered ones took. -/
theorem checkChannel_spec (k : ChannelConfig) (taken : List Role) :
    ((checkChannel k taken).2 = true ↔ k.mode ≠ .off ∧ (checkChannel k taken).1.1 = .off)
      ∧ (compatible k.mode k.role = true ∧ k.role ∉ taken → (checkChannel k taken).1 = (k.mode, k.role))
      ∧ (¬ (compatible k.mode k.role = true ∧ k.role ∉ taken) → (checkChannel k taken).1 = (.off, .none)) := by
  rw [checkChannel_eq]
  by_cases h : compatible k.mode k.role = true ∧ k.role ∉ taken
  · rw [if_pos h]
    exact ⟨⟨nofun, fun hoff => absurd hoff.2 hoff.1⟩, fun _ => rfl, fun hn => absurd h hn⟩
  · rw [if_neg h]
    exact ⟨⟨fun hd => ⟨of_decide_eq_true hd, rfl⟩, fun hoff => decide_eq_true hoff.1⟩, fun hy => absurd hy h, fun _ => rfl⟩

/-- The roles of the lower-numbered channels. -/
def rolesBefore (r : PerChan Channel) (c : Chan) : List Role :=
  (Chan.order.take (Chan.order.idxOf c)).map (fun d => (r.get d).role)

theorem mem_take_order (c d : Chan) : d ∈ Chan.order.take (Chan.order.idxOf c) ↔ Chan.order.idxOf d < Chan.order.idxOf c := by
  cases c <;> cases d <;> decide

theorem not_mem_rolesBefore (r : PerChan Channel) (c : Chan) (x : Role) : x ∉ rolesBefore r c ↔
    ∀ d : Chan, Chan.order.idxOf d < Chan.order.idxOf c → (r.get d).role ≠ x := by
  simp only [rolesBefore, List.mem_map, mem_take_order, not_exists, not_and]

theorem channelsAtStart_channel (k : PerChan ChannelConfig) (sense : PerChan Bool) (c : Chan) :
    (channelsAtStart k sense).1.get c
      = channelAtStart (checkChannel (k.get c) (rolesBefore (channelsAtStart k sense).1 c)).1 (sense.get c) := by
  cases c <;> rfl

theorem channelsAtStart_flag (k : PerChan ChannelConfig) (sense : PerChan Bool) : (channelsAtStart k sense).2 = true ↔
    ∃ c : Chan, (checkChannel (k.get c) (rolesBefore (channelsAtStart k sense).1 c)).2 = true := by
  have hor : (channelsAtStart k sense).2 =
      ((checkChannel (k.get .c1) (rolesBefore (channelsAtStart k sense).1 .c1)).2
        || (checkChannel (k.get .c2) (rolesBefore (channelsAtStart k sense).1 .c2)).2
        || (checkChannel (k.get .c3) (rolesBefore (channelsAtStart k sense).1 .c3)).2
        || (checkChannel (k.get .c4) (rolesBefore (channelsAtStart k sense).1 .c4)).2) := rfl
  rw [hor]
  simp only [Bool.or_eq_true]
  constructor
  · rintro (((h | h) | h) | h)
    exacts [⟨_, h⟩, ⟨_, h⟩, ⟨_, h⟩, ⟨_, h⟩]
  · rintro ⟨c, h⟩
    cases c with
    | c1 => exact .inl (.inl (.inl h))
    | c2 => exact .inl (.inl (.inr h))
    | c3 => exact .inl (.inr h)
    | c4 => exact .inr h

/-- R1, R2: every channel runs as it is set, or is OFF. -/
theorem channelsAtStart_spec (k : PerChan ChannelConfig) (sense : PerChan Bool) :
      let r := channelsAtStart k sense
      (r.2 = true ↔ ∃ c : Chan, (k.get c).mode ≠ .off ∧ (r.1.get c).mode = .off)
        ∧ ∀ c : Chan,
          let m := (k.get c).mode
          let x := (k.get c).role
          let runs : Prop := ((m = .rate ∧ (x = .wind ∨ x = .temp)) ∨ (m = .total ∧ x = .precip) ∨ (m = .width ∧ x = .depth))
            ∧ ∀ d : Chan, Chan.order.idxOf d < Chan.order.idxOf c → (r.1.get d).role ≠ x
          (runs → (r.1.get c).mode = m ∧ (r.1.get c).role = x)
            ∧ (¬ runs → (r.1.get c).mode = .off ∧ (r.1.get c).role = .none) := by
  intro r
  have hmode : ∀ c, (r.1.get c).mode = (checkChannel (k.get c) (rolesBefore r.1 c)).1.1 := fun c =>
    congrArg Channel.mode (channelsAtStart_channel k sense c)
  have hrole : ∀ c, (r.1.get c).role = (checkChannel (k.get c) (rolesBefore r.1 c)).1.2 := fun c =>
    congrArg Channel.role (channelsAtStart_channel k sense c)
  refine ⟨?_, fun c => ?_⟩
  · rw [channelsAtStart_flag]
    refine exists_congr fun c => ?_
    rw [hmode c]
    exact (checkChannel_spec _ _).1
  · intro m x runs
    have hruns : runs ↔ compatible m x = true ∧ x ∉ rolesBefore r.1 c :=
      and_congr (compatible_iff m x).symm (not_mem_rolesBefore r.1 c x).symm
    obtain ⟨-, hgood, hbad⟩ := checkChannel_spec (k.get c) (rolesBefore r.1 c)
    rw [hmode c, hrole c, hruns]
    refine ⟨fun h => ?_, fun h => ?_⟩
    · rw [hgood h]
      exact ⟨rfl, rfl⟩
    · rw [hbad h]
      exact ⟨rfl, rfl⟩

end Sys2Proof.Machine
end

section
/-! PROOF. The values in use (R180, R191): every value is judged in its own bytes, so the judgements of the other values leave
it alone, and each is read back as it was, or as its default. -/

namespace Sys2Proof.Machine

open Sys2Proof

/-! ## Bytes of an image -/

theorem imageByte_set_of_ne {img : List Byte} {i off : Nat} (h : off ≠ i) (b : Byte) :
    imageByte (img.set i b) off = imageByte img off := by
  unfold imageByte
  rw [List.getElem?_set_ne (Ne.symm h)]

theorem imageByte_set_self {img : List Byte} {i : Nat} (h : i < img.length) (b : Byte) : imageByte (img.set i b) i = b := by
  unfold imageByte
  rw [List.getElem?_set_self h]
  rfl

theorem joinBytes_hiByte_loByte (x : Word16) : joinBytes (hiByte x) (loByte x) = x := by
  unfold joinBytes hiByte loByte
  ext i hi
  simp only [BitVec.getElem_append, BitVec.getElem_setWidth, BitVec.getLsbD_ushiftRight]
  split
  · exact BitVec.getLsbD_eq_getElem hi
  · rw [show 8 + (i - 8) = i by omega]
    exact BitVec.getLsbD_eq_getElem hi

theorem imageWord_setImageWord {img : List Byte} {i : Nat} (h : i + 1 < img.length) (x : Word16) :
    imageWord (setImageWord img i x) i = x := by
  unfold imageWord setImageWord
  rw [imageByte_set_of_ne (by omega), imageByte_set_self (by omega), imageByte_set_self (by rw [List.length_set]; exact h),
    joinBytes_hiByte_loByte]

/-! ## One value -/

/-- The count of bytes a value stands in. -/
def ValueCheck.size (k : ValueCheck) : Nat := if k.wide then 2 else 1

/-- The bytes a value stands in. -/
def ValueCheck.covers (k : ValueCheck) (off : Nat) : Bool := decide (k.offset ≤ off ∧ off < k.offset + k.size)

/-- The value in use: the one read where it is in its range, and its default where it is not. -/
def ValueCheck.judged (k : ValueCheck) (img : List Byte) : Nat := if k.ok (k.read img) then k.read img else k.default

/-- A value whose default fits its bytes, and whose bytes are in the memory. -/
def ValueCheck.fits (k : ValueCheck) : Bool := decide (k.default < 256 ^ k.size ∧ k.offset + k.size ≤ 128)

theorem ValueCheck.covers_iff {k : ValueCheck} {off : Nat} : k.covers off = true ↔ k.offset ≤ off ∧ off < k.offset + k.size :=
  decide_eq_true_iff

theorem ValueCheck.read_congr {k : ValueCheck} {img jmg : List Byte}
    (h : ∀ off, k.covers off = true → imageByte jmg off = imageByte img off) : k.read jmg = k.read img := by
  cases hw : k.wide with
  | true =>
    have hsize : k.size = 2 := by rw [ValueCheck.size, hw]; rfl
    have h0 := h k.offset (covers_iff.mpr (by omega))
    have h1 := h (k.offset + 1) (covers_iff.mpr (by omega))
    simp only [ValueCheck.read, hw, imageWord, h0, h1]
  | false =>
    have hsize : k.size = 1 := by rw [ValueCheck.size, hw]; rfl
    have h0 := h k.offset (covers_iff.mpr (by omega))
    simp only [ValueCheck.read, hw, h0, Bool.false_eq_true, if_false]

/-- The default replaces a value in its own bytes, and is read back. -/
theorem ValueCheck.apply_out {k : ValueCheck} (hk : k.fits = true) {img : List Byte} (himg : img.length = 128) {b : Bool}
    (hout : k.ok (k.read img) = false) :
    (k.apply (img, b)).1.length = 128
      ∧ (∀ off, k.covers off = false → imageByte (k.apply (img, b)).1 off = imageByte img off)
      ∧ k.read (k.apply (img, b)).1 = k.default ∧ (k.apply (img, b)).2 = true := by
  obtain ⟨hdefault, hoffset⟩ := of_decide_eq_true hk
  have happly : k.apply (img, b)
      = (if k.wide then setImageWord img k.offset (word k.default) else setImageByte img k.offset (byte k.default), true) := by
    unfold ValueCheck.apply
    rw [hout]
    rfl
  rw [happly]
  have huncovered : ∀ {off}, k.covers off = false → ¬ (k.offset ≤ off ∧ off < k.offset + k.size) := fun h hc =>
    absurd (covers_iff.mpr hc) (by rw [h]; exact Bool.false_ne_true)
  cases hw : k.wide with
  | true =>
    have hsize : k.size = 2 := by rw [ValueCheck.size, hw]; rfl
    rw [hsize] at hdefault hoffset
    refine ⟨by simp [setImageWord, himg], fun off hoff => ?_, ?_, rfl⟩
    · have hne := huncovered hoff
      simp only [if_true, setImageWord]
      rw [imageByte_set_of_ne (by omega), imageByte_set_of_ne (by omega)]
    · simp only [ValueCheck.read, hw, if_true]
      rw [imageWord_setImageWord (by omega), word, BitVec.toNat_ofNat]
      exact Nat.mod_eq_of_lt hdefault
  | false =>
    have hsize : k.size = 1 := by rw [ValueCheck.size, hw]; rfl
    rw [hsize] at hdefault hoffset
    refine ⟨by simp [setImageByte, himg], fun off hoff => ?_, ?_, rfl⟩
    · have hne := huncovered hoff
      exact imageByte_set_of_ne (by omega) _
    · simp only [ValueCheck.read, hw, Bool.false_eq_true, if_false, setImageByte]
      rw [imageByte_set_self (by omega), byte, BitVec.toNat_ofNat]
      exact Nat.mod_eq_of_lt hdefault

/-- R180: one value is judged. -/
theorem ValueCheck.apply_spec {k : ValueCheck} (hk : k.fits = true) {img : List Byte} (himg : img.length = 128) (b : Bool) :
    (k.apply (img, b)).1.length = 128
      ∧ (∀ off, k.covers off = false → imageByte (k.apply (img, b)).1 off = imageByte img off)
      ∧ k.read (k.apply (img, b)).1 = k.judged img
      ∧ (k.apply (img, b)).2 = (b || !k.ok (k.read img)) := by
  cases hok : k.ok (k.read img) with
  | true =>
    have happly : k.apply (img, b) = (img, b) := if_pos hok
    have hjudged : k.judged img = k.read img := if_pos hok
    rw [happly, hjudged]
    exact ⟨himg, fun _ _ => rfl, rfl, (Bool.or_false b).symm⟩
  | false =>
    obtain ⟨hlength, hbytes, hread, hflag⟩ := ValueCheck.apply_out hk himg (b := b) hok
    have hjudged : k.judged img = k.default := if_neg (by rw [hok]; exact Bool.false_ne_true)
    rw [hjudged]
    exact ⟨hlength, hbytes, hread, hflag.trans (Bool.or_true b).symm⟩

/-! ## All values, one after the other -/

/-- Two values that share no byte. -/
def ValueCheck.apart (k l : ValueCheck) : Bool := decide (k.offset + k.size ≤ l.offset ∨ l.offset + l.size ≤ k.offset)

theorem ValueCheck.uncovered_of_apart {k l : ValueCheck} (h : k.apart l = true) {off : Nat} (hk : k.covers off = true) :
    l.covers off = false := by
  have hapart := of_decide_eq_true h
  have hk := covers_iff.mp hk
  exact decide_eq_false (by omega)

/-- R180: values that share no byte are each judged as they were read. -/
theorem foldl_apply_spec : ∀ (ks : List ValueCheck), ks.Pairwise (fun k l => k.apart l = true) → (∀ k ∈ ks, k.fits = true) →
    ∀ (img : List Byte) (b : Bool), img.length = 128 →
      (ks.foldl (fun p k => k.apply p) (img, b)).1.length = 128
        ∧ (∀ off, (∀ k ∈ ks, k.covers off = false) →
            imageByte (ks.foldl (fun p k => k.apply p) (img, b)).1 off = imageByte img off)
        ∧ (∀ k ∈ ks, k.read (ks.foldl (fun p k => k.apply p) (img, b)).1 = k.judged img)
        ∧ (ks.foldl (fun p k => k.apply p) (img, b)).2 = (b || ks.any fun k => !k.ok (k.read img)) := by
  intro ks
  induction ks with
  | nil => exact fun _ _ img b himg => ⟨himg, fun _ _ => rfl, fun k hk => (List.not_mem_nil hk).elim, (Bool.or_false b).symm⟩
  | cons k rest ih =>
    intro hpair hfits img b himg
    obtain ⟨hapart, hrest⟩ := List.pairwise_cons.mp hpair
    obtain ⟨hlength, hbytes, hread, hflag⟩ := ValueCheck.apply_spec (hfits k List.mem_cons_self) himg b
    rw [List.foldl_cons]
    obtain ⟨hl, hb, hr, hf⟩ := ih hrest (fun l hl => hfits l (List.mem_cons_of_mem _ hl)) (k.apply (img, b)).1
      (k.apply (img, b)).2 hlength
    have hother : ∀ l ∈ rest, l.read (k.apply (img, b)).1 = l.read img := fun l hl =>
      ValueCheck.read_congr fun off hoff => hbytes off (by
        cases hc : k.covers off with
        | false => rfl
        | true =>
          rw [ValueCheck.uncovered_of_apart (hapart l hl) hc] at hoff
          cases hoff)
    refine ⟨hl, fun off hoff => ?_, fun l hl => ?_, ?_⟩
    · rw [hb off fun l hl => hoff l (List.mem_cons_of_mem _ hl)]
      exact hbytes off (hoff k List.mem_cons_self)
    · rcases List.mem_cons.mp hl with rfl | hl
      · rw [← hread]
        exact ValueCheck.read_congr fun off hoff => hb off fun m hm => ValueCheck.uncovered_of_apart (hapart m hm) hoff
      · rw [hr l hl, ValueCheck.judged, hother l hl, ValueCheck.judged]
    · rw [hf, hflag, List.any_cons, Bool.or_assoc]
      congr 2
      rw [Bool.eq_iff_iff, List.any_eq_true, List.any_eq_true]
      exact exists_congr fun l => and_congr_right fun hl => by rw [hother l hl]

theorem valueChecks_apart : valueChecks.Pairwise (fun k l => k.apart l = true) := by
  decide

theorem valueChecks_fit : ∀ k ∈ valueChecks, k.fits = true := by
  decide

/-! ## Values judged as sets -/

theorem imageByte_imageOf (arrived : List Byte) {off : Nat} (h : off < 128) :
    imageByte (imageOf arrived) off = imageByte arrived off := by
  unfold imageByte imageOf
  rw [List.getElem?_take_of_lt h]
  by_cases hlt : off < arrived.length
  · rw [List.getElem?_append_left hlt]
  · rw [List.getElem?_append_right (by omega), List.getElem?_replicate, if_pos (by omega), List.getElem?_eq_none (by omega)]
    rfl

theorem length_imageOf (arrived : List Byte) : (imageOf arrived).length = 128 := by
  unfold imageOf
  rw [List.length_take, List.length_append, List.length_replicate]
  omega

theorem thresholdsOk_congr {img jmg : List Byte} (h : ∀ off, 0x42 ≤ off → off ≤ 0x46 → imageByte jmg off = imageByte img off) :
    thresholdsOk jmg = thresholdsOk img := by
  unfold thresholdsOk
  dsimp only
  simp only [h (0x42 + 0) (by omega) (by omega), h (0x42 + 1) (by omega) (by omega), h (0x42 + 2) (by omega) (by omega),
    h (0x42 + 3) (by omega) (by omega), h (0x42 + 4) (by omega) (by omega)]

theorem controlRangeOk_congr {own : Byte} {img jmg : List Byte} (h8 : imageByte jmg 8 = imageByte img 8)
    (h9 : imageByte jmg 9 = imageByte img 9) : controlRangeOk own jmg = controlRangeOk own img := by
  unfold controlRangeOk
  rw [h8, h9]

/-- R180: the thresholds are judged as one value. -/
theorem substituteThresholds_spec {img : List Byte} (himg : img.length = 128) (b : Bool) :
    (substituteThresholds (img, b)).1.length = 128
      ∧ (∀ off, off < 0x42 ∨ 0x46 < off → imageByte (substituteThresholds (img, b)).1 off = imageByte img off)
      ∧ (thresholdsOk img = true → (substituteThresholds (img, b)).1 = img)
      ∧ (thresholdsOk img = false → ∀ j : Nat, j ≤ 4 →
          imageByte (substituteThresholds (img, b)).1 (0x42 + j) = byte (40 * (j + 1)))
      ∧ (substituteThresholds (img, b)).2 = (b || !thresholdsOk img) := by
  cases hok : thresholdsOk img with
  | true =>
    rw [show substituteThresholds (img, b) = (img, b) from if_pos hok]
    exact ⟨himg, fun _ _ => rfl, fun _ => rfl, nofun, (Bool.or_false b).symm⟩
  | false =>
    rw [show substituteThresholds (img, b) = (setImageByte (setImageByte (setImageByte (setImageByte (setImageByte img
      0x42 (byte 40)) 0x43 (byte 80)) 0x44 (byte 120)) 0x45 (byte 160)) 0x46 (byte 200), true) from
      if_neg (by rw [hok]; exact Bool.false_ne_true)]
    unfold setImageByte
    refine ⟨by simp only [List.length_set, himg], fun off hoff => ?_, nofun, fun _ j hj => ?_, (Bool.or_true b).symm⟩
    · rw [imageByte_set_of_ne (by omega), imageByte_set_of_ne (by omega), imageByte_set_of_ne (by omega),
        imageByte_set_of_ne (by omega), imageByte_set_of_ne (by omega)]
    · unfold imageByte
      interval_cases j <;> simp [himg]

/-- R180: the control range is judged as one value. -/
theorem substituteControlRange_spec (own : Byte) {img : List Byte} (himg : img.length = 128) (b : Bool) :
    (∀ off, off ≠ 8 → off ≠ 9 → imageByte (substituteControlRange own (img, b)).1 off = imageByte img off)
      ∧ (controlRangeOk own img = true → (substituteControlRange own (img, b)).1 = img)
      ∧ (controlRangeOk own img = false → imageByte (substituteControlRange own (img, b)).1 8 = byte 29
          ∧ imageByte (substituteControlRange own (img, b)).1 9 = byte 31)
      ∧ (substituteControlRange own (img, b)).2 = (b || !controlRangeOk own img) := by
  cases hok : controlRangeOk own img with
  | true =>
    rw [show substituteControlRange own (img, b) = (img, b) from if_pos hok]
    exact ⟨fun _ _ _ => rfl, fun _ => rfl, nofun, (Bool.or_false b).symm⟩
  | false =>
    rw [show substituteControlRange own (img, b) = (setImageByte (setImageByte img 0x08 (byte 29)) 0x09 (byte 31), true) from
      if_neg (by rw [hok]; exact Bool.false_ne_true)]
    unfold setImageByte
    refine ⟨fun off h8 h9 => ?_, nofun, fun _ => ⟨?_, ?_⟩, (Bool.or_true b).symm⟩
    · rw [imageByte_set_of_ne h9, imageByte_set_of_ne h8]
    · rw [imageByte_set_of_ne (by decide), imageByte_set_self (by omega)]
    · rw [imageByte_set_self (by rw [List.length_set]; omega)]

/-! ## The image in use -/

/-- A byte that no value judged has. -/
def unjudged (off : Nat) : Bool :=
  valueChecks.all (fun k => !k.covers off) && decide ((off < 0x42 ∨ 0x46 < off) ∧ off ≠ 8 ∧ off ≠ 9 ∧ off < 128)

/-- R180: the image in use, byte by byte of the image that arrived. -/
structure InUse (own : Byte) (arrived img : List Byte) (sub : Bool) : Prop where
  plain : ∀ off, unjudged off = true → imageByte img off = imageByte arrived off
  judged : ∀ k ∈ valueChecks, k.read img = k.judged arrived
  thresholds : thresholdsOk arrived = true → ∀ off, 0x42 ≤ off → off ≤ 0x46 → imageByte img off = imageByte arrived off
  defaultThresholds : thresholdsOk arrived = false → ∀ j : Nat, j ≤ 4 → imageByte img (0x42 + j) = byte (40 * (j + 1))
  control : controlRangeOk own arrived = true → imageByte img 8 = imageByte arrived 8 ∧ imageByte img 9 = imageByte arrived 9
  defaultControl : controlRangeOk own arrived = false → imageByte img 8 = byte 29 ∧ imageByte img 9 = byte 31
  flag : sub = ((valueChecks.any fun k => !k.ok (k.read arrived)) || !thresholdsOk arrived || !controlRangeOk own arrived)

theorem readEnd_usable {own : Byte} {arrived img : List Byte} {sub : Bool} {ck : Word16}
    (h : readEnd own arrived = .usable img sub ck) :
    img = (substituteControlRange own (substituteValues (imageOf arrived))).1
      ∧ sub = (substituteControlRange own (substituteValues (imageOf arrived))).2 := by
  unfold readEnd at h
  dsimp only at h
  split at h
  · cases h
  · split at h
    · cases h
    · split at h
      · cases h
      · split at h
        · cases h
        · cases h
          exact ⟨rfl, rfl⟩

/-- The bytes of the thresholds and of the control range hold no value that is judged alone. -/
theorem valueChecks_uncovered : ∀ off ∈ [0x42, 0x43, 0x44, 0x45, 0x46, 8, 9], ∀ k ∈ valueChecks, k.covers off = false := by
  decide

theorem mem_sets {off : Nat} (h : (0x42 ≤ off ∧ off ≤ 0x46) ∨ off = 8 ∨ off = 9) : off ∈ [0x42, 0x43, 0x44, 0x45, 0x46, 8, 9] := by
  simp only [List.mem_cons, List.not_mem_nil, or_false]
  omega

theorem ValueCheck.judged_congr {k : ValueCheck} {img jmg : List Byte} (h : k.read jmg = k.read img) :
    k.judged jmg = k.judged img := by
  unfold ValueCheck.judged
  rw [h]

theorem read_imageOf {k : ValueCheck} (hk : k ∈ valueChecks) (arrived : List Byte) : k.read (imageOf arrived) = k.read arrived :=
  ValueCheck.read_congr fun off hoff => by
    obtain ⟨-, hfit⟩ := of_decide_eq_true (valueChecks_fit k hk)
    have hcovers := ValueCheck.covers_iff.mp hoff
    exact imageByte_imageOf arrived (by omega)

theorem inUse_of_readEnd {own : Byte} {arrived img : List Byte} {sub : Bool} {ck : Word16}
    (h : readEnd own arrived = .usable img sub ck) : InUse own arrived img sub := by
  obtain ⟨rfl, rfl⟩ := readEnd_usable h
  obtain ⟨hl, hb, hr, hf⟩ := foldl_apply_spec valueChecks valueChecks_apart valueChecks_fit (imageOf arrived) false
    (length_imageOf arrived)
  unfold substituteValues
  generalize valueChecks.foldl (fun p k => k.apply p) (imageOf arrived, false) = p at *
  obtain ⟨img1, b1⟩ := p
  obtain ⟨hl2, hb2, hsame2, hset2, hf2⟩ := substituteThresholds_spec hl b1
  generalize substituteThresholds (img1, b1) = q at *
  obtain ⟨img2, b2⟩ := q
  obtain ⟨hb3, hsame3, hset3, hf3⟩ := substituteControlRange_spec own hl2 b2
  have hfirst : ∀ off, ((0x42 ≤ off ∧ off ≤ 0x46) ∨ off = 8 ∨ off = 9) → imageByte img1 off = imageByte arrived off :=
    fun off hoff => (hb off (valueChecks_uncovered off (mem_sets hoff))).trans (imageByte_imageOf arrived (by omega))
  have hthresholds : thresholdsOk img1 = thresholdsOk arrived := thresholdsOk_congr fun off h1 h2 => hfirst off (.inl ⟨h1, h2⟩)
  have hsecond : ∀ off, off = 8 ∨ off = 9 → imageByte img2 off = imageByte arrived off := fun off hoff =>
    (hb2 off (by omega)).trans (hfirst off (.inr hoff))
  have hcontrol : controlRangeOk own img2 = controlRangeOk own arrived :=
    controlRangeOk_congr (hsecond 8 (.inl rfl)) (hsecond 9 (.inr rfl))
  refine ⟨fun off hoff => ?_, fun k hk => ?_, fun hok off h1 h2 => ?_, fun hbad j hj => ?_, fun hok => ?_, fun hbad => ?_, ?_⟩
  · obtain ⟨hclear, hset⟩ := Bool.and_eq_true_iff.mp hoff
    obtain ⟨hout, h8, h9, hlt⟩ := of_decide_eq_true hset
    rw [hb3 off h8 h9, hb2 off hout, hb off fun k hk => ?_, imageByte_imageOf arrived hlt]
    simpa using List.all_eq_true.mp hclear k hk
  · have hsets : ∀ off, k.covers off = true → ¬ ((0x42 ≤ off ∧ off ≤ 0x46) ∨ off = 8 ∨ off = 9) := fun off hoff hin => by
      rw [valueChecks_uncovered off (mem_sets hin) k hk] at hoff
      cases hoff
    calc k.read _ = k.read img2 := ValueCheck.read_congr fun off hoff => by
          have := hsets off hoff
          exact hb3 off (by omega) (by omega)
      _ = k.read img1 := ValueCheck.read_congr fun off hoff => by
          have := hsets off hoff
          exact hb2 off (by omega)
      _ = k.judged (imageOf arrived) := hr k hk
      _ = k.judged arrived := ValueCheck.judged_congr (read_imageOf hk arrived)
  · rw [hb3 off (by omega) (by omega), hsame2 (hthresholds.trans hok), hfirst off (.inl ⟨h1, h2⟩)]
  · rw [hb3 _ (by omega) (by omega), hset2 (hthresholds.trans hbad) j hj]
  · rw [hsame3 (hcontrol.trans hok)]
    exact ⟨hsecond 8 (.inl rfl), hsecond 9 (.inr rfl)⟩
  · exact hset3 (hcontrol.trans hbad)
  · change b2 = _ at hf2
    change b1 = _ at hf
    rw [hf3, hcontrol, hf2, hthresholds, hf, Bool.false_or]
    congr 2
    rw [Bool.eq_iff_iff, List.any_eq_true, List.any_eq_true]
    exact exists_congr fun k => and_congr_right fun hk => by rw [read_imageOf hk]

/-! ## The values in use, by the memory map -/

section
variable {own : Byte} {arrived img : List Byte} {sub : Bool}

theorem InUse.word (h : InUse own arrived img sub) {off : Nat} (h0 : unjudged off = true) (h1 : unjudged (off + 1) = true) :
    imageWord img off = imageWord arrived off := by
  unfold imageWord
  rw [h.plain off h0, h.plain (off + 1) h1]

/-- A two-byte value with a range. -/
theorem InUse.wide (h : InUse own arrived img sub) {off lo hi default : Nat}
    (hk : (⟨off, true, between lo hi, default⟩ : ValueCheck) ∈ valueChecks) : (imageWord img off).toNat
      = if lo ≤ (imageWord arrived off).toNat ∧ (imageWord arrived off).toNat ≤ hi then (imageWord arrived off).toNat else default := by
  have hread := h.judged _ hk
  simpa [ValueCheck.read, ValueCheck.judged, between] using hread

/-- A one-byte value with a range. -/
theorem InUse.narrow (h : InUse own arrived img sub) {off lo hi default : Nat}
    (hk : (⟨off, false, between lo hi, default⟩ : ValueCheck) ∈ valueChecks) : (imageByte img off).toNat
      = if lo ≤ (imageByte arrived off).toNat ∧ (imageByte arrived off).toNat ≤ hi then (imageByte arrived off).toNat else default := by
  have hread := h.judged _ hk
  simpa [ValueCheck.read, ValueCheck.judged, between] using hread

/-! ### Codes -/

theorem byte_eq_iff {b c : Byte} : b = c ↔ b.toNat = c.toNat := BitVec.toNat_inj.symm

theorem channelModeOf_eq (b : Byte) : channelModeOf b
    = if b.toNat = 1 then .rate else if b.toNat = 2 then .total else if b.toNat = 3 then .width else .off := by
  simp only [channelModeOf, byte_eq_iff]
  rfl

theorem roleOf_eq (b : Byte) : roleOf b = if b.toNat = 1 then .wind else if b.toNat = 2 then .temp
    else if b.toNat = 3 then .precip else if b.toNat = 4 then .depth else .none := by
  simp only [roleOf, byte_eq_iff]
  rfl

theorem signRoleOf_eq (b : Byte) : signRoleOf b = if b.toNat = 1 then .eastApproach else if b.toNat = 2 then .westApproach
    else if b.toNat = 3 then .panel else .notFitted := by
  simp only [signRoleOf, byte_eq_iff]
  rfl

/-- A code out of its range becomes 0, which no code up to it takes. -/
theorem ranged_code_iff {x hi j : Nat} (h1 : 1 ≤ j) (h2 : j ≤ hi) : (if 0 ≤ x ∧ x ≤ hi then x else 0) = j ↔ x = j := by
  split <;> omega

/-- R180, R191: the settings in use of one channel. -/
theorem InUse.channel (h : InUse own arrived img sub) {b : Nat} (hvalues : ∀ k ∈ channelChecks b, k ∈ valueChecks)
    (hplain : ∀ j, 3 ≤ j → j ≤ 6 → unjudged (b + j) = true) :
    (channelConfigOf img b).mode = (if (imageByte arrived b).toNat = 1 then .rate else if (imageByte arrived b).toNat = 2 then .total
        else if (imageByte arrived b).toNat = 3 then .width else .off)
      ∧ (channelConfigOf img b).edge = (if (imageByte arrived (b + 1)).toNat = 1 then .double else .single)
      ∧ (channelConfigOf img b).role = (if (imageByte arrived (b + 2)).toNat = 1 then .wind
          else if (imageByte arrived (b + 2)).toNat = 2 then .temp else if (imageByte arrived (b + 2)).toNat = 3 then .precip
          else if (imageByte arrived (b + 2)).toNat = 4 then .depth else .none)
      ∧ (channelConfigOf img b).gain = (imageWord arrived (b + 3)).toInt
      ∧ (channelConfigOf img b).offset = (imageWord arrived (b + 5)).toInt
      ∧ (channelConfigOf img b).limit = (if (imageWord arrived (b + 7)).toNat = 0x8000 then 32767
          else (imageWord arrived (b + 7)).toInt)
      ∧ (channelConfigOf img b).direction = (if (imageByte arrived (b + 9)).toNat = 1 then .below else .above)
      ∧ (channelConfigOf img b).hold = (if 1 ≤ (imageByte arrived (b + 10)).toNat ∧ (imageByte arrived (b + 10)).toNat ≤ 15
          then (imageByte arrived (b + 10)).toNat else 3)
      ∧ (channelConfigOf img b).release = (if (imageWord arrived (b + 11)).toNat ≤ 32767 then (imageWord arrived (b + 11)).toNat
          else 0)
      ∧ (channelConfigOf img b).window = (if (imageByte arrived (b + 13)).toNat = 3 ∨ (imageByte arrived (b + 13)).toNat = 10
          then (imageByte arrived (b + 13)).toNat else 1) := by
  have hmode := h.narrow (hvalues ⟨b, false, between 0 3, 0⟩ (by simp [channelChecks]))
  have hedge := h.narrow (hvalues ⟨b + 1, false, between 0 1, 0⟩ (by simp [channelChecks]))
  have hrole := h.narrow (hvalues ⟨b + 2, false, between 0 4, 0⟩ (by simp [channelChecks]))
  have hlimit := h.judged _ (hvalues ⟨b + 7, true, fun x => x != 0x8000, 32767⟩ (by simp [channelChecks]))
  have hdirection := h.narrow (hvalues ⟨b + 9, false, between 0 1, 0⟩ (by simp [channelChecks]))
  have hhold := h.narrow (hvalues ⟨b + 10, false, between 1 15, 3⟩ (by simp [channelChecks]))
  have hrelease := h.wide (hvalues ⟨b + 11, true, between 0 32767, 0⟩ (by simp [channelChecks]))
  have hwindow := h.judged _ (hvalues ⟨b + 13, false, fun x => x == 1 || x == 3 || x == 10, 1⟩ (by simp [channelChecks]))
  refine ⟨?_, ?_, ?_, ?_, ?_, ?_, ?_, ?_, ?_, ?_⟩
  · rw [show (channelConfigOf img b).mode = channelModeOf (imageByte img b) from rfl, channelModeOf_eq, hmode]
    simp only [ranged_code_iff (x := (imageByte arrived b).toNat) (hi := 3), Nat.reduceLeDiff, le_refl]
  · rw [show (channelConfigOf img b).edge = if imageByte img (b + 1) = 1#8 then .double else .single from rfl]
    simp only [byte_eq_iff, hedge]
    simp only [BitVec.toNat_ofNat, Nat.reducePow, Nat.reduceMod, ranged_code_iff (x := (imageByte arrived (b + 1)).toNat) (hi := 1),
      le_refl]
  · rw [show (channelConfigOf img b).role = roleOf (imageByte img (b + 2)) from rfl, roleOf_eq, hrole]
    simp only [ranged_code_iff (x := (imageByte arrived (b + 2)).toNat) (hi := 4), Nat.reduceLeDiff, le_refl]
  · exact congrArg BitVec.toInt (h.word (hplain 3 (by omega) (by omega)) (hplain 4 (by omega) (by omega)))
  · exact congrArg BitVec.toInt (h.word (hplain 5 (by omega) (by omega)) (hplain 6 (by omega) (by omega)))
  · rw [show (channelConfigOf img b).limit = (imageWord img (b + 7)).toInt from rfl]
    have hword : (imageWord img (b + 7)).toNat
        = if (imageWord arrived (b + 7)).toNat = 0x8000 then 32767 else (imageWord arrived (b + 7)).toNat := by
      simpa [ValueCheck.read, ValueCheck.judged] using hlimit
    split
    · next hbad =>
      rw [if_pos hbad] at hword
      rw [BitVec.toInt_eq_toNat_cond, hword]
      rfl
    · next hgood =>
      rw [if_neg hgood] at hword
      rw [BitVec.eq_of_toNat_eq hword]
  · rw [show (channelConfigOf img b).direction = if imageByte img (b + 9) = 1#8 then .below else .above from rfl]
    simp only [byte_eq_iff, hdirection]
    simp only [BitVec.toNat_ofNat, Nat.reducePow, Nat.reduceMod, ranged_code_iff (x := (imageByte arrived (b + 9)).toNat) (hi := 1),
      le_refl]
  · exact hhold
  · exact hrelease.trans (by simp)
  · rw [show (channelConfigOf img b).window = (imageByte img (b + 13)).toNat from rfl]
    simp only [ValueCheck.read, ValueCheck.judged, Bool.false_eq_true, if_false, Bool.or_eq_true, beq_iff_eq] at hwindow
    rw [hwindow]
    split <;> split <;> omega

/-- R180: the byte of the thresholds at a place of the memory. -/
def thresholdsOf (img : List Byte) : Thresholds :=
  ⟨(imageByte img 0x42).toNat, (imageByte img 0x43).toNat, (imageByte img 0x44).toNat, (imageByte img 0x45).toNat,
    (imageByte img 0x46).toNat⟩

/-- R180: the thresholds rise from 1 on. -/
def ThresholdsRise (img : List Byte) : Prop :=
  1 ≤ (imageByte img 0x42).toNat ∧ (imageByte img 0x42).toNat < (imageByte img 0x43).toNat
    ∧ (imageByte img 0x43).toNat < (imageByte img 0x44).toNat ∧ (imageByte img 0x44).toNat < (imageByte img 0x45).toNat
    ∧ (imageByte img 0x45).toNat < (imageByte img 0x46).toNat

theorem thresholdsOk_iff (img : List Byte) : thresholdsOk img = true ↔ ThresholdsRise img := decide_eq_true_iff

theorem InUse.thresholds_eq (h : InUse own arrived img sub) :
    (ThresholdsRise arrived → thresholdsOf img = thresholdsOf arrived)
      ∧ (¬ ThresholdsRise arrived → thresholdsOf img = ⟨40, 80, 120, 160, 200⟩) := by
  refine ⟨fun hrise => ?_, fun hfall => ?_⟩
  · have hsame := h.thresholds ((thresholdsOk_iff arrived).mpr hrise)
    unfold thresholdsOf
    rw [hsame 0x42 (by omega) (by omega), hsame 0x43 (by omega) (by omega), hsame 0x44 (by omega) (by omega),
      hsame 0x45 (by omega) (by omega), hsame 0x46 (by omega) (by omega)]
  · have hset := h.defaultThresholds (Bool.eq_false_iff.mpr (mt (thresholdsOk_iff arrived).mp hfall))
    have h0 := hset 0 (by omega)
    have h1 := hset 1 (by omega)
    have h2 := hset 2 (by omega)
    have h3 := hset 3 (by omega)
    have h4 := hset 4 (by omega)
    unfold thresholdsOf
    simp only [Nat.reduceAdd, Nat.add_zero] at h0 h1 h2 h3 h4
    rw [h0, h1, h2, h3, h4]
    rfl

/-- R180: the ends of the control range are ordered addresses around none of this station's own. -/
def ControlRanged (own : Byte) (img : List Byte) : Prop :=
  1 ≤ (imageByte img 8).toNat ∧ (imageByte img 8).toNat ≤ (imageByte img 9).toNat ∧ (imageByte img 9).toNat ≤ 31
    ∧ ¬ ((imageByte img 8).toNat ≤ own.toNat ∧ own.toNat ≤ (imageByte img 9).toNat)

theorem controlRangeOk_iff (own : Byte) (img : List Byte) : controlRangeOk own img = true ↔ ControlRanged own img := by
  unfold controlRangeOk ControlRanged
  rw [decide_eq_true_iff]
  omega

theorem InUse.control_eq (h : InUse own arrived img sub) :
    (ControlRanged own arrived → (configOf img).controlFirst = (imageByte arrived 8).toNat
        ∧ (configOf img).controlLast = (imageByte arrived 9).toNat)
      ∧ (¬ ControlRanged own arrived → (configOf img).controlFirst = 29 ∧ (configOf img).controlLast = 31) := by
  refine ⟨fun hin => ?_, fun hout => ?_⟩
  · obtain ⟨h8, h9⟩ := h.control ((controlRangeOk_iff own arrived).mpr hin)
    exact ⟨congrArg BitVec.toNat h8, congrArg BitVec.toNat h9⟩
  · obtain ⟨h8, h9⟩ := h.defaultControl (Bool.eq_false_iff.mpr (mt (controlRangeOk_iff own arrived).mp hout))
    exact ⟨congrArg BitVec.toNat h8, congrArg BitVec.toNat h9⟩

/-- R180: the autoclose level in use. -/
theorem InUse.autoclose_eq (h : InUse own arrived img sub) : (configOf img).autoclose = (if (imageByte arrived 0x4A).toNat = 0 then none
    else if (imageByte arrived 0x4A).toNat = 5 then some 5 else some 4) := by
  have hjudged := h.judged ⟨0x4A, false, fun x => x == 4 || x == 5 || x == 0, 4⟩ (by simp [valueChecks])
  simp only [ValueCheck.read, ValueCheck.judged, Bool.false_eq_true, if_false, Bool.or_eq_true, beq_iff_eq] at hjudged
  rw [show (configOf img).autoclose = if imageByte img 0x4A = 0#8 then none else some (imageByte img 0x4A).toNat from rfl]
  simp only [byte_eq_iff, hjudged, BitVec.toNat_ofNat, Nat.reducePow, Nat.reduceMod]
  by_cases h0 : (imageByte arrived 0x4A).toNat = 0
  · simp [h0]
  · by_cases h5 : (imageByte arrived 0x4A).toNat = 5
    · simp [h5]
    · by_cases h4 : (imageByte arrived 0x4A).toNat = 4
      · simp [h4]
      · simp [h0, h4, h5]

/-- R180: a sign's role in use. -/
theorem InUse.signRole (h : InUse own arrived img sub) {off : Nat}
    (hk : (⟨off, false, between 0 3, 0⟩ : ValueCheck) ∈ valueChecks) :
    signRoleOf (imageByte img off) = (if (imageByte arrived off).toNat = 1 then .eastApproach
      else if (imageByte arrived off).toNat = 2 then .westApproach else if (imageByte arrived off).toNat = 3 then .panel
      else .notFitted) := by
  rw [signRoleOf_eq, h.narrow hk]
  simp only [ranged_code_iff (x := (imageByte arrived off).toNat) (hi := 3), Nat.reduceLeDiff, le_refl]

/-! ### The flag -/

/-- The first byte of a channel's block. -/
def channelBase : Chan → Nat
  | .c1 => 0x0A
  | .c2 => 0x18
  | .c3 => 0x26
  | .c4 => 0x34

/-- The two-byte values with a range outside the channel blocks: place, range and default. -/
def wideValues : List (Nat × Nat × Nat × Nat) :=
  [(0x02, 100, 10000, 1500), (0x04, 50, 5000, 400), (0x06, 500, 20000, 3000), (0x48, 0, 32767, 70),
   (0x4B, 300, 7200, 1800), (0x4E, 100, 10000, 2000), (0x50, 30, 600, 120), (0x53, 100, 1200, 450),
   (0x58, 100, 20000, 3000), (0x5A, 100, 20000, 3000), (0x5C, 100, 20000, 3000)]

theorem forall_chan_iff {P : Chan → Prop} : (∀ c, P c) ↔ P .c1 ∧ P .c2 ∧ P .c3 ∧ P .c4 := by
  refine ⟨fun h => ⟨h _, h _, h _, h _⟩, fun ⟨h1, h2, h3, h4⟩ c => ?_⟩
  cases c <;> assumption

theorem forall_valueChecks_iff {P : ValueCheck → Prop} : (∀ k ∈ valueChecks, P k) ↔
    (∀ x ∈ wideValues, P ⟨x.1, true, between x.2.1 x.2.2.1, x.2.2.2⟩) ∧ P ⟨0x47, false, between 0 40, 15⟩
      ∧ P ⟨0x4A, false, fun x => x == 4 || x == 5 || x == 0, 4⟩ ∧ P ⟨0x52, false, between 10 60, 20⟩
      ∧ (P ⟨0x55, false, between 0 3, 0⟩ ∧ P ⟨0x56, false, between 0 3, 0⟩ ∧ P ⟨0x57, false, between 0 3, 0⟩)
      ∧ ∀ c, ∀ k ∈ channelChecks (channelBase c), P k := by
  rw [forall_chan_iff]
  simp only [valueChecks, wideValues, List.forall_mem_append, List.forall_mem_cons, List.not_mem_nil, false_implies, implies_true,
    and_true, channelBase]
  constructor
  · rintro ⟨⟨⟨⟨⟨⟨a1, a2, a3⟩, c1⟩, c2⟩, c3⟩, c4⟩, b1, b2, b3, b4, b5, b6, b7, b8, r1, r2, r3, l1, l2, l3⟩
    exact ⟨⟨a1, a2, a3, b2, b4, b5, b6, b8, l1, l2, l3⟩, b1, b3, b7, ⟨r1, r2, r3⟩, c1, c2, c3, c4⟩
  · rintro ⟨⟨a1, a2, a3, b2, b4, b5, b6, b8, l1, l2, l3⟩, b1, b3, b7, ⟨r1, r2, r3⟩, c1, c2, c3, c4⟩
    exact ⟨⟨⟨⟨⟨⟨a1, a2, a3⟩, c1⟩, c2⟩, c3⟩, c4⟩, b1, b2, b3, b4, b5, b6, b7, b8, r1, r2, r3, l1, l2, l3⟩

/-- A channel block in which every value is in its range. -/
def BlockRanged (img : List Byte) (b : Nat) : Prop :=
  (imageByte img b).toNat ≤ 3 ∧ (imageByte img (b + 1)).toNat ≤ 1 ∧ (imageByte img (b + 2)).toNat ≤ 4
    ∧ (imageWord img (b + 7)).toNat ≠ 0x8000 ∧ (imageByte img (b + 9)).toNat ≤ 1 ∧ 1 ≤ (imageByte img (b + 10)).toNat
    ∧ (imageByte img (b + 10)).toNat ≤ 15 ∧ (imageWord img (b + 11)).toNat ≤ 32767
    ∧ ((imageByte img (b + 13)).toNat = 1 ∨ (imageByte img (b + 13)).toNat = 3 ∨ (imageByte img (b + 13)).toNat = 10)

theorem channelChecks_ok_iff (img : List Byte) (b : Nat) : (∀ k ∈ channelChecks b, k.ok (k.read img) = true) ↔ BlockRanged img b := by
  simp only [channelChecks, List.forall_mem_cons, List.not_mem_nil, false_implies, implies_true, and_true, ValueCheck.read, between,
    if_true, Bool.false_eq_true, if_false, decide_eq_true_eq, Nat.zero_le, true_and, bne_iff_ne, Bool.or_eq_true, beq_iff_eq, or_assoc,
    and_assoc, BlockRanged]

/-- R180: the flag stays clear exactly when every value read is in its range. -/
theorem InUse.flag_iff (h : InUse own arrived img sub) : sub = false ↔ ControlRanged own arrived ∧ ThresholdsRise arrived
    ∧ (∀ x ∈ wideValues, x.2.1 ≤ (imageWord arrived x.1).toNat ∧ (imageWord arrived x.1).toNat ≤ x.2.2.1)
    ∧ (imageByte arrived 0x47).toNat ≤ 40
    ∧ ((imageByte arrived 0x4A).toNat = 0 ∨ (imageByte arrived 0x4A).toNat = 4 ∨ (imageByte arrived 0x4A).toNat = 5)
    ∧ 10 ≤ (imageByte arrived 0x52).toNat ∧ (imageByte arrived 0x52).toNat ≤ 60
    ∧ ((imageByte arrived 0x55).toNat ≤ 3 ∧ (imageByte arrived 0x56).toNat ≤ 3 ∧ (imageByte arrived 0x57).toNat ≤ 3)
    ∧ ∀ c, BlockRanged arrived (channelBase c) := by
  have hall : (valueChecks.any fun k => !k.ok (k.read arrived)) = false ↔ ∀ k ∈ valueChecks, k.ok (k.read arrived) = true := by
    simp only [List.any_eq_false, Bool.not_eq_true', Bool.not_eq_false]
  rw [h.flag, Bool.or_eq_false_iff, Bool.or_eq_false_iff, hall, forall_valueChecks_iff, Bool.not_eq_false', Bool.not_eq_false',
    thresholdsOk_iff, controlRangeOk_iff]
  simp only [channelChecks_ok_iff]
  simp only [ValueCheck.read, between, if_true, Bool.false_eq_true, if_false, decide_eq_true_eq, Nat.zero_le, true_and,
    Bool.or_eq_true, beq_iff_eq]
  tauto

/-- A two-byte value in use, by the list of those with a range. -/
def usedWord (img : List Byte) (off : Nat) : Nat :=
  match wideValues.find? (fun x => x.1 = off) with
  | some x => if x.2.1 ≤ (imageWord img off).toNat ∧ (imageWord img off).toNat ≤ x.2.2.1 then (imageWord img off).toNat else x.2.2.2
  | none => (imageWord img off).toNat

theorem InUse.usedWord_eq (h : InUse own arrived img sub) {x : Nat × Nat × Nat × Nat} (hx : x ∈ wideValues) :
    (imageWord img x.1).toNat = usedWord arrived x.1 := by
  have hk : (⟨x.1, true, between x.2.1 x.2.2.1, x.2.2.2⟩ : ValueCheck) ∈ valueChecks := by
    obtain ⟨hall, -⟩ := (forall_valueChecks_iff (P := fun k => k ∈ valueChecks)).mp fun k hk => hk
    exact hall x hx
  have hfind : wideValues.find? (fun y => y.1 = x.1) = some x := by
    have hall : ∀ x ∈ wideValues, wideValues.find? (fun y => y.1 = x.1) = some x := by decide
    exact hall x hx
  unfold usedWord
  rw [h.wide hk, hfind]

theorem InUse.wideUsed (h : InUse own arrived img sub) (off : Nat) (hoff : off ∈ wideValues.map Prod.fst) :
    (imageWord img off).toNat = usedWord arrived off := by
  obtain ⟨x, hx, rfl⟩ := List.mem_map.mp hoff
  exact h.usedWord_eq hx

end

/-! ## The obligation -/

/-- The place of a sign's role, and of its look-ahead. -/
def roleBase : Sign → Nat
  | .s1 => 0x55
  | .s2 => 0x56
  | .s3 => 0x57

def lookBase : Sign → Nat
  | .s1 => 0x58
  | .s2 => 0x5A
  | .s3 => 0x5C

theorem InUse.sign {own : Byte} {arrived img : List Byte} {sub : Bool} (h : InUse own arrived img sub) (n : Sign) :
    (configOf img).lookAheads.get n = usedWord arrived (lookBase n)
      ∧ (configOf img).signRoles.get n = (if (imageByte arrived (roleBase n)).toNat = 1 then .eastApproach
          else if (imageByte arrived (roleBase n)).toNat = 2 then .westApproach
          else if (imageByte arrived (roleBase n)).toNat = 3 then .panel else .notFitted) := by
  cases n with
  | s1 => exact ⟨h.wideUsed 0x58 (by decide), h.signRole (by simp [valueChecks])⟩
  | s2 => exact ⟨h.wideUsed 0x5A (by decide), h.signRole (by simp [valueChecks])⟩
  | s3 => exact ⟨h.wideUsed 0x5C (by decide), h.signRole (by simp [valueChecks])⟩

theorem InUse.template {own : Byte} {arrived img : List Byte} {sub : Bool} (h : InUse own arrived img sub) {c : Nat}
    (h1 : 1 ≤ c) (h8 : c ≤ 8) : (configOf img).templates.forClass c = imageByte arrived (0x5D + c) := by
  have hplain : unjudged (0x5D + c) = true := by
    interval_cases c <;> decide
  rw [← h.plain _ hplain]
  interval_cases c <;> rfl

theorem InUse.fitted_eq {own : Byte} {arrived img : List Byte} {sub : Bool} (h : InUse own arrived img sub) :
    (configOf img).fitted = ⟨(imageByte arrived 0x4D).getLsbD 0, (imageByte arrived 0x4D).getLsbD 1⟩ := by
  rw [← h.plain 0x4D (by decide)]
  rfl

theorem channelBlock (img : List Byte) (c : Chan) :
    (∀ k ∈ channelChecks (channelBase c), k ∈ valueChecks) ∧ (∀ j, 3 ≤ j → j ≤ 6 → unjudged (channelBase c + j) = true)
      ∧ (configOf img).channels.get c = channelConfigOf img (channelBase c) := by
  obtain ⟨-, -, -, -, -, hchannels⟩ := (forall_valueChecks_iff (P := fun k => k ∈ valueChecks)).mp fun k hk => hk
  refine ⟨hchannels c, fun j h3 h6 => ?_, by cases c <;> rfl⟩
  have hall : ∀ c : Chan, ∀ j ∈ [3, 4, 5, 6], unjudged (channelBase c + j) = true := by
    intro c
    cases c <;> decide
  exact hall c j (by simp only [List.mem_cons, List.not_mem_nil, or_false]; omega)

/-- Settles O19: the entry to JOINING block by block, the judgement of retained memory, every value of the memory map in its own
bytes, and the channels in their order. -/
theorem usableReadEntersJoining : Obligations.UsableReadEntersJoining := by
  refine ⟨fun s arrived img sub ck hphase hread => usableRead_joins hphase hread, fun m warm ck => ⟨?_, ?_, ?_, ringOk_records m⟩, ?_,
    channelsAtStart_spec⟩
  · intro hwarm hintegrity hck hring
    rw [judgeRetained_valid hwarm hintegrity hck]
    exact if_pos hring
  · intro hwarm hintegrity hck hring
    rw [judgeRetained_valid hwarm hintegrity hck]
    exact if_neg (by rw [hring]; exact Bool.false_ne_true)
  · exact judgeRetained_invalid
  · intro own arrived img sub ck hread
    have h := inUse_of_readEnd hread
    refine ⟨⟨?_, h.wideUsed 2 (by decide), h.wideUsed 4 (by decide), h.wideUsed 6 (by decide), h.control_eq.1, h.control_eq.2,
      h.thresholds_eq.1, h.thresholds_eq.2, ?_, h.wideUsed 0x48 (by decide), h.autoclose_eq, h.wideUsed 0x4B (by decide),
      h.fitted_eq, h.wideUsed 0x4E (by decide), h.wideUsed 0x50 (by decide), ?_, h.wideUsed 0x53 (by decide), ?_, ?_, ?_⟩, ?_⟩
    · exact congrArg BitVec.toNat (h.word (by decide) (by decide))
    · have hnarrow := h.narrow (off := 0x47) (lo := 0) (hi := 40) (default := 15) (by simp [valueChecks])
      simp only [Nat.zero_le, true_and] at hnarrow
      exact hnarrow
    · exact h.narrow (off := 0x52) (lo := 10) (hi := 60) (default := 20) (by simp [valueChecks])
    · intro n
      cases n
      exacts [h.sign .s1, h.sign .s2, h.sign .s3]
    · exact fun c h1 h8 => h.template h1 h8
    · intro c
      obtain ⟨hvalues, hplain, hget⟩ := channelBlock img c
      rw [hget]
      cases c
      all_goals exact h.channel hvalues hplain
    · refine h.flag_iff.trans (and_congr_right fun _ => and_congr_right fun _ => and_congr_right fun _ => and_congr_right fun _ =>
        and_congr_right fun _ => and_congr_right fun _ => and_congr_right fun _ => and_congr ?_ ?_)
      · exact ⟨fun ⟨h1, h2, h3⟩ n => by cases n <;> assumption, fun h => ⟨h .s1, h .s2, h .s3⟩⟩
      · refine forall_congr' fun c => ?_
        cases c <;> exact Iff.rfl

end Sys2Proof.Machine
end

section
/-! PROOF. What reports do: they judge QUIET, queue STATUS entries, and write parts beside the queue and QUIET. With that the entries
to SETTLING and RUNNING are followed (R184, R185). -/

namespace Sys2Proof.Machine

open Sys2Proof

variable {s t u : State}

/-! ## What every report keeps -/

/-- The moves a report of signs, gates and records is made of. -/
structure ReportKeeps (law : State → Prop) : Prop where
  judge : ∀ {s}, law s → law (judgeQuiet s)
  status : ∀ {s}, law s → law (present .status s)
  aside : ∀ {s t qs}, Frame qs s t → Part.apart [.quiet, .queue] qs = true → law s → law t

namespace ReportKeeps

variable {law : State → Prop}

theorem putGate (h : ReportKeeps law) (g : Gate) (u : GateUnit) (hs : law s) : law (Machine.putGate g u s) := by
  have hset : law (s.setGate g u) := h.aside (frame_withGates_units s g u) rfl hs
  have hstatus : law (if u.state ≠ (s.gates.units.get g).state ∨ u.slow ≠ (s.gates.units.get g).slow
      then Machine.present .status (s.setGate g u) else s.setGate g u) := by
    split
    · exact h.status hset
    · exact hset
  unfold Machine.putGate
  dsimp only
  split
  · exact h.judge hstatus
  · exact hstatus

theorem putKeeps (h : ReportKeeps law) : PutKeeps law where
  put hs := h.putGate _ _ hs
  same _ hs := h.aside (frame_withGates_units _ _ _) rfl hs

theorem evaluateGates (h : ReportKeeps law) (hs : law s) : law (Machine.evaluateGates s) := h.putKeeps.evaluateGates hs

theorem reportRecords (h : ReportKeeps law) (hs : law s) : law (Machine.reportRecords s) :=
  h.judge (h.evaluateGates (h.aside (frame_evaluateSigns s) rfl hs))

theorem storeRecord (h : ReportKeeps law) (i : Nat) (r : ClosureRecord) (hs : law s) : law (Machine.storeRecord i r s) :=
  h.reportRecords (h.aside (frame_setSlot s i (some r)) rfl hs)

end ReportKeeps

/-! ## The queue -/

/-- The queue stays, or takes a STATUS. -/
def Reported (s t : State) : Prop := t.line.queue = s.line.queue ∨ t.line.queue = enqueue .status s.line.queue

theorem Reported.refl (s : State) : Reported s s := .inl rfl

theorem Reported.trans (h : Reported s t) (k : Reported t u) : Reported s u := by
  unfold Reported at *
  rcases h with h | h <;> rcases k with k | k <;> rw [k, h]
  · exact .inl rfl
  · exact .inr rfl
  · exact .inr rfl
  · exact .inr (enqueue_enqueue _ _)

theorem Reported.of_frame {qs : List Part} (h : Frame qs s t) (hd : Part.apart [.queue] qs = true) : Reported s t :=
  .inl (h.queue_eq hd)

theorem reported_status (s : State) : Reported s (present .status s) := by
  unfold Reported
  rw [queue_present]
  split
  · exact .inl rfl
  · exact .inr rfl

theorem reported_judgeQuiet (s : State) : Reported s (judgeQuiet s) := by
  rcases queue_judgeQuiet s with h | ⟨h, -⟩
  · exact .inl h
  · exact .inr h

theorem Part.apart_tail {p : Part} {ps qs : List Part} (h : Part.apart (p :: ps) qs = true) : Part.apart ps qs = true := by
  unfold Part.apart at h
  rw [List.all_cons, Bool.and_eq_true] at h
  exact h.2

theorem reported_keeps (s : State) : ReportKeeps (Reported s) where
  judge h := h.trans (reported_judgeQuiet _)
  status h := h.trans (reported_status _)
  aside hf hd h := h.trans (.of_frame hf (Part.apart_tail hd))

theorem Reported.eq_of_mem (h : Reported s t) (hm : Bulletin.status ∈ s.line.queue) : t.line.queue = s.line.queue := by
  rcases h with h | h
  · exact h
  · rw [h, enqueue_of_mem hm]

/-! ## The entry to SETTLING -/

/-- SETTLING with its timers started. -/
def settlingTimed (s : State) : State :=
  restartRefresh ((s.withStartup { s.startup with phase := .settling }).withPeers
    { s.peers with statusTimer := some 0, announceTimer := some 0 })

/-- R184: SETTLING with its three bulletins queued and the timers started. -/
def settlingAnnounced (s : State) : State :=
  present .status (present (.recap 0#8) (present .announce (settlingTimed s)))

theorem settlingStart_announced (h : s.phase = .joining ∧ 10 ≤ s.now) : outcome .settlingStart s
    = evaluateGates (arbitrate (evaluateSigns (deliverDeferred (settlingAnnounced s)))) := settlingStart_eq h

theorem settlingTimed_spec (s : State) : (settlingTimed s).phase = .settling ∧ (settlingTimed s).config = s.config
    ∧ (settlingTimed s).startup.address = s.startup.address
    ∧ (settlingTimed s).line.queue = s.line.queue ∧ (settlingTimed s).register = s.register ∧ (settlingTimed s).retained = s.retained
    ∧ (settlingTimed s).slide = s.slide
    ∧ (settlingTimed s).peers.statusTimer = some 0 ∧ (settlingTimed s).peers.announceTimer = some 0 := by
  have hrefresh := frame_restartRefresh ((s.withStartup { s.startup with phase := .settling }).withPeers
    { s.peers with statusTimer := some 0, announceTimer := some 0 })
  obtain ⟨hphase, hconfig, haddress⟩ := hrefresh.settings_eq (by decide)
  obtain ⟨hstatus, -⟩ := hrefresh.keeps (qs := [.statusTimer]) rfl (p := .statusTimer) (by simp)
  have hannounce := hrefresh.keeps (qs := [.announceTimer]) rfl (p := .announceTimer) (by simp)
  have hslide := hrefresh.keeps (qs := [.slide]) rfl (p := .slide) (by simp)
  refine ⟨hphase, hconfig, haddress, hrefresh.queue_eq rfl, hrefresh.register_eq rfl, hrefresh.retained_eq rfl, hslide.symm, hstatus.symm, hannounce.symm⟩

theorem settlingAnnounced_spec (h : s.line.queue = []) :
    Frame Part.ofPresent (settlingTimed s) (settlingAnnounced s)
      ∧ (settlingAnnounced s).phase = .settling ∧ (settlingAnnounced s).line.queue = [.recap 0#8, .announce, .status] := by
  have hframe : Frame Part.ofPresent (settlingTimed s) (settlingAnnounced s) :=
    (frame_present _ _).trans ((frame_present _ _).trans (frame_present _ _))
  obtain ⟨hphase, -, -, hline, -⟩ := settlingTimed_spec s
  have hqueue : ∀ (e : Bulletin) (t : State), t.phase = .settling → (present e t).phase = .settling
      ∧ (present e t).line.queue = enqueue e t.line.queue := fun e t ht =>
    ⟨((frame_present e t).phase_eq rfl).trans ht, queue_present_operating e (operating_of_eq ht rfl)⟩
  obtain ⟨h1, hq1⟩ := hqueue .announce _ hphase
  obtain ⟨h2, hq2⟩ := hqueue (.recap 0#8) _ h1
  obtain ⟨h3, hq3⟩ := hqueue .status _ h2
  refine ⟨hframe, h3, ?_⟩
  rw [settlingAnnounced, hq3, hq2, hq1, hline, h]
  rfl

/-- R184: the reports that end the entry to SETTLING leave the queue, which holds a STATUS. -/
theorem queue_settlingReports (h : Bulletin.status ∈ s.line.queue) :
    (evaluateGates (arbitrate (evaluateSigns s))).line.queue = s.line.queue :=
  ((reported_keeps s).evaluateGates
    ((Reported.of_frame (frame_evaluateSigns s) rfl).trans (.of_frame (frame_arbitrate _) rfl))).eq_of_mem h

theorem frame_settlingReports (s : State) : Frame Part.ofGates s (evaluateGates (arbitrate (evaluateSigns s))) :=
  ((frame_evaluateSigns s).widen rfl).trans (((frame_arbitrate _).widen rfl).trans (frame_evaluateGates _))

/-! ### A deferred SLIDE event -/

/-- R109: the record the station originates, by what it is formed from. -/
theorem ownRecord_congr (haddress : t.startup.address = s.startup.address) (hconfig : t.config = s.config)
    (hregister : t.register.slots = s.register.slots) (hserial : t.retained.ownSerial = s.retained.ownSerial) :
    t.nextSerial = s.nextSerial ∧ ∀ kind half state lead, t.ownRecord kind half state lead = s.ownRecord kind half state lead := by
  have hfree : ∀ n serial, t.freeSerial serial n = s.freeSerial serial n := by
    intro n
    induction n with
    | zero => exact fun _ => rfl
    | succ n ih =>
      intro serial
      simp only [State.freeSerial, State.ownId, haddress, findRecord_congr hregister, ih]
      rfl
  have hnext : t.nextSerial = s.nextSerial := by
    unfold State.nextSerial
    rw [hserial, hfree]
  refine ⟨hnext, fun kind half state lead => ?_⟩
  unfold State.ownRecord State.ownId
  rw [hnext, haddress, hconfig]

/-- R110: a SLIDE event with no own SLIDE record standing, where there is room. -/
theorem carrySlide_placed {i : Nat} (hnone : s.standingSlide = none) (hfree : freeIndex 0 s.register.slots = some i) :
    ∃ v, carrySlide s = present (.alert (s.ownId s.nextSerial)) v ∧ Frame (.slots :: .ownSerial :: Part.ofGates) s v
      ∧ Reported s v ∧ v.recordAt i = some (s.ownRecord .slide s.config.slideHalf .inForce 0)
      ∧ v.retained.ownSerial = s.nextSerial + 1 := by
  have hsettled : (s.ownRecord .slide s.config.slideHalf .inForce 0).settled = s.ownRecord .slide s.config.slideHalf .inForce 0 :=
    if_neg (fun h => absurd h.1 (by exact nofun))
  refine ⟨takeSerial s.nextSerial (storeRecord i (s.ownRecord .slide s.config.slideHalf .inForce 0) s), ?_, ?_, ?_, ?_, rfl⟩
  · unfold carrySlide
    rw [hnone]
    dsimp only
    rw [admitRecord_of_free hfree, hsettled]
    rfl
  · exact ((frame_storeRecord _ _ s).widen rfl).trans ((frame_takeSerial _ _).widen rfl)
  · exact ((reported_keeps s).storeRecord _ _ (.refl s)).trans (.of_frame (frame_takeSerial _ _) rfl)
  · rw [recordAt_takeSerial, recordAt_storeRecord_of_lt (lt_length_of_freeIndex hfree)]

theorem deliverDeferred_of_not (h : s.slide.deferred = false) : deliverDeferred s = s :=
  if_neg (by rw [h]; exact Bool.false_ne_true)

/-- R20: a deferred SLIDE event is delivered. -/
theorem deferredSlide_delivered {i : Nat} (hphase : s.phase.operating = true) (hstatus : Bulletin.status ∈ s.line.queue)
    (hdeferred : s.slide.deferred = true) (hpending : s.register.slidePending = false)
    (hnone : s.standingSlide = none) (hfree : freeIndex 0 s.register.slots = some i) :
    (deliverDeferred s).phase = s.phase ∧ (deliverDeferred s).slide.deferred = false
      ∧ (deliverDeferred s).recordAt i = some (s.ownRecord .slide s.config.slideHalf .inForce 0)
      ∧ (deliverDeferred s).line.queue = enqueue (.alert (s.ownId s.nextSerial)) s.line.queue := by
  have hdeliver : deliverDeferred s = carrySlide (s.withSlide { s.slide with deferred := false }) := by
    unfold deliverDeferred slideEvent
    rw [if_pos hdeferred]
    exact if_neg (by change ¬ s.register.slidePending = true; rw [hpending]; exact Bool.false_ne_true)
  obtain ⟨hnext, hown⟩ := ownRecord_congr (s := s) (t := s.withSlide { s.slide with deferred := false }) rfl rfl rfl rfl
  obtain ⟨v, hcarry, hframe, hreported, hrecord, -⟩ :=
    carrySlide_placed (s := s.withSlide { s.slide with deferred := false }) (i := i) hnone hfree
  have hslide := hframe.keeps (qs := [.slide]) rfl (p := .slide) (by simp)
  have hpresented := frame_present (.alert (s.ownId s.nextSerial)) v
  have hslide2 := hpresented.keeps (qs := [.slide]) rfl (p := .slide) (by simp)
  rw [hdeliver, hcarry, hnext]
  refine ⟨(hpresented.phase_eq rfl).trans (hframe.phase_eq rfl), ?_, ?_, ?_⟩
  · exact congrArg Slide.deferred (hslide.trans hslide2).symm
  · exact (recordAt_congr (hpresented.slots_eq (by decide)) i).trans (hrecord.trans (congrArg some (hown _ _ _ _)))
  · exact (queue_present_operating _ ((hframe.phase_eq rfl) ▸ hphase)).trans (congrArg _ (hreported.eq_of_mem hstatus))

theorem phasesBegin_settling (hphase : s.phase = .joining) (hnow : 10 ≤ s.now) (hqueue : s.line.queue = []) :
    (s.slide.deferred = false →
        Completes .settlingStart s (fun t =>
          t.phase = .settling ∧ t.line.queue = [.recap 0#8, .announce, .status] ∧ t.peers.statusTimer = some 0
            ∧ t.peers.announceTimer = some 0 ∧ t.register.slots = s.register.slots))
      ∧ (∀ i : Nat, s.slide.deferred = true → s.register.slidePending = false → s.standingSlide = none →
          freeIndex 0 s.register.slots = some i →
          Completes .settlingStart s (fun t =>
            t.phase = .settling ∧ t.slide.deferred = false
              ∧ t.recordAt i = some (s.ownRecord .slide s.config.slideHalf .inForce 0)
              ∧ t.line.queue = [.alert (s.ownId s.nextSerial), .recap 0#8, .announce, .status])) := by
  obtain ⟨-, hconfig, haddress, -, hregister, hretained, hslide, hstatus, hannounce⟩ := settlingTimed_spec s
  obtain ⟨hframe, hsettling, hannounced⟩ := settlingAnnounced_spec hqueue
  have hslots : (settlingAnnounced s).register.slots = s.register.slots :=
    (hframe.slots_eq (by decide)).trans (congrArg Register.slots hregister)
  have hslide2 : (settlingAnnounced s).slide = s.slide := (hframe.keeps (qs := [.slide]) rfl (p := .slide) (by simp)).symm.trans hslide
  have hmem : Bulletin.status ∈ (settlingAnnounced s).line.queue := by
    rw [hannounced]
    exact List.mem_cons_of_mem _ (List.mem_cons_of_mem _ List.mem_cons_self)
  refine ⟨fun hdeferred => ?_, fun i hdeferred hpending hnone hfree => ?_⟩
  · rw [completes_iff, settlingStart_announced ⟨hphase, hnow⟩, deliverDeferred_of_not (s := settlingAnnounced s)
      ((congrArg Slide.deferred hslide2).trans hdeferred)]
    have hall : Frame Part.ofGates (settlingTimed s) (evaluateGates (arbitrate (evaluateSigns (settlingAnnounced s)))) :=
      (hframe.widen rfl).trans (frame_settlingReports _)
    obtain ⟨hst, -⟩ := hall.keeps (qs := [.statusTimer]) rfl (p := .statusTimer) (by simp)
    have han := hall.keeps (qs := [.announceTimer]) rfl (p := .announceTimer) (by simp)
    refine ⟨?_, (queue_settlingReports hmem).trans hannounced, hst.symm.trans hstatus, han.symm.trans hannounce, ?_⟩
    · exact ((frame_settlingReports _).phase_eq rfl).trans hsettling
    · exact ((frame_settlingReports _).slots_eq (by decide)).trans hslots
  · rw [completes_iff, settlingStart_announced ⟨hphase, hnow⟩]
    have hregister2 : (settlingAnnounced s).register = s.register := (hframe.register_eq rfl).trans hregister
    obtain ⟨hnext, hown⟩ := ownRecord_congr (s := s) (t := settlingAnnounced s) ((hframe.settings_eq (by decide)).2.2.trans haddress)
      ((hframe.config_eq rfl).trans hconfig) hslots ((hframe.ownSerial_eq rfl).trans (congrArg Retained.ownSerial hretained))
    have hid : (settlingAnnounced s).ownId (settlingAnnounced s).nextSerial = s.ownId s.nextSerial := by
      unfold State.ownId
      rw [hnext, (hframe.settings_eq (by decide)).2.2.trans haddress]
    have hstanding : (settlingAnnounced s).standingSlide = none := by
      rw [← hnone]
      unfold State.standingSlide State.records
      rw [hslots]
    obtain ⟨hph, hdef, hrecord, hqueue2⟩ := deferredSlide_delivered (s := settlingAnnounced s) (operating_of_eq hsettling rfl) hmem
      ((congrArg Slide.deferred hslide2).trans hdeferred) ((congrArg Register.slidePending hregister2).trans hpending) hstanding
      ((congrArg (freeIndex 0) hslots).trans hfree)
    rw [hannounced, hid] at hqueue2
    rw [hown, (hframe.config_eq rfl).trans hconfig] at hrecord
    have hmem2 : Bulletin.status ∈ (deliverDeferred (settlingAnnounced s)).line.queue := by
      rw [hqueue2]
      exact List.mem_cons_of_mem _ (List.mem_cons_of_mem _ (List.mem_cons_of_mem _ List.mem_cons_self))
    have hreports := frame_settlingReports (deliverDeferred (settlingAnnounced s))
    have hslide3 := hreports.keeps (qs := [.slide]) rfl (p := .slide) (by simp)
    refine ⟨?_, ?_, ?_, ?_⟩
    · exact (hreports.phase_eq rfl).trans (hph.trans hsettling)
    · exact (congrArg Slide.deferred hslide3).symm.trans hdef
    · exact (recordAt_congr (hreports.slots_eq (by decide)) i).trans hrecord
    · exact (queue_settlingReports hmem2).trans hqueue2

/-! ## The entry to RUNNING -/

/-- R122: how far a serial lies ahead of the counter. -/
def aheadBy (counter x : Byte) : Nat := (x - counter).toNat

theorem aheadBy_succ {k x : Byte} (h : aheadBy k x ≤ 127) : aheadBy k (x + 1) = aheadBy k x + 1 := by
  unfold aheadBy at *
  bv_omega

/-- R122: the counter moves past the farthest of the serials. -/
theorem foldl_raise (k : Byte) : ∀ (l : List Byte), (∀ x ∈ l, aheadBy k x ≤ 127) → ∀ c, 
    (∀ x ∈ l, aheadBy k x + 1 ≤ aheadBy k (l.foldl (fun c x => if aheadBy k c ≤ aheadBy k x then x + 1 else c) c))
      ∧ aheadBy k c ≤ aheadBy k (l.foldl (fun c x => if aheadBy k c ≤ aheadBy k x then x + 1 else c) c)
      ∧ (l.foldl (fun c x => if aheadBy k c ≤ aheadBy k x then x + 1 else c) c = c
          ∨ ∃ x ∈ l, l.foldl (fun c x => if aheadBy k c ≤ aheadBy k x then x + 1 else c) c = x + 1) := by
  intro l
  induction l with
  | nil => exact fun _ c => ⟨fun x hx => (List.not_mem_nil hx).elim, le_refl _, .inl rfl⟩
  | cons y rest ih =>
    intro hbound c
    have hy := aheadBy_succ (hbound y List.mem_cons_self)
    rw [List.foldl_cons]
    obtain ⟨hall, hle, hfrom⟩ := ih (fun x hx => hbound x (List.mem_cons_of_mem _ hx))
      (if aheadBy k c ≤ aheadBy k y then y + 1 else c)
    have hfirst : aheadBy k y + 1 ≤ aheadBy k (if aheadBy k c ≤ aheadBy k y then y + 1 else c)
        ∧ aheadBy k c ≤ aheadBy k (if aheadBy k c ≤ aheadBy k y then y + 1 else c) := by
      split <;> omega
    refine ⟨fun x hx => ?_, hfirst.2.trans hle, ?_⟩
    · rcases List.mem_cons.mp hx with rfl | hx
      · exact hfirst.1.trans hle
      · exact hall x hx
    · rcases hfrom with hfrom | ⟨x, hx, hfrom⟩
      · rw [hfrom]
        split
        · exact .inr ⟨y, List.mem_cons_self, rfl⟩
        · exact .inl rfl
      · exact .inr ⟨x, List.mem_cons_of_mem _ hx, hfrom⟩

theorem raisedSerial_eq (k : Byte) (l : List Byte) :
    raisedSerial k l = l.foldl (fun c x => if aheadBy k c ≤ aheadBy k x then x + 1 else c) k := rfl

theorem mem_forwardSerials (s : State) (v : Byte) : v ∈ s.forwardSerials ↔ aheadBy s.retained.ownSerial v ≤ 127
    ∧ ∃ i r, s.recordAt i = some r ∧ r.own = true ∧ r.id.serial = v := by
  unfold State.forwardSerials
  rw [List.mem_filter, decide_eq_true_eq, and_comm]
  refine and_congr_right fun _ => ?_
  simp only [List.mem_map, List.mem_filter, Prod.exists, mem_records, and_assoc]

/-- R122: with none ahead the counter stays; else it is one more than the farthest. -/
theorem raisedSerial_spec (s : State) :
    ((∀ v, v ∉ s.forwardSerials) → raisedSerial s.retained.ownSerial s.forwardSerials = s.retained.ownSerial)
      ∧ ∀ v ∈ s.forwardSerials, (∀ w ∈ s.forwardSerials, aheadBy s.retained.ownSerial w ≤ aheadBy s.retained.ownSerial v) →
        raisedSerial s.retained.ownSerial s.forwardSerials = v + 1 := by
  refine ⟨fun hnone => ?_, fun v hv hmax => ?_⟩
  · rw [List.eq_nil_iff_forall_not_mem.mpr hnone]
    rfl
  · have hbound : ∀ x ∈ s.forwardSerials, aheadBy s.retained.ownSerial x ≤ 127 := fun x hx => ((mem_forwardSerials s x).mp hx).1
    obtain ⟨hall, -, hfrom⟩ := foldl_raise s.retained.ownSerial s.forwardSerials hbound s.retained.ownSerial
    rw [← raisedSerial_eq] at hall hfrom
    have hv1 := hall v hv
    rcases hfrom with hfrom | ⟨x, hx, hfrom⟩
    · rw [hfrom] at hv1
      unfold aheadBy at hv1
      simp at hv1
    · rw [hfrom] at hv1 ⊢
      rw [aheadBy_succ (hbound x hx)] at hv1
      have hxv := hmax x hx
      have heq : aheadBy s.retained.ownSerial x = aheadBy s.retained.ownSerial v := by omega
      unfold aheadBy at heq
      have := BitVec.eq_of_toNat_eq heq
      rw [show x = v from sub_left_injective this]

/-- QUIET does not hold, and its entry timer has not begun to count. -/
def Untimed (s : State) : Prop := s.startup.quiet = false ∧ (s.startup.entryTimer = none ∨ s.startup.entryTimer = some 0)

theorem judgeQuiet_of_untimed (h : Untimed s) (hrun : s.phase = .running) : judgeQuiet s
    = s.withStartup { s.startup with entryTimer := if s.favourable then some 0 else none } := by
  obtain ⟨hquiet, htimer⟩ := h
  unfold judgeQuiet
  rw [if_pos hrun, hquiet, if_neg Bool.false_ne_true]
  cases hfav : s.favourable with
  | false => rfl
  | true =>
    rcases htimer with ht | ht
    · rw [ht]
      rfl
    · rw [ht]
      change s = s.withStartup { s.startup with entryTimer := some 0 }
      rw [← ht]
      rfl

theorem Untimed.of_frame {qs : List Part} (h : Untimed s) (hf : Frame qs s t) (hd : Part.apart [.quiet] qs = true) : Untimed t := by
  obtain ⟨hquiet, htimer⟩ := hf.keeps hd (p := .quiet) (by simp)
  unfold Untimed
  rw [← hquiet, ← htimer]
  exact h

theorem untimed_keeps : ReportKeeps Untimed where
  judge {s} h := by
    by_cases hrun : s.phase = .running
    · rw [judgeQuiet_of_untimed h hrun]
      refine ⟨h.1, ?_⟩
      change (if s.favourable = true then some 0 else none) = none ∨ (if s.favourable = true then some 0 else none) = some 0
      split
      · exact .inr rfl
      · exact .inl rfl
    · rw [judgeQuiet_of_not_running hrun]
      exact h
  status h := h.of_frame (frame_present _ _) rfl
  aside hf hd h := h.of_frame hf (by
    unfold Part.apart at hd ⊢
    rw [List.all_cons, Bool.and_eq_true] at hd
    rw [List.all_cons, List.all_nil, hd.1]
    rfl)

theorem untimed_vacate (i : Nat) (h : Untimed s) : Untimed (vacate i s) := by
  cases hr : s.recordAt i with
  | none =>
    unfold vacate
    rw [hr]
    exact h
  | some r =>
    rw [vacate_eq hr]
    exact untimed_keeps.reportRecords (h.of_frame (frame_removeEntries i r s) rfl)

theorem untimed_admitRecord (r : ClosureRecord) (h : Untimed s) : Untimed (admitRecord r s).1 := by
  unfold admitRecord
  split
  · exact untimed_keeps.storeRecord _ _ h
  · split
    · exact untimed_keeps.storeRecord _ _ (untimed_vacate _ h)
    · have hset : Untimed (s.withRegister { s.register with full := true }) := h.of_frame (frame_full s true) rfl
      unfold setFull
      split
      · exact h
      · exact hset.of_frame (frame_present _ _) rfl

theorem untimed_bringForward (h : Untimed s) : Untimed (bringForward s) := by
  have hat : ∀ j t, Untimed t → Untimed (bringForwardAt j t) := fun j t ht => by
    unfold bringForwardAt
    split
    · dsimp only
      split
      · exact untimed_keeps.storeRecord _ _ (ht.of_frame (frame_queueOwn _ _) rfl)
      · exact ht
    · exact ht
  unfold bringForward
  split
  · exact forIndices_keeps hat h
  · exact h

theorem untimed_autocloseTest (h : Untimed s) : Untimed (autocloseTest s) := by
  by_cases hcalled : s.Called
  · rw [autocloseTest_of_called hcalled]
    have horiginate : Untimed (originate s).1 := by
      have hadmit := untimed_admitRecord s.autocloseRecord h
      unfold originate
      dsimp only
      split
      · next e =>
        rw [show admitRecord s.autocloseRecord s = _ from e] at hadmit
        exact (hadmit.of_frame (frame_takeSerial _ _) rfl).of_frame (frame_queueOwn _ _) rfl
      · next e =>
        rw [show admitRecord s.autocloseRecord s = _ from e] at hadmit
        exact hadmit
    split
    · exact untimed_bringForward horiginate
    · exact horiginate
  · rw [autocloseTest_eq_self hcalled]
    exact h

/-- R185: RUNNING with the serial counter raised and the walker restarted. -/
def runningStarted (s : State) : State := restartWalker (raiseSerial (s.withStartup { s.startup with phase := .running }))

theorem restartWalker_of_running (h : s.phase = .running) : restartWalker s
    = walkerAdvance (s.withRegister { s.register with walkerIndex := 0, walkerFast := true }) := if_pos h

theorem walkerAdvance_walker (s : State) : (walkerAdvance s).register.walkerIndex = (s.register.walkerIndex + 1) % 16
    ∧ (walkerAdvance s).register.walkerFast = (s.register.walkerFast && decide (s.register.walkerIndex < 15))
    ∧ (walkerAdvance s).register.walkerTimer
      = some (if s.register.walkerFast && decide (s.register.walkerIndex < 15) then 2 else 20) := ⟨rfl, rfl, rfl⟩

theorem runningStarted_spec (s : State) :
    Frame (.settings :: .ownSerial :: .walker :: Part.ofPresent) s (runningStarted s)
    ∧ (runningStarted s).phase = .running ∧ (runningStarted s).config = s.config
    ∧ (runningStarted s).startup.address = s.startup.address
    ∧ (runningStarted s).retained.ownSerial = raisedSerial s.retained.ownSerial s.forwardSerials
    ∧ (runningStarted s).register.walkerIndex = 1 ∧ (runningStarted s).register.walkerFast = true
    ∧ (runningStarted s).register.walkerTimer = some 2 := by
  have hwalk := frame_restartWalker (raiseSerial (s.withStartup { s.startup with phase := .running }))
  obtain ⟨hphase, hconfig, haddress⟩ := hwalk.settings_eq (by decide)
  have hstart : Frame [.settings] s (s.withStartup { s.startup with phase := .running }) := fun p hp => by
    cases p <;> simp_all [Part.agree]
  have hraise := frame_raiseSerial (s.withStartup { s.startup with phase := .running })
  have hadvance : runningStarted s = _ :=
    restartWalker_of_running (s := raiseSerial (s.withStartup { s.startup with phase := .running })) rfl
  obtain ⟨hindex, hfast, htimer⟩ := walkerAdvance_walker ((raiseSerial (s.withStartup { s.startup with phase := .running })).withRegister
      { (raiseSerial (s.withStartup { s.startup with phase := .running })).register with walkerIndex := 0, walkerFast := true })
  rw [← hadvance] at hindex hfast htimer
  exact ⟨(hstart.widen rfl).trans ((hraise.widen rfl).trans (hwalk.widen rfl)), hphase, hconfig, haddress, hwalk.ownSerial_eq rfl,
    hindex, hfast, htimer⟩

theorem frame_runningReports (s : State) : Frame Part.ofRecords s (bringForward (autocloseTest s)) :=
  (frame_autocloseTest s).trans (frame_bringForward _)

/-- R112: the serial an origination takes, where there is room. -/
theorem ownSerial_autocloseTest (h : s.Called) (hfree : freeIndex 0 s.register.slots ≠ none) :
    (autocloseTest s).retained.ownSerial = s.nextSerial + 1 := by
  obtain ⟨i, hi⟩ := Option.ne_none_iff_exists'.mp hfree
  rw [autocloseTest_of_called h, originate_of_free hi, if_pos rfl, (frame_bringForward_slots _).ownSerial_eq rfl,
    (frame_queueOwn _ _).ownSerial_eq rfl]
  rfl

theorem phasesBegin_running (hphase : s.phase = .settling) (hnow : 70 ≤ s.now) (hquiet : s.startup.quiet = false)
    (htimer : s.startup.entryTimer = none) :
    Completes .runningEntry s (fun t =>
        t.phase = .running ∧ t.register.walkerIndex = 1 ∧ t.register.walkerFast = true ∧ t.register.walkerTimer = some 2
          ∧ t.startup.quiet = false ∧ t.startup.entryTimer = (if t.favourable then some 0 else none)
          ∧ (let raised := raisedSerial s.retained.ownSerial s.forwardSerials
            let called : Prop :=
              s.config.autoclose ≠ none
                ∧ (∀ l : Nat, s.config.autoclose = some l → l ≤ max s.hazard.computed s.hazard.floorLevel)
                ∧ (∀ j r, s.recordAt j = some r → r.own = true → r.kind = .avalanche → r.state = .lifted)
                ∧ s.hazard.hold = none
            (¬ called → t.retained.ownSerial = raised)
              ∧ (called → freeIndex 0 s.register.slots ≠ none →
                  t.retained.ownSerial = (s.withRetained { s.retained with ownSerial := raised }).nextSerial + 1))) := by
  rw [completes_iff, runningEntry_eq ⟨hphase, hnow⟩]
  obtain ⟨hstart, hrunning, hconfig, haddress, hserial, hindex, hfast, hwalk⟩ := runningStarted_spec s
  have hends : Frame Part.ofGates (bringForward (autocloseTest (runningStarted s)))
      (evaluateGates (evaluateSigns (bringForward (autocloseTest (runningStarted s))))) :=
    ((frame_evaluateSigns _).widen rfl).trans (frame_evaluateGates _)
  have huntimed : Untimed (evaluateGates (evaluateSigns (bringForward (autocloseTest (runningStarted s))))) := by
    have h0 : Untimed (runningStarted s) := Untimed.of_frame ⟨hquiet, .inl htimer⟩ hstart rfl
    exact untimed_keeps.evaluateGates ((untimed_bringForward (untimed_autocloseTest h0)).of_frame (frame_evaluateSigns _) rfl)
  have hall : Frame Part.ofRecords (runningStarted s) (evaluateGates (evaluateSigns (bringForward (autocloseTest (runningStarted s))))) :=
    (frame_runningReports _).trans (hends.widen rfl)
  have hslots : (runningStarted s).register.slots = s.register.slots := hstart.slots_eq (by decide)
  have hhazard : (runningStarted s).hazard = s.hazard := hstart.hazard_eq rfl
  have hcalledIff : (runningStarted s).Called ↔ s.config.autoclose ≠ none
        ∧ (∀ l : Nat, s.config.autoclose = some l → l ≤ max s.hazard.computed s.hazard.floorLevel)
        ∧ (∀ j r, s.recordAt j = some r → r.own = true → r.kind = .avalanche → r.state = .lifted)
        ∧ s.hazard.hold = none := by
    simp only [State.Called, hconfig, hhazard, recordAt_congr hslots, hrunning, and_true]
  have hownSerial : (evaluateGates (evaluateSigns (bringForward (autocloseTest (runningStarted s))))).retained.ownSerial
      = (autocloseTest (runningStarted s)).retained.ownSerial :=
    (hends.ownSerial_eq rfl).trans ((frame_bringForward_slots _).ownSerial_eq rfl)
  obtain ⟨hw1, hw2, hw3⟩ := hall.keeps (qs := [.walker]) rfl (p := .walker) (by simp)
  have hphaseEnd := (hall.phase_eq rfl).trans hrunning
  change (judgeQuiet (evaluateGates (evaluateSigns (bringForward (autocloseTest (runningStarted s)))))).phase = .running ∧ _
  rw [show runningStarted s = restartWalker (raiseSerial (s.withStartup { s.startup with phase := .running })) from rfl] at *
  generalize evaluateGates (evaluateSigns (bringForward (autocloseTest (restartWalker (raiseSerial (s.withStartup
    { s.startup with phase := .running })))))) = e at *
  rw [judgeQuiet_of_untimed huntimed hphaseEnd]
  refine ⟨hphaseEnd, hw1.symm.trans hindex, hw2.symm.trans hfast, hw3.symm.trans hwalk, huntimed.1, rfl, fun hn => ?_, fun hc hf => ?_⟩
  · refine hownSerial.trans ?_
    rw [autocloseTest_eq_self (mt hcalledIff.mp hn)]
    exact hserial
  · refine hownSerial.trans ?_
    rw [ownSerial_autocloseTest (hcalledIff.mpr hc) (by rw [hslots]; exact hf)]
    congr 1
    exact (ownRecord_congr (s := s.withRetained { s.retained with ownSerial := raisedSerial s.retained.ownSerial s.forwardSerials })
      haddress hconfig hslots hserial).1

/-- Settles O20: each phase begins in its announcements, and the reports that end its entry leave what they set. -/
theorem phasesBegin : Obligations.PhasesBegin := by
  refine ⟨fun s hphase hnow hqueue => phasesBegin_settling hphase hnow hqueue,
    fun s hphase hnow hquiet htimer => phasesBegin_running hphase hnow hquiet htimer, fun s => ?_⟩
  obtain ⟨hnone, hsome⟩ := raisedSerial_spec s
  refine ⟨fun h => hnone fun v hv => h v ((mem_forwardSerials s v).mp hv), fun v hv hmax => ?_⟩
  exact hsome v ((mem_forwardSerials s v).mpr hv) fun w hw => hmax w ((mem_forwardSerials s w).mp hw)

end Sys2Proof.Machine
end

section
/-! PROOF. A received frame (R58, R61 to R64, R78 to R84): its end, the sender's entry in the peer table, and the report that follows;
what they write is all that an ignored order leaves behind (R85). -/

namespace Sys2Proof.Machine

open Sys2Proof

variable {s t u : State}

/-! ## The end of the frame -/

theorem Line.restartWait_eq_self {l : Line} (h : l.wait ≠ some .interrupted) : l.restartWait = l := by
  unfold Line.restartWait
  split
  · next hw => exact absurd hw h
  · rfl

/-- R58, R70: the end of a frame. -/
theorem endFrame_eq (h : s.line.receiver ≠ .inactive) : ∃ w d,
    endFrame s = s.withLine { s.line with receiver := .hunting, echo := false, wait := w, draws := d }
      ∧ (s.line.wait ≠ some .interrupted → w = s.line.wait ∧ d = s.line.draws) := by
  obtain ⟨w, d, he, -⟩ := Line.restartWait_spec { s.line with receiver := .hunting, echo := false }
  refine ⟨w, d, ?_, fun hw => ?_⟩
  · unfold endFrame
    rw [if_neg h, he]
  · have hself := Line.restartWait_eq_self (l := { s.line with receiver := .hunting, echo := false }) hw
    rw [he] at hself
    exact ⟨congrArg Line.wait hself, congrArg Line.draws hself⟩

theorem queue_endFrame (s : State) : (endFrame s).line.queue = s.line.queue := (frame_endFrame s).queue_eq rfl

/-! ## The table -/

theorem findPeer_cons (a : Byte) (q : Peer) (rest : List Peer) :
    findPeer a (q :: rest) = if q.address = a then some q else findPeer a rest := by
  unfold findPeer
  rw [List.find?_cons]
  split
  · next h => rw [if_pos (of_decide_eq_true h)]
  · next h => rw [if_neg (of_decide_eq_false h)]

theorem findPeer_putPeer_self (p : Peer) : ∀ ps : List Peer, findPeer p.address (putPeer p ps) = some p
  | [] => by rw [putPeer, findPeer_cons, if_pos rfl]
  | q :: rest => by
    unfold putPeer
    split
    · rw [findPeer_cons, if_pos rfl]
    · split
      · rw [findPeer_cons, if_pos rfl]
      · next hne => rw [findPeer_cons, if_neg hne, findPeer_putPeer_self p rest]

theorem findPeer_putPeer_of_ne {p : Peer} {a : Byte} (h : a ≠ p.address) : ∀ ps : List Peer, findPeer a (putPeer p ps) = findPeer a ps
  | [] => by rw [putPeer, findPeer_cons, if_neg h.symm]
  | q :: rest => by
    unfold putPeer
    split
    · rw [findPeer_cons, if_neg h.symm]
    · split
      · next heq => rw [findPeer_cons, if_neg h.symm, findPeer_cons, if_neg (heq ▸ h.symm)]
      · rw [findPeer_cons, findPeer_cons, findPeer_putPeer_of_ne h rest]

theorem findPeer_storePeer_self {p : Peer} {a : Byte} (h : p.address = a) (s : State) : (storePeer p s).findPeer a = some p :=
  h ▸ findPeer_putPeer_self p _

theorem findPeer_storePeer_of_ne {p : Peer} {a : Byte} (h : a ≠ p.address) (s : State) : (storePeer p s).findPeer a = s.findPeer a :=
  findPeer_putPeer_of_ne h _

theorem findPeer_address {a : Byte} {p : Peer} (h : s.findPeer a = some p) : p.address = a := (findPeer_some h).2

/-- R79: an entry of the same address takes the place of the one held. -/
theorem findPeer_storePeer {a : Byte} {p q : Peer} (hf : s.findPeer a = some p) (hq : q.address = p.address) :
    (storePeer q s).findPeer a = some q ∧ ∀ b, b ≠ a → (storePeer q s).findPeer b = s.findPeer b := by
  have haddress : q.address = a := hq.trans (findPeer_address hf)
  exact ⟨findPeer_storePeer_self haddress s, fun b hb => findPeer_storePeer_of_ne (haddress ▸ hb) s⟩

theorem Frame.findPeer_eq {qs : List Part} (h : Frame qs s t) (hd : Part.apart [.peerEntries] qs = true) (a : Byte) :
    t.findPeer a = s.findPeer a := by
  have hentries : s.peers.entries = t.peers.entries := h.keeps hd (p := .peerEntries) (by simp)
  unfold State.findPeer
  rw [hentries]

/-! ## The sender's entry -/

/-- R79 to R82: the sender's entry after the frame. -/
def State.servedPeer (s : State) (h : FrameHeader) (take : Peer → Peer) : Peer :=
  match s.findPeer h.source with
  | none => take (s.newPeer h)
  | some p => take { p with lastSequence := h.sequence, age := 0, presence := .heard }

/-- R83: the entry stored, and reported where it says of a neighbour what it did not say before. -/
def served (h : FrameHeader) (take : Peer → Peer) (s : State) : State :=
  if s.neighbourChange (s.findPeer h.source) (s.servedPeer h take) then reportPeers (storePeer (s.servedPeer h take) s)
  else storePeer (s.servedPeer h take) s

/-- R80: the frame leaves a gap in the sender's sequence. -/
def State.gapFound (s : State) (h : FrameHeader) : Bool :=
  match s.findPeer h.source with
  | none => false
  | some p => decide (judgeSequence p h.sequence = .gap)

/-- R78 to R84: the peer table's service of a frame that is no duplicate. -/
theorem servePeer_eq {h : FrameHeader} {take : Peer → Peer}
    (hd : ∀ p, s.findPeer h.source = some p → judgeSequence p h.sequence ≠ .duplicate) :
    servePeer h take s = (if s.gapFound h then noteGap h.source (served h take s) else served h take s, true) := by
  unfold servePeer served State.servedPeer State.gapFound
  cases hf : s.findPeer h.source with
  | none => rfl
  | some p =>
    dsimp only
    split
    · next hj => exact absurd hj (hd p hf)
    · simp only [decide_eq_true_eq]

theorem servePeer_duplicate {h : FrameHeader} {take : Peer → Peer} {p : Peer} (hf : s.findPeer h.source = some p)
    (hj : judgeSequence p h.sequence = .duplicate) : servePeer h take s = (storePeer { p with age := 0 } s, false) := by
  unfold servePeer
  rw [hf]
  dsimp only
  rw [hj]

/-- R78: a heard frame is the end of the frame, the peer table's service, and its kind's. -/
theorem receiveFrame_heard {h : FrameHeader} (hh : Heard h s) (take : Peer → Peer) (serve : State → State) :
    receiveFrame h take serve s = serve (if (endFrame s).gapFound h then noteGap h.source (served h take (endFrame s))
      else served h take (endFrame s)) := by
  obtain ⟨hactive, hsending, hecho, hgood, haddr, hdup⟩ := hh
  have hserve := servePeer_eq (s := endFrame s) (take := take) (h := h) fun p hp => hdup p (endFrame_findPeer s _ ▸ hp)
  unfold receiveFrame
  rw [if_neg hactive, hsending, hecho, hgood]
  dsimp only
  rw [if_neg (by decide), if_neg haddr, hserve]

/-! ## Reports of the table -/

theorem ReportKeeps.recomputeEffective {law : State → Prop} (h : ReportKeeps law) (hs : law s) : law (Machine.recomputeEffective s) := by
  unfold Machine.recomputeEffective
  split
  · exact hs
  · exact h.judge (h.aside (frame_evaluateSigns _) rfl (h.status (h.aside (frame_effective s _) rfl hs)))

theorem ReportKeeps.reportPeers {law : State → Prop} (h : ReportKeeps law) (hs : law s) : law (Machine.reportPeers s) := by
  have hset : law (s.withHazard { s.hazard with
      neighbourFloor := s.neighbourFloorNow, neighbourSilent := s.neighbourSilentNow }) :=
    h.aside (qs := [.neighbours]) (fun p hp => by cases p <;> simp_all [Part.agree]) rfl hs
  unfold Machine.reportPeers recomputeNeighbours
  split
  · refine h.judge ?_
    dsimp only
    split
    · exact h.recomputeEffective hset
    · exact h.judge (h.aside (frame_evaluateSigns _) rfl (h.status (h.recomputeEffective hset)))
  · exact hs

theorem reported_served (h : FrameHeader) (take : Peer → Peer) (s : State) : Reported s (served h take s) := by
  have hstore : Reported s (storePeer (s.servedPeer h take) s) := .of_frame (frame_storePeer _ s) rfl
  unfold served
  split
  · exact (reported_keeps s).reportPeers hstore
  · exact hstore

theorem frame_served (h : FrameHeader) (take : Peer → Peer) (s : State) : Frame Part.ofPeers s (served h take s) :=
  Frame.ite (((frame_storePeer _ s).widen rfl).trans ((frame_reportPeers _).widen rfl)) ((frame_storePeer _ s).widen rfl)

theorem servedPeer_address {h : FrameHeader} {take : Peer → Peer} (ht : ∀ p, (take p).address = p.address) (s : State) :
    (s.servedPeer h take).address = h.source := by
  unfold State.servedPeer
  split
  · exact ht _
  · next p hp =>
    have haddress := findPeer_address hp
    exact (ht _).trans haddress

/-- R79: the sender's entry is stored, and no other is touched. -/
theorem findPeer_served {h : FrameHeader} {take : Peer → Peer} (ht : ∀ p, (take p).address = p.address) (s : State) :
    (served h take s).findPeer h.source = some (s.servedPeer h take)
      ∧ ∀ a, a ≠ h.source → (served h take s).findPeer a = s.findPeer a := by
  have haddr := servedPeer_address (h := h) ht s
  have hreport : ∀ a, (served h take s).findPeer a = (storePeer (s.servedPeer h take) s).findPeer a := fun a => by
    unfold served
    split
    · exact (frame_reportPeers _).findPeer_eq rfl a
    · rfl
  refine ⟨(hreport _).trans (findPeer_storePeer_self haddr s), fun a ha => (hreport a).trans (findPeer_storePeer_of_ne ?_ s)⟩
  rw [haddr]
  exact ha

/-! ## Entries that join the queue -/

theorem mem_queue_present {e x : Bulletin} (h : x ∈ (present e s).line.queue) : x = e ∨ x ∈ s.line.queue := by
  rw [queue_present] at h
  split at h
  · exact .inr h
  · exact mem_of_mem_enqueue h

theorem Reported.mem (h : Reported s t) {x : Bulletin} (hx : x ∈ t.line.queue) : x = .status ∨ x ∈ s.line.queue := by
  rcases h with h | h
  · exact .inr (h ▸ hx)
  · exact mem_of_mem_enqueue (h ▸ hx)

theorem mem_queue_noteGap {a : Byte} {x : Bulletin} (h : x ∈ (noteGap a s).line.queue) : x = .recap a ∨ x ∈ s.line.queue := by
  unfold noteGap at h
  split at h
  · exact .inr h
  · split at h
    · exact .inr h
    · split at h
      · exact mem_queue_present h
      · exact .inr ((frame_storePeer _ s).queue_eq rfl ▸ h)

/-! ## An order that is ignored -/

/-- What the peer table's service leaves of a state. -/
theorem eq_of_frame_ofPeers (h : Frame Part.ofPeers s t) :
    t = { s with line := t.line, peers := t.peers, hazard := t.hazard, signs := t.signs, link := t.link, startup := t.startup }
      ∧ t.line = { s.line with queue := t.line.queue, wait := t.line.wait, draws := t.line.draws }
      ∧ t.peers = { s.peers with entries := t.peers.entries }
      ∧ t.hazard = { s.hazard with neighbourFloor := t.hazard.neighbourFloor, neighbourSilent := t.hazard.neighbourSilent,
                                   effective := t.hazard.effective }
      ∧ t.startup = { s.startup with quiet := t.startup.quiet, entryTimer := t.startup.entryTimer } := by
  have hpending : s.pending = t.pending := h .pending (by decide)
  have hpins : s.pins = t.pins := h .pins (by decide)
  have hclock : s.clock = t.clock := h .clock (by decide)
  have hchannels := h.channels_eq rfl
  have hslide : s.slide = t.slide := h .slide (by decide)
  have hretained := h.retained_eq rfl
  have hpartial : s.partialPending = t.partialPending := h .partialPending (by decide)
  have hregister := h.register_eq rfl
  have hpair : s.replyPair = t.replyPair := h .replyPair (by decide)
  have hgates := h.gates_eq rfl
  obtain ⟨hr1, hr2, hr3, hr4⟩ := h .receiver (by decide)
  obtain ⟨hf1, hf2, hf3, hf4⟩ := h .flight (by decide)
  obtain ⟨hl1, hl2, hl3⟩ := h .lineFlags (by decide)
  obtain ⟨hs1, hs2⟩ := h .statusTimer (by decide)
  have ha : s.peers.announceTimer = t.peers.announceTimer := h .announceTimer (by decide)
  obtain ⟨hc1, hc2, hc3, hc4, hc5, hc6, hc7⟩ := h .computation (by decide)
  obtain ⟨hw1, hw2⟩ := h .floor (by decide)
  have hlift : s.hazard.liftCounter = t.hazard.liftCounter := h .liftCounter (by decide)
  have hhold : s.hazard.hold = t.hazard.hold := h .hold (by decide)
  have hsettings := h .settings (by decide)
  unfold Part.agree at hsettings
  refine ⟨?_, ?_, ?_, ?_, ?_⟩
  · cases s; cases t
    simp_all
  · cases hx : s.line; cases hy : t.line
    simp_all
  · cases hx : s.peers; cases hy : t.peers
    simp_all
  · cases hx : s.hazard; cases hy : t.hazard
    simp_all
  · cases hx : s.startup; cases hy : t.startup
    simp_all

/-- The state after the frame's end and the peer table's service. -/
def tabled (h : FrameHeader) (take : Peer → Peer) (s : State) : State :=
  if s.gapFound h then noteGap h.source (served h take s) else served h take s

theorem frame_tabled (h : FrameHeader) (take : Peer → Peer) (s : State) : Frame Part.ofPeers s (tabled h take s) :=
  Frame.ite ((frame_served h take s).trans ((frame_noteGap _ _).widen rfl)) (frame_served h take s)

theorem mem_queue_tabled {h : FrameHeader} {take : Peer → Peer} {x : Bulletin} (hx : x ∈ (tabled h take s).line.queue) :
    x ∈ s.line.queue ∨ x = .status ∨ x = .recap h.source := by
  have hserved : x ∈ (served h take s).line.queue → x ∈ s.line.queue ∨ x = .status ∨ x = .recap h.source := fun hm =>
    ((reported_served h take s).mem hm).elim (fun he => .inr (.inl he)) .inl
  unfold tabled at hx
  split at hx
  · exact (mem_queue_noteGap hx).elim (fun he => .inr (.inr he)) hserved
  · exact hserved hx

/-- R80, R83: a frame in sequence from a HEARD sender says nothing new of a neighbour. -/
theorem tabled_inSequence {h : FrameHeader} {p : Peer} (hf : s.findPeer h.source = some p) (hheard : p.presence = .heard)
    (hseq : h.sequence = p.lastSequence + 1) :
    tabled h (fun p => p) s = storePeer { p with lastSequence := h.sequence, age := 0 } s := by
  have hpeer : s.servedPeer h (fun p => p) = { p with lastSequence := h.sequence, age := 0 } := by
    unfold State.servedPeer
    rw [hf, ← hheard]
  have hgap : s.gapFound h = false := by
    have hne : p.lastSequence + 1 ≠ p.lastSequence := by bv_omega
    unfold State.gapFound judgeSequence
    rw [hf]
    dsimp only
    rw [if_pos hheard, hseq, if_neg hne, if_pos rfl]
    rfl
  have hsame : s.neighbourChange (some p) { p with lastSequence := h.sequence, age := 0 } = false := by
    have hiff : s.isNeighbour { p with lastSequence := h.sequence, age := 0 } = s.isNeighbour p := rfl
    unfold State.neighbourChange
    simp [hiff]
  unfold tabled served
  rw [hgap, hpeer, hf, hsame]
  rfl

/-- R85: a heard frame whose kind's service changes nothing. -/
theorem orderIgnored_of_served {h : FrameHeader} (hh : Heard h s) {serve : State → State}
    (hserve : ∀ u, Frame Part.ofFrame s u → serve u = u) : OrderIgnored h s (receiveFrame h (fun p => p) serve s) := by
  obtain ⟨hactive, -⟩ := id hh
  have hframe := frame_tabled h (fun p => p) (endFrame s)
  have hall : Frame Part.ofFrame s (tabled h (fun p => p) (endFrame s)) :=
    ((frame_endFrame s).widen rfl).trans (hframe.widen rfl)
  rw [show receiveFrame h (fun p => p) serve s = serve (tabled h (fun p => p) (endFrame s)) from receiveFrame_heard hh _ _,
    hserve _ hall]
  obtain ⟨w, d, hend, -⟩ := endFrame_eq hactive
  obtain ⟨hstate, hline, hpeers, hhazard, hstartup⟩ := eq_of_frame_ofPeers hframe
  have hbefore : ∀ a, (endFrame s).findPeer a = s.findPeer a := endFrame_findPeer s
  refine ⟨?_, ?_, ?_, ?_, ?_, fun e he => ?_, fun p hp hheard hseq => ?_⟩
  · rw [hend] at hstate ⊢
    exact hstate
  · rw [hend] at hline ⊢
    exact hline
  · rw [hend] at hpeers ⊢
    exact hpeers
  · rw [hend] at hhazard ⊢
    exact hhazard
  · rw [hend] at hstartup ⊢
    exact hstartup
  · exact queue_endFrame s ▸ mem_queue_tabled he
  · rw [tabled_inSequence ((hbefore _).trans hp) hheard hseq]
    obtain ⟨hself, hothers⟩ := findPeer_storePeer (q := { p with lastSequence := h.sequence, age := 0 }) ((hbefore _).trans hp) rfl
    refine ⟨?_, queue_endFrame s, hself, fun a ha => (hothers a ha).trans (hbefore a)⟩
    rw [hend]
    rfl

/-! ## Duplicates and own frames -/

/-- R64, R80: `t` differs from `s` by the frame's end and by the peer table. -/
def FrameEnded (s t : State) : Prop :=
  t = { s with line := t.line, peers := t.peers }
    ∧ t.line = { s.line with receiver := .hunting, echo := false, wait := t.line.wait, draws := t.line.draws }
    ∧ (s.line.wait ≠ some .interrupted → t.line.wait = s.line.wait ∧ t.line.draws = s.line.draws)

theorem frameEnded_endFrame (h : s.line.receiver ≠ .inactive) : FrameEnded s (endFrame s) := by
  obtain ⟨w, d, he, hw⟩ := endFrame_eq h
  rw [he]
  exact ⟨rfl, rfl, hw⟩

theorem frameEnded_withPeers (h : s.line.receiver ≠ .inactive) (x : PeerTable) : FrameEnded s ((endFrame s).withPeers x) := by
  obtain ⟨w, d, he, hw⟩ := endFrame_eq h
  rw [he]
  exact ⟨rfl, rfl, hw⟩

theorem frameHeader_reception {c : Instr} {h : FrameHeader} (hc : frameHeader c = some h) :
    ∃ take serve, reception c = some (h, take, serve) := by
  cases c <;> cases hc <;> exact ⟨_, _, rfl⟩

/-- R62, R93: the change of ADDRESS-CONFLICT, and what it queues. -/
theorem addressConflict_spec (hclear : s.line.addressConflict = false) :
    (∃ q w d, addressConflict s = s.withLine { s.line with addressConflict := true, queue := q, wait := w, draws := d })
      ∧ (s.phase.operating = true → (addressConflict s).line.queue = enqueue .status s.line.queue)
      ∧ (s.phase = .configFault → s.startup.address ≠ 0#8 → (addressConflict s).line.queue = enqueue .announce s.line.queue) := by
  have hset : addressConflict s = if s.phase = .configFault then
      (if s.startup.address = 0#8 then s.withLine { s.line with addressConflict := true }
        else present .announce (s.withLine { s.line with addressConflict := true }))
      else present .status (s.withLine { s.line with addressConflict := true }) := by
    unfold addressConflict
    rw [hclear]
    rfl
  have hpresent : ∀ e, ∃ q w d, present e (s.withLine { s.line with addressConflict := true })
      = s.withLine { s.line with addressConflict := true, queue := q, wait := w, draws := d } := fun e => by
    obtain ⟨w, d, he⟩ := present_eq e (s.withLine { s.line with addressConflict := true })
    exact ⟨_, w, d, he⟩
  rw [hset]
  refine ⟨?_, fun hop => ?_, fun hfault haddr => ?_⟩
  · split
    · split
      · exact ⟨s.line.queue, s.line.wait, s.line.draws, rfl⟩
      · exact hpresent _
    · exact hpresent _
  · rw [if_neg fun hf => by rw [hf] at hop; cases hop]
    exact queue_present_operating .status hop
  · rw [if_pos hfault, if_neg haddr, queue_present, if_neg]
    · rfl
    · rintro (hp | ⟨-, he⟩)
      · exact absurd (hfault.symm.trans hp) (by decide)
      · cases he

theorem goodSource_ne_zero {a : Byte} (h : goodSource a = true) : a ≠ 0#8 := by
  rintro rfl
  cases h

/-- Settles O39: the handler's checks come before the peer table, in the order of the three cases. -/
theorem duplicatesAndOwnFramesGoNoFurther : Obligations.DuplicatesAndOwnFramesGoNoFurther := by
  intro s c h hc hactive
  obtain ⟨take, serve, hreception⟩ := frameHeader_reception hc
  have houtcome : outcome c s = receiveFrame h take serve s := outcome_reception hreception s
  obtain ⟨w, d, hend, -⟩ := endFrame_eq hactive
  refine ⟨fun hechoed => ?_, fun hsending hecho hgood haddr => ?_, fun p hsending hecho hgood haddr hp hj => ?_⟩
  · have hstop : outcome c s = endFrame s := by
      have hcond : (s.line.sending.isSome || s.line.echo || !goodSource h.source) = true := by
        rcases hechoed with hs | he | hg
        · rw [Option.isSome_iff_ne_none.mpr hs, Bool.true_or, Bool.true_or]
        · rw [he, Bool.or_true, Bool.true_or]
        · rw [hg, Bool.not_false, Bool.or_true]
      rw [houtcome, receiveFrame, if_neg hactive]
      exact if_pos hcond
    rw [completes_iff, hstop]
    exact ⟨by rw [hend]; rfl, frameEnded_endFrame hactive⟩
  · have hstop : outcome c s = addressConflict (endFrame s) := by
      rw [houtcome, receiveFrame, if_neg hactive, hsending, hecho, hgood]
      exact if_pos haddr
    rw [completes_iff, hstop]
    refine ⟨fun hset => ?_, fun hclear => ?_⟩
    · have hself : addressConflict (endFrame s) = endFrame s := by
        rw [hend]
        exact if_pos hset
      rw [hself]
      exact ⟨by rw [hend]; rfl, frameEnded_endFrame hactive⟩
    · have hspec := addressConflict_spec (s := endFrame s) (by rw [hend]; exact hclear)
      rw [hend] at hspec ⊢
      obtain ⟨⟨q, w2, d2, he⟩, hop, hfault⟩ := hspec
      refine ⟨?_, ?_, hop, fun hf => hfault hf (haddr ▸ goodSource_ne_zero hgood)⟩
      · rw [he]
        rfl
      · rw [he]
        rfl
  · have hp2 : (endFrame s).findPeer h.source = some p := (endFrame_findPeer s _).trans hp
    have hstop : outcome c s = storePeer { p with age := 0 } (endFrame s) := by
      rw [houtcome, receiveFrame, if_neg hactive, hsending, hecho, hgood]
      dsimp only
      rw [if_neg (by decide), if_neg haddr, servePeer_duplicate hp2 hj]
    rw [completes_iff, hstop]
    obtain ⟨hself, hothers⟩ := findPeer_storePeer (q := { p with age := 0 }) hp2 rfl
    refine ⟨frameEnded_withPeers hactive _, by rw [hend]; rfl, hself, fun a ha => (hothers a ha).trans (endFrame_findPeer s a)⟩

end Sys2Proof.Machine
end

section
/-! PROOF. What bulletins make of the peer table (R79 to R84) and the orders of the control stations (R85 to R88). -/

namespace Sys2Proof.Machine

open Sys2Proof

variable {s t u : State}

/-! ## The sender's entry -/

/-- R80: the sender's entry with the header's fields taken, before the body's. -/
def State.metPeer (s : State) (h : FrameHeader) : Peer :=
  match s.findPeer h.source with
  | none => s.newPeer h
  | some p => { p with lastSequence := h.sequence, age := 0, presence := .heard }

theorem servedPeer_eq (s : State) (h : FrameHeader) (take : Peer → Peer) : s.servedPeer h take = take (s.metPeer h) := by
  unfold State.servedPeer State.metPeer
  cases s.findPeer h.source <;> rfl

theorem metPeer_spec (s : State) (h : FrameHeader) : (s.metPeer h).age = 0 ∧ (s.metPeer h).presence = .heard
    ∧ (s.metPeer h).lastSequence = h.sequence ∧ (s.metPeer h).chainage = (s.findPeer h.source).bind Peer.chainage
    ∧ (s.metPeer h).level = (s.findPeer h.source).bind Peer.level
    ∧ (s.metPeer h).interval = ((s.findPeer h.source).map Peer.interval).getD 60 := by
  unfold State.metPeer
  split
  · next hf => rw [hf]; exact ⟨rfl, rfl, rfl, rfl, rfl, rfl⟩
  · next p hf => rw [hf]; exact ⟨rfl, rfl, rfl, rfl, rfl, rfl⟩

theorem metPeer_endFrame (s : State) (h : FrameHeader) : ((endFrame s).metPeer h) = s.metPeer h := by
  have hset := (frame_endFrame s).settings_eq (by decide)
  obtain ⟨hphase, hconfig, -⟩ := hset
  unfold State.metPeer State.newPeer
  rw [endFrame_findPeer, isControl_congr hphase hconfig]

/-- R84: a gap leaves the sender's entry, but for its gap flag. -/
theorem findPeer_noteGap {a : Byte} {p : Peer} (hf : s.findPeer a = some p) :
    ∃ q, (noteGap a s).findPeer a = some q ∧ (q = p ∨ q = { p with gap := true }) := by
  unfold noteGap
  rw [hf]
  dsimp only
  split
  · exact ⟨p, hf, .inl rfl⟩
  · split
    · exact ⟨p, ((frame_present _ _).findPeer_eq rfl a).trans hf, .inl rfl⟩
    · exact ⟨{ p with gap := true }, (findPeer_storePeer (q := { p with gap := true }) hf rfl).1, .inr rfl⟩

theorem takeStatus_address (b : StatusBody) (p : Peer) : (takeStatus b p).address = p.address := rfl

theorem takeAnnounce_address (b : AnnounceBody) (p : Peer) : (takeAnnounce b p).address = p.address := by
  unfold takeAnnounce
  split <;> rfl

/-- R79 to R84: the sender's entry after a frame that is no duplicate. -/
theorem findPeer_tabled {h : FrameHeader} {take : Peer → Peer} (ht : ∀ p, (take p).address = p.address) :
    ∃ q, (tabled h take s).findPeer h.source = some q
      ∧ (q = take (s.metPeer h) ∨ q = { take (s.metPeer h) with gap := true }) := by
  obtain ⟨hself, -⟩ := findPeer_served (h := h) ht s
  rw [servedPeer_eq] at hself
  unfold tabled
  split
  · exact findPeer_noteGap hself
  · exact ⟨_, hself, .inl rfl⟩

theorem outcome_statusReceived {h : FrameHeader} (hh : Heard h s) (b : StatusBody) :
    outcome (.statusReceived h b) s = tabled h (takeStatus b) (endFrame s) := receiveFrame_heard hh _ _

theorem outcome_announceReceived {h : FrameHeader} (hh : Heard h s) (b : AnnounceBody) :
    outcome (.announceReceived h b) s = tabled h (takeAnnounce b) (endFrame s) := receiveFrame_heard hh _ _

theorem takeStatus_spec (b : StatusBody) (p : Peer) : (takeStatus b p).age = p.age ∧ (takeStatus b p).presence = p.presence
    ∧ (takeStatus b p).lastSequence = p.lastSequence ∧ (takeStatus b p).chainage = some b.chainage.toNat
    ∧ (takeStatus b p).interval = (if b.interval.toNat = 0 then 60 else min b.interval.toNat 3600)
    ∧ (takeStatus b p).level = (if b.computed.toNat ≤ b.effective.toNat then some b.computed.toNat else p.level) :=
  ⟨rfl, rfl, rfl, rfl, rfl, rfl⟩

theorem takeAnnounce_spec (b : AnnounceBody) (p : Peer) : (takeAnnounce b p).age = p.age
    ∧ (takeAnnounce b p).presence = p.presence ∧ (takeAnnounce b p).lastSequence = p.lastSequence
    ∧ (b.flags.getLsbD 0 = false → (takeAnnounce b p).chainage = some b.chainage.toNat ∧ (takeAnnounce b p).level = p.level)
    ∧ (b.flags.getLsbD 0 = true → (takeAnnounce b p).chainage = p.chainage ∧ (takeAnnounce b p).level = none)
    ∧ (takeAnnounce b p).interval = p.interval := by
  cases hflag : b.flags.getLsbD 0 with
  | true =>
    have htake : takeAnnounce b p = { p with level := none } := if_pos hflag
    rw [htake]
    exact ⟨rfl, rfl, rfl, nofun, fun _ => ⟨rfl, rfl⟩, rfl⟩
  | false =>
    have htake : takeAnnounce b p = { p with chainage := some b.chainage.toNat } :=
      if_neg (by rw [hflag]; exact Bool.false_ne_true)
    rw [htake]
    exact ⟨rfl, rfl, rfl, fun _ => ⟨rfl, rfl⟩, nofun, rfl⟩

theorem statusReceived_updates {h : FrameHeader} (hh : Heard h s) (b : StatusBody) :
    Completes (.statusReceived h b) s (fun t =>
      ∃ p, t.findPeer h.source = some p ∧ p.age = 0 ∧ p.presence = .heard ∧ p.lastSequence = h.sequence
        ∧ p.chainage = some b.chainage.toNat
        ∧ p.interval = (if b.interval.toNat = 0 then 60 else min b.interval.toNat 3600)
        ∧ p.level = (if b.computed.toNat ≤ b.effective.toNat then some b.computed.toNat
            else (s.findPeer h.source).bind Peer.level)) := by
  rw [completes_iff, outcome_statusReceived hh]
  obtain ⟨q, hq, hcases⟩ := findPeer_tabled (s := endFrame s) (h := h) (takeStatus_address b)
  rw [metPeer_endFrame] at hcases
  obtain ⟨hage, hpresence, hseq, -, hlevel, -⟩ := metPeer_spec s h
  obtain ⟨h1, h2, h3, h4, h5, h6⟩ := takeStatus_spec b (s.metPeer h)
  rw [hage] at h1
  rw [hpresence] at h2
  rw [hseq] at h3
  rw [hlevel] at h6
  refine ⟨q, hq, ?_⟩
  rcases hcases with rfl | rfl <;> exact ⟨h1, h2, h3, h4, h5, h6⟩

theorem announceReceived_updates {h : FrameHeader} (hh : Heard h s) (a : AnnounceBody) :
    Completes (.announceReceived h a) s (fun t =>
      ∃ p, t.findPeer h.source = some p ∧ p.age = 0 ∧ p.presence = .heard ∧ p.lastSequence = h.sequence
        ∧ (a.flags.getLsbD 0 = false → p.chainage = some a.chainage.toNat ∧ p.level = (s.findPeer h.source).bind Peer.level)
        ∧ (a.flags.getLsbD 0 = true → p.chainage = (s.findPeer h.source).bind Peer.chainage ∧ p.level = none)
        ∧ p.interval = ((s.findPeer h.source).map Peer.interval).getD 60) := by
  rw [completes_iff, outcome_announceReceived hh]
  obtain ⟨q, hq, hcases⟩ := findPeer_tabled (s := endFrame s) (h := h) (takeAnnounce_address a)
  rw [metPeer_endFrame] at hcases
  obtain ⟨hage, hpresence, hseq, hchainage, hlevel, hinterval⟩ := metPeer_spec s h
  obtain ⟨h1, h2, h3, h4, h5, h6⟩ := takeAnnounce_spec a (s.metPeer h)
  rw [hage] at h1
  rw [hpresence] at h2
  rw [hseq] at h3
  rw [hlevel] at h4
  rw [hchainage] at h5
  rw [hinterval] at h6
  refine ⟨q, hq, ?_⟩
  rcases hcases with rfl | rfl <;> exact ⟨h1, h2, h3, h4, h5, h6⟩

/-! ## Gaps -/

/-- R84: what a gap asks of the queue and of the sender's entry. -/
theorem noteGap_spec {a : Byte} {p : Peer} (hf : s.findPeer a = some p) :
    (s.phase.operating = true → p.gap = false → p.recapTimer = none ∨ p.recapTimer = some 120 → noteGap a s = present (.recap a) s)
      ∧ (s.phase.operating = true → p.gap = false → ¬ (p.recapTimer = none ∨ p.recapTimer = some 120) →
          noteGap a s = storePeer { p with gap := true } s)
      ∧ (p.gap = true ∨ s.phase = .configFault → noteGap a s = s) := by
  have hnot : s.phase.operating = true → p.gap = false → ¬ (s.phase = .configFault ∨ p.gap = true) := by
    rintro hop hgap (hphase | htrue)
    · rw [hphase] at hop
      cases hop
    · rw [hgap] at htrue
      cases htrue
  unfold noteGap
  rw [hf]
  dsimp only
  refine ⟨fun hop hgap hready => ?_, fun hop hgap hready => ?_, fun h => ?_⟩
  · rw [if_neg (hnot hop hgap), if_pos hready]
  · rw [if_neg (hnot hop hgap), if_neg hready]
  · exact if_pos h.symm

/-- R65 to R67: an entry that is queued already, one that finds room, one that finds the queue full. -/
theorem enqueue_cases (e : Bulletin) (q : List Bulletin) : (enqueue e q = q ∧ (e ∈ q ∨ 12 ≤ q.length))
    ∨ (enqueue e q = insertEntry e q ∧ e ∉ q ∧ q.length < 12) ∨ (enqueue e q = insertEntry e q.dropLast ∧ e ∉ q ∧ 12 ≤ q.length) := by
  unfold enqueue
  by_cases hm : e ∈ q
  · exact .inl ⟨if_pos hm, .inl hm⟩
  · rw [if_neg hm]
    by_cases hl : q.length < 12
    · exact .inr (.inl ⟨if_pos hl, hm, hl⟩)
    · rw [if_neg hl]
      cases hlast : q.getLast? with
      | none =>
        rw [List.getLast?_eq_none_iff.mp hlast] at hl
        exact absurd (by decide) hl
      | some w =>
        dsimp only
        split
        · exact .inr (.inr ⟨rfl, hm, by omega⟩)
        · exact .inl ⟨rfl, .inr (by omega)⟩

theorem length_insertEntry (e : Bulletin) (q : List Bulletin) : (insertEntry e q).length = q.length + 1 :=
  (insertEntry_perm e q).length_eq

/-- R65: an entry presented to the queue joins it, or finds it full. -/
theorem mem_or_full_enqueue (e : Bulletin) (q : List Bulletin) : e ∈ enqueue e q ∨ 12 ≤ (enqueue e q).length := by
  rcases enqueue_cases e q with ⟨h, hm⟩ | ⟨h, -⟩ | ⟨h, -⟩ <;> rw [h]
  · exact hm
  · exact .inl (mem_insertEntry e q)
  · exact .inl (mem_insertEntry e _)

/-- R84: a gap is one of a HEARD sender whose sequence does not follow. -/
theorem gapFound_iff {h : FrameHeader} {p : Peer} (hf : s.findPeer h.source = some p)
    (hd : judgeSequence p h.sequence ≠ .duplicate) :
    s.gapFound h = true ↔ p.presence = .heard ∧ h.sequence ≠ p.lastSequence + 1 := by
  unfold State.gapFound
  rw [hf]
  unfold judgeSequence at hd ⊢
  dsimp only
  split
  · next hheard =>
    rw [if_pos hheard] at hd
    split
    · next hsame => exact absurd (if_pos hsame) hd
    · split
      · next hnext => simp [hnext]
      · next hnext => exact ⟨fun _ => ⟨hheard, hnext⟩, fun _ => rfl⟩
  · next hheard => simp [hheard]

theorem queue_served_of_not_operating (h : FrameHeader) (take : Peer → Peer) (hop : s.phase.operating = false) :
    (served h take s).line.queue = s.line.queue := by
  unfold served
  split
  · rw [reportPeers_of_not_operating (s := storePeer (s.servedPeer h take) s) hop]
    rfl
  · rfl

/-- R84: what a frame that is no duplicate makes of its sender's gap, by the entry the frame leaves. -/
theorem tabled_gap {h : FrameHeader} {take : Peer → Peer} {p : Peer} (hh : Heard h s) (hf : s.findPeer h.source = some p)
    (ht : ∀ p, (take p).address = p.address ∧ (take p).gap = p.gap ∧ (take p).recapTimer = p.recapTimer) :
    let gap : Prop := p.presence = .heard ∧ h.sequence ≠ p.lastSequence + 1
    let ready : Prop := p.recapTimer = none ∨ p.recapTimer = some 120
    let t := tabled h take (endFrame s)
    let kept : Prop := Bulletin.recap h.source ∈ t.line.queue → Bulletin.recap h.source ∈ s.line.queue
    ∃ q, t.findPeer h.source = some q ∧ q.recapTimer = p.recapTimer
      ∧ (s.phase.operating = true → gap → p.gap = false → ready →
          q.gap = false ∧ (Bulletin.recap h.source ∈ t.line.queue ∨ 12 ≤ t.line.queue.length))
      ∧ (s.phase.operating = true → gap → p.gap = false → ¬ ready → q.gap = true ∧ kept)
      ∧ (¬ gap ∨ p.gap = true → q.gap = p.gap ∧ kept)
      ∧ (s.phase = .configFault → q.gap = p.gap ∧ t.line.queue = s.line.queue) := by
  intro gap ready t kept
  obtain ⟨-, -, -, -, -, hdup⟩ := hh
  obtain ⟨hself, -⟩ := findPeer_served (h := h) (fun p => (ht p).1) (endFrame s)
  rw [servedPeer_eq, metPeer_endFrame] at hself
  have hmet : s.metPeer h = { p with lastSequence := h.sequence, age := 0, presence := .heard } := by
    unfold State.metPeer
    rw [hf]
  obtain ⟨-, hgapq, htimerq⟩ := ht (s.metPeer h)
  have hqgap : (take (s.metPeer h)).gap = p.gap := by rw [hgapq, hmet]
  have hqtimer : (take (s.metPeer h)).recapTimer = p.recapTimer := by rw [htimerq, hmet]
  have hphase : (served h take (endFrame s)).phase = s.phase :=
    ((frame_served h take _).phase_eq rfl).trans ((frame_endFrame s).phase_eq rfl)
  have hfound : (endFrame s).gapFound h = true ↔ gap := gapFound_iff ((endFrame_findPeer s _).trans hf) (hdup p hf)
  have hkept : Bulletin.recap h.source ∈ (served h take (endFrame s)).line.queue → Bulletin.recap h.source ∈ s.line.queue := fun hm => by
    rcases (reported_served h take (endFrame s)).mem hm with he | he
    · cases he
    · exact queue_endFrame s ▸ he
  obtain ⟨hready, hwaiting, hleft⟩ := noteGap_spec hself
  rw [hqgap, hqtimer, hphase] at hready
  rw [hqgap, hphase] at hleft
  have hnotFault : s.phase.operating = true → s.phase ≠ .configFault := fun hop hf => by
    rw [hf] at hop
    cases hop
  by_cases hstays : ¬ gap ∨ p.gap = true ∨ s.phase = .configFault
  · have htabled : t = served h take (endFrame s) := by
      rcases hstays with hgap | hrest
      · exact if_neg (mt hfound.mp hgap)
      · by_cases hgap : gap
        · exact (if_pos (hfound.mpr hgap)).trans (hleft hrest)
        · exact if_neg (mt hfound.mp hgap)
    have habsurd : s.phase.operating = true → gap → p.gap = false → False := fun hop hgap hpgap => by
      rcases hstays with hn | hset | hfault
      · exact hn hgap
      · rw [hset] at hpgap
        cases hpgap
      · exact hnotFault hop hfault
    refine ⟨take (s.metPeer h), htabled ▸ hself, hqtimer, fun hop hg hp => (habsurd hop hg hp).elim,
      fun hop hg hp => (habsurd hop hg hp).elim, fun _ => ⟨hqgap, fun hm => hkept (htabled ▸ hm)⟩, fun hfault => ⟨hqgap, ?_⟩⟩
    rw [htabled, queue_served_of_not_operating h take (by rw [(frame_endFrame s).phase_eq rfl, hfault]; rfl), queue_endFrame]
  · push Not at hstays
    obtain ⟨hgap, hclear, hfault⟩ := hstays
    have htabled : t = noteGap h.source (served h take (endFrame s)) := if_pos (hfound.mpr hgap)
    have hpgap : p.gap = false := Bool.eq_false_iff.mpr hclear
    have hrest : ¬ (¬ gap ∨ p.gap = true) := fun hor => hor.elim (fun hn => hn hgap) hclear
    by_cases hop : s.phase.operating = true
    · by_cases hr : ready
      · have hpresent : t = present (.recap h.source) (served h take (endFrame s)) := htabled.trans (hready hop hpgap hr)
        refine ⟨take (s.metPeer h), ?_, hqtimer, fun _ _ _ _ => ⟨hqgap.trans hpgap, ?_⟩, fun _ _ _ hn => absurd hr hn,
          fun hor => absurd hor hrest, fun hf => absurd hf hfault⟩
        · rw [hpresent, (frame_present _ _).findPeer_eq rfl, hself]
        · rw [hpresent, queue_present_operating _ (hphase ▸ hop)]
          exact mem_or_full_enqueue _ _
      · have hstored : t = storePeer { take (s.metPeer h) with gap := true } (served h take (endFrame s)) :=
          htabled.trans (hwaiting (hphase ▸ hop) (hqgap.trans hpgap) (by rw [hqtimer]; exact hr))
        refine ⟨{ take (s.metPeer h) with gap := true }, ?_, hqtimer, fun _ _ _ hy => absurd hy hr, fun _ _ _ _ => ⟨rfl, fun hm => ?_⟩,
          fun hor => absurd hor hrest, fun hf => absurd hf hfault⟩
        · rw [hstored]
          exact (findPeer_storePeer (q := { take (s.metPeer h) with gap := true }) hself rfl).1
        · rw [hstored] at hm
          exact hkept hm
    · obtain ⟨q, hq, hcases⟩ := findPeer_noteGap hself
      refine ⟨q, htabled ▸ hq, ?_, fun ho => absurd ho hop, fun ho => absurd ho hop, fun hor => absurd hor hrest,
        fun hf => absurd hf hfault⟩
      rcases hcases with rfl | rfl
      · exact hqtimer
      · exact hqtimer

/-- Settles O38: the entry a frame leaves is read from the one it found; its gap flag and the queue follow the cases of R84. -/
theorem statusAndAnnounceUpdateThePeer : Obligations.StatusAndAnnounceUpdateThePeer := by
  refine ⟨fun s h b a hh => ⟨statusReceived_updates hh b, announceReceived_updates hh a⟩, fun s h b a p hh hf => ?_⟩
  have hannounce : ∀ p, (takeAnnounce a p).address = p.address ∧ (takeAnnounce a p).gap = p.gap
      ∧ (takeAnnounce a p).recapTimer = p.recapTimer := fun p => by
    unfold takeAnnounce
    split <;> exact ⟨rfl, rfl, rfl⟩
  intro gap ready kept c hc
  rw [completes_iff]
  rcases List.mem_cons.mp hc with rfl | hc
  · rw [outcome_statusReceived hh]
    exact tabled_gap hh hf fun p => ⟨rfl, rfl, rfl⟩
  · obtain rfl := List.mem_singleton.mp hc
    rw [outcome_announceReceived hh]
    exact tabled_gap hh hf hannounce

/-! ## Queues with room -/

theorem length_enqueue_le (e : Bulletin) (q : List Bulletin) : (enqueue e q).length ≤ q.length + 1 := by
  rcases enqueue_cases e q with ⟨h, -⟩ | ⟨h, -⟩ | ⟨h, -⟩ <;> rw [h]
  · omega
  · rw [length_insertEntry]
  · rw [length_insertEntry, List.length_dropLast]
    omega

/-- R65: a queue with room takes the entry and loses none. -/
theorem mem_enqueue_of_room {e x : Bulletin} {q : List Bulletin} (hl : q.length < 12) (h : x = e ∨ x ∈ q) : x ∈ enqueue e q := by
  rcases enqueue_cases e q with ⟨he, hm⟩ | ⟨he, -⟩ | ⟨-, -, hfull⟩
  · rw [he]
    rcases h with rfl | h
    · exact hm.resolve_right (by omega)
    · exact h
  · rw [he]
    exact (insertEntry_perm e q).mem_iff.mpr (List.mem_cons.mpr h)
  · omega

/-- A queue of at most `n` entries that holds the entries of `l`, in operation. -/
def Queued (n : Nat) (l : List Bulletin) (s : State) : Prop :=
  s.phase.operating = true ∧ s.line.queue.length ≤ n ∧ ∀ e ∈ l, e ∈ s.line.queue

theorem Queued.present {n : Nat} {l : List Bulletin} (h : Queued n l s) (hn : n < 12) (e : Bulletin) :
    Queued (n + 1) (e :: l) (present e s) := by
  obtain ⟨hop, hlength, hmem⟩ := h
  have hqueue := queue_present_operating e hop
  refine ⟨((frame_present e s).phase_eq rfl) ▸ hop, ?_, fun x hx => ?_⟩
  · rw [hqueue]
    exact (length_enqueue_le e _).trans (by omega)
  · rw [hqueue]
    exact mem_enqueue_of_room (by omega) ((List.mem_cons.mp hx).imp_right (hmem x))

theorem Queued.mono {n m : Nat} {l k : List Bulletin} (h : Queued n l s) (hn : n ≤ m) (hk : ∀ e ∈ k, e ∈ l) : Queued m k s := by
  obtain ⟨hop, hlength, hmem⟩ := h
  exact ⟨hop, hlength.trans hn, fun e he => hmem e (hk e he)⟩

theorem Queued.of_frame {n : Nat} {l : List Bulletin} {qs : List Part} (h : Queued n l s) (hf : Frame qs s t)
    (hd : Part.apart [.queue] qs = true) (hp : Part.apart [.settings] qs = true) : Queued n l t := by
  obtain ⟨hop, hlength, hmem⟩ := h
  have hqueue := hf.queue_eq hd
  exact ⟨(hf.phase_eq hp) ▸ hop, hqueue ▸ hlength, fun e he => hqueue ▸ hmem e he⟩

theorem phase_tabled (h : FrameHeader) (take : Peer → Peer) (s : State) : (tabled h take (endFrame s)).phase = s.phase :=
  ((frame_tabled h take _).phase_eq rfl).trans ((frame_endFrame s).phase_eq rfl)

/-- R83, R84: the peer table's service adds two entries at most. -/
theorem queued_tabled (h : FrameHeader) (take : Peer → Peer) (hop : s.phase.operating = true) :
    Queued (s.line.queue.length + 2) [] (tabled h take (endFrame s)) := by
  have hserved : (served h take (endFrame s)).line.queue.length ≤ s.line.queue.length + 1 := by
    have hle := length_enqueue_le .status s.line.queue
    rcases reported_served h take (endFrame s) with hr | hr
    · rw [hr, queue_endFrame]
      omega
    · rw [hr, queue_endFrame]
      exact hle
  have hgap : ∀ u : State, (noteGap h.source u).line.queue.length ≤ u.line.queue.length + 1 := fun u => by
    have hle := length_enqueue_le (.recap h.source) u.line.queue
    have hpresent : (present (.recap h.source) u).line.queue.length ≤ u.line.queue.length + 1 := by
      rw [queue_present]
      split
      · omega
      · exact hle
    unfold noteGap
    split
    · omega
    · split
      · omega
      · split
        · exact hpresent
        · exact Nat.le_succ _
  refine ⟨(phase_tabled h take s) ▸ hop, ?_, fun e he => (List.not_mem_nil he).elim⟩
  unfold tabled
  split
  · exact (hgap _).trans (by omega)
  · omega

theorem queue_tabled_of_fault (h : FrameHeader) (take : Peer → Peer) (hf : s.phase = .configFault) :
    (tabled h take (endFrame s)).line.queue = s.line.queue := by
  have hop : (endFrame s).phase.operating = false := by
    rw [(frame_endFrame s).phase_eq rfl, hf]
    rfl
  have hphase : (served h take (endFrame s)).phase = .configFault :=
    ((frame_served h take _).phase_eq rfl).trans (((frame_endFrame s).phase_eq rfl).trans hf)
  have hgap : noteGap h.source (served h take (endFrame s)) = served h take (endFrame s) := by
    unfold noteGap
    split
    · rfl
    · exact if_pos (.inl hphase)
  unfold tabled
  rw [hgap, ite_self, queue_served_of_not_operating h take hop, queue_endFrame]

/-! ## Orders -/

theorem outcome_queryReceived {h : FrameHeader} (hh : Heard h s) (target : Byte) : outcome (.queryReceived h target) s
    = serveQuery h.source target (tabled h (fun p => p) (endFrame s)) := receiveFrame_heard hh _ _

theorem outcome_recapReceived {h : FrameHeader} (hh : Heard h s) (target : Byte) : outcome (.recapReceived h target) s
    = serveRecap h.source target (tabled h (fun p => p) (endFrame s)) := receiveFrame_heard hh _ _

/-- The settings of a state are those of the frame's service. -/
theorem order_congr (hs : Frame Part.ofFrame s u) (a target : Byte) : u.isControl a = s.isControl a
    ∧ u.targeted target = decide (target = 0#8 ∨ target = s.startup.address) ∧ u.phase = s.phase
    ∧ u.startup.address = s.startup.address := by
  obtain ⟨hphase, hconfig, haddress⟩ := hs.settings_eq (by decide)
  refine ⟨isControl_congr hphase hconfig a, ?_, hphase, haddress⟩
  unfold State.targeted
  rw [haddress]

theorem frame_tabled_frame (h : FrameHeader) (take : Peer → Peer) (s : State) : Frame Part.ofFrame s (tabled h take (endFrame s)) :=
  ((frame_endFrame s).widen rfl).trans ((frame_tabled h take _).widen rfl)

theorem serveQuery_of_control {a target : Byte} (hu : Frame Part.ofFrame s u) (hc : s.isControl a = true)
    (ht : target = 0#8 ∨ target = s.startup.address) : serveQuery a target u
      = if u.phase = .configFault then answerInFault u else present .announce (present .status u) := by
  obtain ⟨hcontrol, htarget, -⟩ := order_congr hu a target
  unfold serveQuery
  rw [hcontrol, htarget, hc, decide_eq_true ht]
  rfl

theorem serveRecap_of_targeted {a target : Byte} (hu : Frame Part.ofFrame s u) (ht : target = 0#8 ∨ target = s.startup.address) :
    serveRecap a target u = if u.phase = .configFault then answerInFault u
      else if target = 0#8 then returnRecords a (restartWalker (present .status (present .announce u)))
        else restartWalker (present .status (present .announce u)) := by
  obtain ⟨-, htarget, -⟩ := order_congr hu a target
  unfold serveRecap
  rw [htarget, decide_eq_true ht]
  rfl

theorem answerInFault_speaks (hf : u.phase = .configFault) (ha : u.startup.address ≠ 0#8) :
    answerInFault u = present .announce u ∧ (answerInFault u).line.queue = enqueue .announce u.line.queue := by
  have hself : answerInFault u = present .announce u := if_neg ha
  refine ⟨hself, ?_⟩
  rw [hself, queue_present, if_neg]
  rintro (hp | ⟨-, he⟩)
  · exact absurd (hf.symm.trans hp) (by decide)
  · cases he

/-- R85, R87: a QUERY or RECAP that is not for this station, or that it cannot answer, is left unserved. -/
theorem serveQuery_ignored {a target : Byte} (h : s.isControl a = false ∨ (target ≠ 0#8 ∧ target ≠ s.startup.address)
    ∨ (s.phase = .configFault ∧ s.startup.address = 0#8)) (hu : Frame Part.ofFrame s u) : serveQuery a target u = u := by
  obtain ⟨hcontrol, htarget, hphase, haddress⟩ := order_congr hu a target
  unfold serveQuery
  rw [hcontrol, htarget]
  rcases h with hc | ⟨h0, h1⟩ | ⟨hf, ha⟩
  · rw [hc]
    rfl
  · rw [decide_eq_false (fun hor => hor.elim h0 h1), Bool.and_false]
    rfl
  · rw [hphase, if_pos hf, show answerInFault u = u from if_pos (haddress.trans ha), ite_self]

theorem serveRecap_ignored {a target : Byte} (h : (target ≠ 0#8 ∧ target ≠ s.startup.address)
    ∨ (s.phase = .configFault ∧ s.startup.address = 0#8)) (hu : Frame Part.ofFrame s u) : serveRecap a target u = u := by
  obtain ⟨-, htarget, hphase, haddress⟩ := order_congr hu a target
  unfold serveRecap
  rw [htarget]
  rcases h with ⟨h0, h1⟩ | ⟨hf, ha⟩
  · rw [decide_eq_false (fun hor => hor.elim h0 h1)]
    rfl
  · rw [hphase, if_pos hf, show answerInFault u = u from if_pos (haddress.trans ha), ite_self]

/-- R86: records returned one after the other, with room for each. -/
theorem queued_returned : ∀ (l : List (Nat × ClosureRecord)) {n : Nat} {k : List Bulletin} {s : State}, Queued n k s →
    n + l.length ≤ 12 →
    Queued (n + l.length) (l.map (fun p => Bulletin.closure p.2.id) ++ k) (l.foldl (fun s p => present (.closure p.2.id) s) s)
  | [], _, _, _, h, _ => h
  | p :: rest, n, k, s, h, hn => by
    rw [List.length_cons] at hn
    have hfirst := h.present (by omega) (.closure p.2.id)
    have hrest := queued_returned rest hfirst (by omega)
    refine hrest.mono (by rw [List.length_cons]; omega) fun e he => ?_
    simp only [List.map_cons, List.cons_append, List.mem_cons, List.mem_append] at he ⊢
    tauto

/-- R117, R118: the restarted walker presents one record at most. -/
theorem queued_restartWalker {n : Nat} {k : List Bulletin} (h : Queued n k s) (hn : n < 12) : Queued (n + 1) k (restartWalker s) := by
  have hself : Queued (n + 1) k s := h.mono (by omega) fun _ he => he
  unfold restartWalker
  split
  · have hset : Queued n k (s.withRegister { s.register with walkerIndex := 0, walkerFast := true }) := h
    have hstep : Queued (n + 1) k (match (s.withRegister { s.register with walkerIndex := 0, walkerFast := true }).recordAt 0 with
        | some r => if r.own then present (.closure r.id) (s.withRegister { s.register with walkerIndex := 0, walkerFast := true })
            else s.withRegister { s.register with walkerIndex := 0, walkerFast := true }
        | none => s.withRegister { s.register with walkerIndex := 0, walkerFast := true }) := by
      split
      · split
        · exact (hset.present hn _).mono le_rfl fun e he => List.mem_cons_of_mem _ he
        · exact hset.mono (by omega) fun _ he => he
      · exact hset.mono (by omega) fun _ he => he
    exact hstep
  · exact hself

theorem queryOfControl_answered {h : FrameHeader} {target : Byte} (hh : Heard h s) (hcontrol : s.isControl h.source = true)
    (hlength : s.line.queue.length ≤ 8) (htarget : target = 0#8 ∨ target = s.startup.address) :
    (s.phase.operating = true →
        Completes (.queryReceived h target) s (fun t => Bulletin.status ∈ t.line.queue ∧ Bulletin.announce ∈ t.line.queue))
      ∧ (s.phase = .configFault → s.startup.address ≠ 0#8 →
        Completes (.queryReceived h target) s (fun t => t.line.queue = enqueue .announce s.line.queue)) := by
  have hu := frame_tabled_frame h (fun p => p) s
  have hphase := phase_tabled h (fun p => p) s
  refine ⟨fun hop => ?_, fun hfault haddr => ?_⟩
  · have hqueued := ((queued_tabled h (fun p => p) hop).present (by omega) .status).present (by omega) .announce
    obtain ⟨-, -, hmem⟩ := hqueued
    rw [completes_iff, outcome_queryReceived hh, serveQuery_of_control hu hcontrol htarget, if_neg]
    · exact ⟨hmem .status (by simp), hmem .announce (by simp)⟩
    · rw [hphase]
      intro hf
      rw [hf] at hop
      cases hop
  · obtain ⟨-, hqueue⟩ := answerInFault_speaks (u := tabled h (fun p => p) (endFrame s)) (hphase.trans hfault)
      (by rw [(hu.settings_eq (by decide)).2.2]; exact haddr)
    rw [completes_iff, outcome_queryReceived hh, serveQuery_of_control hu hcontrol htarget, if_pos (hphase.trans hfault), hqueue,
      queue_tabled_of_fault h _ hfault]

theorem recap_answered {h : FrameHeader} {target : Byte} (hh : Heard h s) (hop : s.phase.operating = true) (hempty : s.line.queue = [])
    (hrecords : s.records.length ≤ 5) (htarget : target = 0#8 ∨ target = s.startup.address) :
    Completes (.recapReceived h target) s (fun t =>
        Bulletin.announce ∈ t.line.queue ∧ Bulletin.status ∈ t.line.queue
          ∧ (s.phase = .running → t.register.walkerIndex = 1 ∧ t.register.walkerFast = true ∧ t.register.walkerTimer = some 2)
          ∧ (target = 0#8 → ∀ p ∈ s.records, p.2.id.origin = h.source → Bulletin.closure p.2.id ∈ t.line.queue)
          ∧ t.register.slots = s.register.slots) := by
  have hu := frame_tabled_frame h (fun p => p) s
  have hphase := phase_tabled h (fun p => p) s
  have hqueued := queued_tabled h (fun p => p) hop
  rw [hempty] at hqueued
  rw [completes_iff, outcome_recapReceived hh, serveRecap_of_targeted hu htarget, if_neg]
  · generalize tabled h (fun p => p) (endFrame s) = u at *
    have hwalked := queued_restartWalker ((hqueued.present (by simp) .announce).present (by simp) .status) (by simp)
    have hframe : Frame (.walker :: Part.ofPresent) u (restartWalker (present .status (present .announce u))) :=
      ((frame_present _ _).widen rfl).trans (((frame_present _ _).widen rfl).trans (frame_restartWalker _))
    have hwalker : s.phase = .running → (restartWalker (present .status (present .announce u))).register.walkerIndex = 1
        ∧ (restartWalker (present .status (present .announce u))).register.walkerFast = true
        ∧ (restartWalker (present .status (present .announce u))).register.walkerTimer = some 2 := fun hrun => by
      have hpresented : Frame Part.ofPresent u (present .status (present .announce u)) := (frame_present _ _).trans (frame_present _ _)
      rw [restartWalker_of_running ((hpresented.phase_eq rfl).trans (hphase.trans hrun))]
      exact walkerAdvance_walker _
    have hslots : (restartWalker (present .status (present .announce u))).register.slots = s.register.slots :=
      (hframe.slots_eq (by decide)).trans (hu.slots_eq (by decide))
    generalize restartWalker (present .status (present .announce u)) = v at *
    have hvrecords : v.records = s.records := by
      unfold State.records
      rw [hslots]
    split
    · next hall =>
      have hreturn := frame_returnRecords h.source v
      have hlength : (v.records.filter fun p => decide (p.2.id.origin = h.source)).length ≤ 5 :=
        (List.length_filter_le _ _).trans (hvrecords ▸ hrecords)
      obtain ⟨-, -, hmem⟩ := queued_returned (v.records.filter fun p => decide (p.2.id.origin = h.source)) hwalked
        (by simp only [List.length_nil]; omega)
      obtain ⟨hw1, hw2, hw3⟩ := hreturn.keeps (qs := [.walker]) rfl (p := .walker) (by simp)
      refine ⟨hmem .announce (by simp), hmem .status (by simp), fun hrun => ?_, fun _ p hp ho => hmem _ ?_,
        (hreturn.slots_eq (by decide)).trans hslots⟩
      · obtain ⟨h1, h2, h3⟩ := hwalker hrun
        exact ⟨hw1.symm.trans h1, hw2.symm.trans h2, hw3.symm.trans h3⟩
      · refine List.mem_append_left _ (List.mem_map.mpr ⟨p, List.mem_filter.mpr ⟨hvrecords ▸ hp, decide_eq_true ho⟩, rfl⟩)
    · next hone =>
      obtain ⟨-, -, hmem⟩ := hwalked
      exact ⟨hmem .announce (by simp), hmem .status (by simp), hwalker, fun h0 => absurd h0 hone, hslots⟩
  · rw [hphase]
    intro hf
    rw [hf] at hop
    cases hop

theorem recap_answeredInFault {h : FrameHeader} {target : Byte} (hh : Heard h s) (hfault : s.phase = .configFault)
    (haddr : s.startup.address ≠ 0#8) (htarget : target = 0#8 ∨ target = s.startup.address) :
    Completes (.recapReceived h target) s (fun t => t.line.queue = enqueue .announce s.line.queue ∧ t.register = s.register) := by
  have hu := frame_tabled_frame h (fun p => p) s
  have hphase := phase_tabled h (fun p => p) s
  obtain ⟨hself, hqueue⟩ := answerInFault_speaks (u := tabled h (fun p => p) (endFrame s)) (hphase.trans hfault)
    (by rw [(hu.settings_eq (by decide)).2.2]; exact haddr)
  rw [completes_iff, outcome_recapReceived hh, serveRecap_of_targeted hu htarget, if_pos (hphase.trans hfault), hqueue,
    queue_tabled_of_fault h _ hfault, hself]
  exact ⟨rfl, ((frame_present _ _).register_eq rfl).trans (hu.register_eq rfl)⟩

/-- Settles O40: the frame's service leaves room for what the answer queues; an order that is not taken is left unserved. -/
theorem queryAndRecapAreAnswered : Obligations.QueryAndRecapAreAnswered := by
  refine ⟨fun s h target hh hc hl ht => queryOfControl_answered hh hc hl ht,
    fun s h target hh hop he hr ht => recap_answered hh hop he hr ht,
    fun s h target hh hf ha ht => recap_answeredInFault hh hf ha ht, fun s h target hh => ⟨fun hign => ?_, fun hign => ?_⟩⟩
  · rw [completes_iff]
    exact orderIgnored_of_served hh fun u hu => serveQuery_ignored hign hu
  · rw [completes_iff]
    exact orderIgnored_of_served hh fun u hu => serveRecap_ignored hign hu

/-! ## Timers of the table and of the cadence -/

theorem findPeer_setPresence {a : Byte} {p : Peer} (hf : s.findPeer a = some p) (x : Presence) :
    (setPresence p x s).findPeer a = some { p with presence := x } := by
  have hself := (findPeer_storePeer (q := { p with presence := x }) hf rfl).1
  unfold setPresence
  dsimp only
  split
  · exact ((frame_reportPeers _).findPeer_eq rfl a).trans hself
  · exact hself

/-- Settles O41: each timer's command is its one branch. -/
theorem peerAndCadenceTimersExpire : Obligations.PeerAndCadenceTimersExpire := by
  refine ⟨fun s a p hf => ⟨fun hphase hheard hage => ?_, fun hphase hlate hage => ?_, fun hop htimer hgap => ?_⟩,
    fun s => ⟨fun hserving htimer => ?_, fun hphase htimer => ?_⟩⟩
  · have houtcome : outcome (.peerLate a) s = setPresence p .late s := by
      change (match s.findPeer a with | some p => _ | none => _) = _
      rw [hf]
      exact if_pos ⟨hphase, hheard, hage⟩
    rw [completes_iff, houtcome]
    exact findPeer_setPresence hf .late
  · have houtcome : outcome (.peerSilent a) s = setPresence p .silent s := by
      change (match s.findPeer a with | some p => _ | none => _) = _
      rw [hf]
      exact if_pos ⟨hphase, hlate, hage⟩
    rw [completes_iff, houtcome]
    exact findPeer_setPresence hf .silent
  · have houtcome : outcome (.recapTimerExpiry a) s = present (.recap a) (storePeer { p with gap := false } s) := by
      change (match s.findPeer a with | some p => _ | none => _) = _
      rw [hf]
      exact if_pos (by rw [hop, htimer, hgap]; rfl)
    rw [completes_iff, houtcome]
    refine ⟨?_, queue_present_operating (s := storePeer _ s) _ hop⟩
    exact ((frame_present _ _).findPeer_eq rfl a).trans (findPeer_storePeer (q := { p with gap := false }) hf rfl).1
  · have houtcome : outcome .statusTimerExpiry s = present .status (s.withPeers { s.peers with statusTimer := some 0 }) := by
      change (match s.peers.statusTimer with | some t => _ | none => _) = _
      rw [htimer]
      exact if_pos (by rw [hserving]; exact decide_eq_true le_rfl)
    rw [completes_iff, houtcome]
    obtain ⟨w, d, hpresent⟩ := present_eq .status (s.withPeers { s.peers with statusTimer := some 0 })
    refine ⟨by rw [hpresent]; rfl, ?_⟩
    exact queue_present_operating (s := s.withPeers _) .status (operating_of_serving hserving)
  · have houtcome : outcome .announceTimerExpiry s = present .announce (s.withPeers { s.peers with announceTimer := some 0 }) := by
      change (match s.peers.announceTimer with | some t => _ | none => _) = _
      rw [htimer]
      exact if_pos le_rfl
    rw [completes_iff, houtcome]
    obtain ⟨w, d, hpresent⟩ := present_eq .announce (s.withPeers { s.peers with announceTimer := some 0 })
    refine ⟨by rw [hpresent]; rfl, ?_⟩
    rw [queue_present, if_neg]
    · rfl
    · rintro (hp | ⟨-, he⟩)
      · exact hphase hp
      · cases he

end Sys2Proof.Machine
end

section
/-! PROOF. The operator floor (R44, R45, R48): a FLOOR sets it, its expiry ends it, and either order of the two leaves the same floor. -/

namespace Sys2Proof.Machine

open Sys2Proof

variable {s t u : State}

/-! ## A FLOOR -/

/-- R44: the floor a FLOOR asks for, and for how long. -/
def floorAsked (level minutes : Nat) : Nat × Nat :=
  if level = 0 ∨ minutes = 0 then (0, 0) else (min level 5, min minutes 1440 * 60)

/-- A floor in force has time left. -/
theorem floorAsked_remains {level minutes : Nat} (h : 0 < (floorAsked level minutes).1) : (floorAsked level minutes).2 ≠ 0 := by
  unfold floorAsked at h ⊢
  split at h
  · exact absurd h (lt_irrefl 0)
  · next hset =>
    rw [if_neg hset]
    dsimp only
    omega

theorem frame_floorTest (s : State) : Frame Part.ofHazard s (autocloseTest (recomputeEffective s)) :=
  ((frame_recomputeEffective s).widen rfl).trans ((frame_autocloseTest _).widen rfl)

theorem applyFloor_eq (level minutes : Nat) (s : State) : applyFloor level minutes s =
    if (floorAsked level minutes).1 = s.hazard.floorLevel then s.withHazard { s.hazard with
      floorLevel := (floorAsked level minutes).1, floorRemaining := (floorAsked level minutes).2 }
    else autocloseTest (recomputeEffective (s.withHazard { s.hazard with
      floorLevel := (floorAsked level minutes).1, floorRemaining := (floorAsked level minutes).2 })) := by
  unfold applyFloor floorAsked
  by_cases h : level = 0 ∨ minutes = 0
  · simp only [h, decide_true, if_true]
  · simp only [h, decide_false, Bool.false_eq_true, if_false]

theorem applyFloor_floor (level minutes : Nat) (s : State) :
    (applyFloor level minutes s).hazard.floorLevel = (floorAsked level minutes).1
      ∧ (applyFloor level minutes s).hazard.floorRemaining = (floorAsked level minutes).2 := by
  rw [applyFloor_eq]
  split
  · exact ⟨rfl, rfl⟩
  · exact (frame_floorTest _).floor_eq rfl

/-! ## A FLOOR that is applied, and one that is not -/

/-- R85, R88: a FLOOR is applied. -/
def State.TakesFloor (s : State) (h : FrameHeader) (b : FloorBody) : Prop :=
  Heard h s ∧ s.isControl h.source = true ∧ (b.target = 0#8 ∨ b.target = s.startup.address)

theorem floorReceived_taken {h : FrameHeader} {b : FloorBody} (hop : s.phase.operating = true) (ht : s.TakesFloor h b) :
    (outcome (.floorReceived h b) s).hazard.floorLevel = (floorAsked b.level.toNat b.minutes.toNat).1
      ∧ (outcome (.floorReceived h b) s).hazard.floorRemaining = (floorAsked b.level.toNat b.minutes.toNat).2 := by
  obtain ⟨hheard, hcontrol, htarget⟩ := ht
  obtain ⟨u, -, houtcome⟩ := outcome_floorReceived (b := b) hop hheard hcontrol htarget
  rw [houtcome]
  exact applyFloor_floor _ _ u

theorem serveFloor_ignored {h : FrameHeader} {b : FloorBody} (hign : s.isControl h.source = false
    ∨ (b.target ≠ 0#8 ∧ b.target ≠ s.startup.address) ∨ s.phase = .configFault) (hu : Frame Part.ofFrame s u) :
    serveFloor h.source b u = u := by
  obtain ⟨hcontrol, htarget, hphase, -⟩ := order_congr hu h.source b.target
  unfold serveFloor
  rw [hcontrol, htarget, hphase]
  rcases hign with hc | ⟨h0, h1⟩ | hf
  · rw [hc]
    rfl
  · rw [decide_eq_false (fun hor => hor.elim h0 h1), Bool.and_false]
    rfl
  · rw [hf, show Phase.configFault.operating = false from rfl, Bool.and_false]
    rfl

/-- A frame that is not heard ends, sets ADDRESS-CONFLICT, or returns its sender's age to 0. -/
theorem frame_unheard {h : FrameHeader} (hh : ¬ Heard h s) (take : Peer → Peer) (serve : State → State) :
    Frame (.lineFlags :: .peerEntries :: .receiver :: Part.ofPresent) s (receiveFrame h take serve s) := by
  have hend : Frame (.lineFlags :: .peerEntries :: .receiver :: Part.ofPresent) s (endFrame s) := (frame_endFrame s).widen rfl
  unfold receiveFrame
  split
  · exact Frame.refl _ s
  · next hactive =>
    dsimp only
    split
    · exact hend
    · next hgood =>
      split
      · exact hend.trans ((frame_addressConflict _).widen rfl)
      · next haddr =>
        have hdup : ∃ p, s.findPeer h.source = some p ∧ judgeSequence p h.sequence = .duplicate := by
          by_contra hno
          push Not at hno
          simp only [Bool.or_eq_true, not_or, Option.isSome_iff_ne_none, ne_eq, Decidable.not_not, Bool.not_eq_true,
            Bool.not_eq_false'] at hgood
          obtain ⟨⟨hsending, hecho⟩, hsource⟩ := hgood
          exact hh ⟨hactive, hsending, hecho, hsource, haddr, hno⟩
        obtain ⟨p, hp, hj⟩ := hdup
        rw [servePeer_duplicate ((endFrame_findPeer s _).trans hp) hj]
        exact hend.trans ((frame_storePeer _ _).widen rfl)

theorem floorReceived_untaken {h : FrameHeader} {b : FloorBody} (ht : ¬ s.TakesFloor h b) :
    (outcome (.floorReceived h b) s).hazard.floorLevel = s.hazard.floorLevel
      ∧ (outcome (.floorReceived h b) s).hazard.floorRemaining = s.hazard.floorRemaining := by
  by_cases hh : Heard h s
  · have hign : s.isControl h.source = false ∨ (b.target ≠ 0#8 ∧ b.target ≠ s.startup.address) ∨ s.phase = .configFault := by
      by_contra hno
      push Not at hno
      obtain ⟨hc, hor, -⟩ := hno
      refine ht ⟨hh, by simpa using hc, ?_⟩
      by_cases h0 : b.target = 0#8
      · exact .inl h0
      · exact .inr (hor h0)
    have hu := frame_tabled_frame h (fun p => p) s
    rw [show outcome (.floorReceived h b) s = serveFloor h.source b (tabled h (fun p => p) (endFrame s)) from
      receiveFrame_heard hh _ _, serveFloor_ignored hign hu]
    exact hu.floor_eq rfl
  · exact (frame_unheard hh _ _).floor_eq rfl

/-! ## What a FLOOR's frame makes of the neighbour floor -/

theorem reportPeers_neighbourFloor (hop : s.phase.operating = true) : (reportPeers s).hazard.neighbourFloor = s.neighbourFloorNow := by
  have hset : ∀ v : State, (recomputeEffective v).hazard.neighbourFloor = v.hazard.neighbourFloor := fun v =>
    (frame_recomputeEffective v).neighbourFloor_eq rfl
  have hrest : ∀ v : State, (judgeQuiet (evaluateSigns (present .status v))).hazard.neighbourFloor = v.hazard.neighbourFloor := fun v =>
    ((frame_judgeQuiet _).neighbourFloor_eq rfl).trans (((frame_evaluateSigns _).neighbourFloor_eq rfl).trans
      ((frame_present _ _).neighbourFloor_eq rfl))
  unfold reportPeers
  rw [if_pos hop, (frame_judgeQuiet _).neighbourFloor_eq rfl]
  unfold recomputeNeighbours
  dsimp only
  split
  · exact hset _
  · exact (hrest _).trans (hset _)

/-- The parts that the handler reads of a frame's state. -/
def Part.frameRead : List Part := [.settings, .receiver, .flight, .peerEntries]

/-- Two states that a frame meets alike. -/
structure MeetsAlike (s t : State) : Prop where
  phase : t.phase = s.phase
  config : t.config = s.config
  address : t.startup.address = s.startup.address
  receiver : t.line.receiver = s.line.receiver
  echo : t.line.echo = s.line.echo
  sending : t.line.sending = s.line.sending
  entries : t.peers.entries = s.peers.entries

theorem MeetsAlike.of_frame {qs : List Part} (h : Frame qs s t) (hd : Part.apart Part.frameRead qs = true) : MeetsAlike s t := by
  obtain ⟨hphase, hconfig, haddress⟩ := h.settings_eq (Part.not_mem_of_apart hd (by simp [Part.frameRead]))
  obtain ⟨hreceiver, -, hecho, -⟩ := h.keeps hd (p := .receiver) (by simp [Part.frameRead])
  obtain ⟨-, -, hsending, -⟩ := h.keeps hd (p := .flight) (by simp [Part.frameRead])
  have hentries := h.keeps hd (p := .peerEntries) (by simp [Part.frameRead])
  exact ⟨hphase, hconfig, haddress, hreceiver.symm, hecho.symm, hsending.symm, hentries.symm⟩

theorem MeetsAlike.findPeer (h : MeetsAlike s t) (a : Byte) : t.findPeer a = s.findPeer a := by
  unfold State.findPeer
  rw [h.entries]

theorem MeetsAlike.heard_iff (hm : MeetsAlike s t) (h : FrameHeader) : Heard h t ↔ Heard h s := by
  unfold Heard
  rw [hm.receiver, hm.sending, hm.echo, hm.address, hm.findPeer]

theorem MeetsAlike.takesFloor_iff (hm : MeetsAlike s t) (h : FrameHeader) (b : FloorBody) : t.TakesFloor h b ↔ s.TakesFloor h b := by
  unfold State.TakesFloor
  rw [hm.heard_iff, isControl_congr hm.phase hm.config, hm.address]

theorem neighbourFloor_tabled (h : FrameHeader) (take : Peer → Peer) (s : State) : (tabled h take s).hazard.neighbourFloor
    = if s.neighbourChange (s.findPeer h.source) (s.servedPeer h take) = true ∧ s.phase.operating = true
      then (storePeer (s.servedPeer h take) s).neighbourFloorNow else s.hazard.neighbourFloor := by
  have hgap : (tabled h take s).hazard.neighbourFloor = (served h take s).hazard.neighbourFloor := by
    unfold tabled
    split
    · exact (frame_noteGap _ _).neighbourFloor_eq rfl
    · rfl
  rw [hgap]
  unfold served
  split
  · next hc =>
    by_cases hop : s.phase.operating = true
    · rw [if_pos ⟨hc, hop⟩]
      exact reportPeers_neighbourFloor (s := storePeer (s.servedPeer h take) s) hop
    · rw [if_neg fun h => hop h.2, reportPeers_of_not_operating (s := storePeer (s.servedPeer h take) s) (Bool.eq_false_iff.mpr hop)]
      rfl
  · next hc =>
    rw [if_neg fun h => hc h.1]
    rfl

/-- The neighbour floor that a frame leaves is read from the table, the configuration and the floor before. -/
theorem neighbourFloor_tabled_congr (hphase : t.phase = s.phase) (hconfig : t.config = s.config)
    (hentries : t.peers.entries = s.peers.entries) (hfloor : t.hazard.neighbourFloor = s.hazard.neighbourFloor)
    (h : FrameHeader) (take : Peer → Peer) :
    (tabled h take t).hazard.neighbourFloor = (tabled h take s).hazard.neighbourFloor := by
  have hnear : t.isNeighbour = s.isNeighbour := by
    funext p
    unfold State.isNeighbour
    rw [hconfig]
  have hfind : t.findPeer h.source = s.findPeer h.source := by
    unfold State.findPeer
    rw [hentries]
  have hserved : t.servedPeer h take = s.servedPeer h take := by
    unfold State.servedPeer State.newPeer
    rw [hfind, isControl_congr hphase hconfig]
  have hchange : ∀ old new, t.neighbourChange old new = s.neighbourChange old new := fun old new => by
    unfold State.neighbourChange
    rw [hnear]
  have hnow : ∀ p, (storePeer p t).neighbourFloorNow = (storePeer p s).neighbourFloorNow := fun p => by
    have hqualifies : (storePeer p t).qualifies = (storePeer p s).qualifies := by
      funext q
      unfold State.qualifies
      rw [show (storePeer p t).isNeighbour q = t.isNeighbour q from rfl, hnear]
      rfl
    have hput : (storePeer p t).peers.entries = (storePeer p s).peers.entries := congrArg (putPeer p) hentries
    unfold State.neighbourFloorNow
    rw [hqualifies, hput]
  rw [neighbourFloor_tabled, neighbourFloor_tabled, hserved, hfind, hchange, hphase, hnow, hfloor]

theorem neighbourFloor_floorReceived (hm : MeetsAlike s t) (hfloor : t.hazard.neighbourFloor = s.hazard.neighbourFloor)
    (h : FrameHeader) (b : FloorBody) :
    (outcome (.floorReceived h b) t).hazard.neighbourFloor = (outcome (.floorReceived h b) s).hazard.neighbourFloor := by
  have hserve : ∀ v : State, (serveFloor h.source b v).hazard.neighbourFloor = v.hazard.neighbourFloor := fun v => by
    unfold serveFloor
    split
    · rw [applyFloor_eq]
      split
      · rfl
      · exact (frame_floorTest _).neighbourFloor_eq rfl
    · rfl
  by_cases hh : Heard h s
  · have hheard : ∀ v : State, Heard h v → (outcome (.floorReceived h b) v).hazard.neighbourFloor
        = (tabled h (fun p => p) (endFrame v)).hazard.neighbourFloor := fun v hv => by
      rw [show outcome (.floorReceived h b) v = serveFloor h.source b (tabled h (fun p => p) (endFrame v)) from
        receiveFrame_heard hv _ _, hserve]
    have hend : ∀ v : State, (endFrame v).phase = v.phase ∧ (endFrame v).config = v.config
        ∧ (endFrame v).peers.entries = v.peers.entries ∧ (endFrame v).hazard.neighbourFloor = v.hazard.neighbourFloor := fun v =>
      ⟨(frame_endFrame v).phase_eq rfl, (frame_endFrame v).config_eq rfl,
        ((frame_endFrame v).keeps (qs := [.peerEntries]) rfl (p := .peerEntries) (by simp)).symm,
        (frame_endFrame v).neighbourFloor_eq rfl⟩
    obtain ⟨hp, hc, he, hf⟩ := hend s
    obtain ⟨hp2, hc2, he2, hf2⟩ := hend t
    rw [hheard s hh, hheard t ((hm.heard_iff h).mpr hh)]
    exact neighbourFloor_tabled_congr (by rw [hp, hp2, hm.phase]) (by rw [hc, hc2, hm.config]) (by rw [he, he2, hm.entries])
      (by rw [hf, hf2, hfloor]) h _
  · have hunheard : ∀ v : State, ¬ Heard h v → (outcome (.floorReceived h b) v).hazard.neighbourFloor = v.hazard.neighbourFloor :=
      fun v hv => (frame_unheard hv _ _).neighbourFloor_eq rfl
    rw [hunheard s hh, hunheard t (mt (hm.heard_iff h).mp hh), hfloor]

/-! ## Expiry -/

theorem outcome_operatorFloorExpiry (hop : s.phase.operating = true) (hlevel : 0 < s.hazard.floorLevel)
    (hzero : s.hazard.floorRemaining = 0) : outcome .operatorFloorExpiry s
      = autocloseTest (recomputeEffective (s.withHazard { s.hazard with floorLevel := 0 })) :=
  if_pos (by rw [hop, Bool.true_and]; exact decide_eq_true ⟨hlevel, hzero⟩)

theorem operatorFloorExpiry_eq_self (h : ¬ (0 < s.hazard.floorLevel ∧ s.hazard.floorRemaining = 0)) :
    outcome .operatorFloorExpiry s = s :=
  if_neg (by rw [decide_eq_false h, Bool.and_false]; exact Bool.false_ne_true)

theorem frame_operatorFloorExpiry (s : State) : Frame (.floor :: Part.ofHazard) s (outcome .operatorFloorExpiry s) := by
  have hset : Frame [.floor] s (s.withHazard { s.hazard with floorLevel := 0 }) := fun p hp => by
    cases p <;> simp_all [Part.agree]
  exact Frame.guard ((hset.widen rfl).trans ((frame_floorTest _).widen rfl))

theorem operatorFloorExpiry_floor (hop : s.phase.operating = true) (hlevel : 0 < s.hazard.floorLevel)
    (hzero : s.hazard.floorRemaining = 0) :
    (outcome .operatorFloorExpiry s).hazard.floorLevel = 0 ∧ (outcome .operatorFloorExpiry s).hazard.floorRemaining = 0 := by
  obtain ⟨hl, hr⟩ := (frame_floorTest (s.withHazard { s.hazard with floorLevel := 0 })).floor_eq rfl
  rw [outcome_operatorFloorExpiry hop hlevel hzero]
  exact ⟨hl, hr.trans hzero⟩

/-- R45: a FLOOR taken at the instant of expiry leaves the same floor, whichever is taken first. -/
theorem floor_either_order (h : FrameHeader) (b : FloorBody) (hlaw : LevelLaw s) (hop : s.phase.operating = true)
    (hlevel : 0 < s.hazard.floorLevel) (hzero : s.hazard.floorRemaining = 0) :
    let t := outcome (.floorReceived h b) (outcome .operatorFloorExpiry s)
    let u := outcome .operatorFloorExpiry (outcome (.floorReceived h b) s)
    t.hazard.floorLevel = u.hazard.floorLevel ∧ t.hazard.floorRemaining = u.hazard.floorRemaining
      ∧ t.hazard.effective = u.hazard.effective := by
  intro t u
  have hexpired := frame_operatorFloorExpiry s
  have hmeets : MeetsAlike s (outcome .operatorFloorExpiry s) := .of_frame hexpired rfl
  have hop2 : (outcome .operatorFloorExpiry s).phase.operating = true := hmeets.phase ▸ hop
  have hphase : (outcome (.floorReceived h b) s).phase = s.phase := (frame_outcome (.floorReceived h b) s).phase_eq rfl
  obtain ⟨hl0, hr0⟩ := operatorFloorExpiry_floor hop hlevel hzero
  have hfloors : t.hazard.floorLevel = u.hazard.floorLevel ∧ t.hazard.floorRemaining = u.hazard.floorRemaining := by
    by_cases htakes : s.TakesFloor h b
    · obtain ⟨htl, htr⟩ := floorReceived_taken hop2 ((hmeets.takesFloor_iff h b).mpr htakes)
      obtain ⟨hul, hur⟩ := floorReceived_taken hop htakes
      have hself : u = outcome (.floorReceived h b) s := operatorFloorExpiry_eq_self fun ⟨h1, h2⟩ =>
        floorAsked_remains (hul ▸ h1) (hur ▸ h2)
      rw [hself]
      exact ⟨htl.trans hul.symm, htr.trans hur.symm⟩
    · obtain ⟨htl, htr⟩ := floorReceived_untaken (mt (hmeets.takesFloor_iff h b).mp htakes)
      obtain ⟨hul, hur⟩ := floorReceived_untaken htakes
      obtain ⟨hl, hr⟩ := operatorFloorExpiry_floor (s := outcome (.floorReceived h b) s) (hphase ▸ hop) (hul ▸ hlevel) (hur.trans hzero)
      exact ⟨(htl.trans hl0).trans hl.symm, (htr.trans hr0).trans hr.symm⟩
  obtain ⟨heff, -⟩ := levelLaw_outcome (.floorReceived h b) (levelLaw_outcome .operatorFloorExpiry hlaw)
  obtain ⟨heff2, -⟩ := levelLaw_outcome .operatorFloorExpiry (levelLaw_outcome (.floorReceived h b) hlaw)
  refine ⟨hfloors.1, hfloors.2, ?_⟩
  have hcomputed : t.hazard.computed = u.hazard.computed :=
    (((frame_outcome (.floorReceived h b) _).computed_eq rfl).trans (hexpired.computed_eq rfl)).trans
      (((frame_operatorFloorExpiry _).computed_eq rfl).trans ((frame_outcome (.floorReceived h b) s).computed_eq rfl)).symm
  have hneighbour : t.hazard.neighbourFloor = u.hazard.neighbourFloor :=
    (neighbourFloor_floorReceived hmeets (hexpired.neighbourFloor_eq rfl) h b).trans
      ((frame_operatorFloorExpiry _).neighbourFloor_eq rfl).symm
  rw [show t.hazard.effective = max t.hazard.computed (max t.hazard.floorLevel t.hazard.neighbourFloor) from heff,
    show u.hazard.effective = max u.hazard.computed (max u.hazard.floorLevel u.hazard.neighbourFloor) from heff2,
    hcomputed, hneighbour, hfloors.1]

/-! ## The STATUS of a change of level -/

/-- A STATUS is queued, or the queue holds `n` entries. -/
def Pressed (n : Nat) (q : List Bulletin) : Prop := Bulletin.status ∈ q ∨ n ≤ q.length

theorem Pressed.enqueue {n : Nat} {q : List Bulletin} (h : Pressed n q) (hn : n ≤ 12) (e : Bulletin) : Pressed n (enqueue e q) := by
  rcases enqueue_cases e q with ⟨he, -⟩ | ⟨he, -, -⟩ | ⟨he, -, hfull⟩ <;> rw [he]
  · exact h
  · refine h.imp (fun hm => (insertEntry_perm e q).mem_iff.mpr (List.mem_cons_of_mem _ hm)) fun hl => ?_
    rw [length_insertEntry]
    omega
  · right
    rw [length_insertEntry, List.length_dropLast]
    omega

/-- R65: an entry that is not queued makes up for one that was dropped. -/
theorem Pressed.enqueue_new {q : List Bulletin} (h : Pressed 11 q) {e : Bulletin} (he : e ∉ q) : Pressed 12 (Machine.enqueue e q) := by
  rcases enqueue_cases e q with ⟨heq, hm⟩ | ⟨heq, -, -⟩ | ⟨heq, -, hfull⟩ <;> rw [heq]
  · exact .inr (hm.resolve_left he)
  · refine h.imp (fun hm => (insertEntry_perm e q).mem_iff.mpr (List.mem_cons_of_mem _ hm)) fun hl => ?_
    rw [length_insertEntry]
    omega
  · right
    rw [length_insertEntry, List.length_dropLast]
    omega

theorem pressed_present {n : Nat} (h : Pressed n s.line.queue) (hn : n ≤ 12) (e : Bulletin) : Pressed n (present e s).line.queue := by
  rw [queue_present]
  split
  · exact h
  · exact h.enqueue hn e

theorem pressed_reported {n : Nat} (h : Pressed n s.line.queue) (hn : n ≤ 12) (hr : Reported s t) : Pressed n t.line.queue := by
  rcases hr with hr | hr <;> rw [hr]
  · exact h
  · exact h.enqueue hn _

theorem pressed_queueOwn {n : Nat} (h : Pressed n s.line.queue) (hn : n ≤ 12) (r : ClosureRecord) :
    Pressed n (queueOwn r s).line.queue := by
  unfold queueOwn
  split
  · exact pressed_present h hn _
  · exact h

theorem reported_storeRecord (i : Nat) (r : ClosureRecord) (s : State) : Reported s (storeRecord i r s) :=
  (reported_keeps s).storeRecord i r (.refl s)

theorem pressed_bringForward (h : Pressed 12 s.line.queue) : Pressed 12 (bringForward s).line.queue := by
  have hat : ∀ j t, Pressed 12 t.line.queue → Pressed 12 (bringForwardAt j t).line.queue := fun j t ht => by
    unfold bringForwardAt
    split
    · dsimp only
      split
      · exact pressed_reported (pressed_queueOwn ht le_rfl _) le_rfl (reported_storeRecord _ _ _)
      · exact ht
    · exact ht
  unfold bringForward
  split
  · exact forIndices_keeps (law := fun t => Pressed 12 t.line.queue) hat h
  · exact h

/-- R68: with no ALERT of the id queued, its removal drops one entry at most. -/
theorem pressed_dropped {q : List Bulletin} (h : Pressed 12 q) (hq : q.Nodup) {id : RecId} (halert : Bulletin.alert id ∉ q) :
    Pressed 11 (q.filter (fun e => decide (e ≠ .closure id ∧ e ≠ .alert id))) := by
  have hfilter : q.filter (fun e => decide (e ≠ .closure id ∧ e ≠ .alert id)) = q.erase (.closure id) := by
    rw [hq.erase_eq_filter]
    refine List.filter_congr fun e he => ?_
    have hne : e ≠ .alert id := fun hx => halert (hx ▸ he)
    rw [Bool.eq_iff_iff, decide_eq_true_eq, bne_iff_ne, and_iff_left hne]
  rw [hfilter]
  rcases h with hm | hl
  · exact .inl ((List.mem_erase_of_ne (by exact nofun)).mpr hm)
  · right
    rw [List.length_erase]
    split <;> omega

/-- R48: a change of the effective level queues a STATUS, where there is room for it. -/
theorem pressed_recomputeEffective (hop : s.phase.operating = true) (h : s.hazard.largest ≠ s.hazard.effective) :
    (recomputeEffective s).line.queue = enqueue .status s.line.queue := by
  unfold recomputeEffective
  rw [if_neg h]
  refine queue_judgeQuiet_of_status ?_
  rw [(frame_evaluateSigns _).queue_eq rfl]
  exact queue_present_operating (s := s.withHazard _) .status hop

/-- The laws by which a removal drops one entry at most, and a new record's CLOSURE is not queued. -/
structure Roomy (s : State) : Prop where
  queue : QueueLaw s
  register : RegisterLaw s
  alerts : AlertLaw s
  entries : EntryLaw s

theorem originate_fst (s : State) : (originate s).1 = if (admitRecord s.autocloseRecord s).2 then
    queueOwn s.autocloseRecord (takeSerial s.nextSerial (admitRecord s.autocloseRecord s).1)
    else (admitRecord s.autocloseRecord s).1 := by
  unfold originate
  dsimp only
  rw [show s.ownRecord .avalanche s.config.segmentHalf .announced s.config.announceLead = s.autocloseRecord from rfl]
  cases admitRecord s.autocloseRecord s with
  | mk t placed => cases placed <;> rfl

/-- R115: where a record is evicted, the new record's CLOSURE takes the place of the one dropped. -/
theorem pressed_evicted (hlaws : Roomy s) (hrun : s.phase = .running) (h : Pressed 12 s.line.queue) {i : Nat}
    (hevict : s.evictIndex s.autocloseRecord = some i) :
    Pressed 12 (queueOwn s.autocloseRecord (takeSerial s.nextSerial
      (storeRecord i s.autocloseRecord.settled (vacate i s)))).line.queue := by
  obtain ⟨⟨-, -, hnodup⟩, hregister, halerts, hentries⟩ := hlaws
  obtain ⟨hlength, -, hok⟩ := (registerLaw_iff s).mp hregister
  obtain ⟨a, ha, hown⟩ := evictIndex_not_own hevict
  have halert : Bulletin.alert a.id ∉ s.line.queue := fun hm => by
    rw [(hok i a ha).1.mpr (halerts a.id hm)] at hown
    cases hown
  have hnew : Bulletin.closure s.autocloseRecord.id ∉ s.line.queue := fun hm => by
    have hheld := hentries _ (.inl hm)
    rw [show s.autocloseRecord.id = s.ownId s.nextSerial from rfl, nextSerial_free hlength.le] at hheld
    cases hheld
  have hstored : Reported (removeEntries i a s) (takeSerial s.nextSerial (storeRecord i s.autocloseRecord.settled (vacate i s))) := by
    rw [vacate_eq ha]
    exact (((reported_keeps _).reportRecords (.refl _)).trans (reported_storeRecord _ _ _)).trans (.of_frame (frame_takeSerial _ _) rfl)
  have hphase : (takeSerial s.nextSerial (storeRecord i s.autocloseRecord.settled (vacate i s))).phase = .running := by
    rw [(frame_takeSerial _ _).phase_eq rfl, (frame_storeRecord _ _ _).phase_eq rfl, (frame_vacate i s).phase_eq rfl, hrun]
  have hdropped : Pressed 11 (removeEntries i a s).line.queue := by
    rw [queue_removeEntries]
    exact pressed_dropped h hnodup halert
  have hpressed := pressed_reported hdropped (by omega) hstored
  have hfresh : Bulletin.closure s.autocloseRecord.id
      ∉ (takeSerial s.nextSerial (storeRecord i s.autocloseRecord.settled (vacate i s))).line.queue := fun hm => by
    rcases hstored.mem hm with he | he
    · cases he
    · rw [queue_removeEntries] at he
      exact hnew (List.mem_of_mem_filter he)
  generalize takeSerial s.nextSerial (storeRecord i s.autocloseRecord.settled (vacate i s)) = v at *
  have hqueue : queueOwn s.autocloseRecord v = present (.closure s.autocloseRecord.id) v := by
    unfold queueOwn
    rw [hphase]
    rfl
  rw [hqueue, queue_present_operating _ (by rw [hphase]; rfl)]
  exact hpressed.enqueue_new hfresh

/-- R112, R115: an origination leaves a STATUS queued or the queue full. -/
theorem pressed_originate (hlaws : Roomy s) (hrun : s.phase = .running) (h : Pressed 12 s.line.queue) :
    Pressed 12 (originate s).1.line.queue := by
  rw [originate_fst]
  cases hfree : freeIndex 0 s.register.slots with
  | some i =>
    rw [admitRecord_of_free hfree]
    exact pressed_queueOwn (s := takeSerial _ _) (pressed_reported h le_rfl (reported_storeRecord _ _ s)) le_rfl _
  | none =>
    cases hevict : s.evictIndex s.autocloseRecord with
    | none =>
      rw [admitRecord_of_full hfree hevict]
      refine pressed_reported h le_rfl ?_
      unfold setFull
      split
      · exact .refl s
      · exact reported_status (s.withRegister _)
    | some i =>
      rw [admitRecord_of_evicted hfree hevict]
      exact pressed_evicted hlaws hrun h hevict

theorem pressed_autocloseTest (hlaws : Roomy s) (h : Pressed 12 s.line.queue) : Pressed 12 (autocloseTest s).line.queue := by
  by_cases hcalled : s.Called
  · have horiginate := pressed_originate hlaws hcalled.2.2.2.2 h
    rw [autocloseTest_of_called hcalled]
    split
    · exact pressed_bringForward horiginate
    · exact horiginate
  · rw [autocloseTest_eq_self hcalled]
    exact h

theorem Roomy.of_status (hlaws : Roomy s) (hlaw : QueueLaw t) (hframe : Frame (.floor :: .effective :: Part.ofQuiet) s t)
    (hqueue : t.line.queue = enqueue .status s.line.queue) : Roomy t := by
  obtain ⟨-, hregister, halerts, hentries⟩ := hlaws
  have hslots : t.register.slots = s.register.slots := hframe.slots_eq (by decide)
  obtain ⟨-, -, haddress⟩ := hframe.settings_eq (by decide)
  have hmem : ∀ e ∈ t.line.queue, e = .status ∨ e ∈ s.line.queue := fun e he => mem_of_mem_enqueue (hqueue ▸ he)
  refine ⟨hlaw, registerLaw_congr hslots haddress hregister, fun id hid => ?_, fun id hid => ?_⟩
  · rw [haddress]
    exact halerts id ((hmem _ hid).resolve_left (by exact nofun))
  · rw [findRecord_congr hslots]
    exact hentries id (hid.imp (fun hm => (hmem _ hm).resolve_left (by exact nofun)) fun hm => (hmem _ hm).resolve_left (by exact nofun))

theorem recomputeEffective_effective (s : State) : (recomputeEffective s).hazard.effective = s.hazard.largest := by
  unfold recomputeEffective
  split
  · next h => exact h.symm
  · rw [(frame_judgeQuiet _).effective_eq rfl, (frame_evaluateSigns _).effective_eq rfl, (frame_present _ _).effective_eq rfl]
    rfl

theorem operatorFloor_expires (hop : s.phase.operating = true) (hlevel : 0 < s.hazard.floorLevel)
    (hzero : s.hazard.floorRemaining = 0) :
    Completes .operatorFloorExpiry s (fun t =>
        t.hazard.floorLevel = 0 ∧ t.hazard.effective = max s.hazard.computed s.hazard.neighbourFloor
          ∧ t.hazard.computed = s.hazard.computed ∧ t.hazard.neighbourFloor = s.hazard.neighbourFloor
          ∧ (QueueLaw s → RegisterLaw s → AlertLaw s → EntryLaw s → t.hazard.effective ≠ s.hazard.effective →
              Bulletin.status ∈ t.line.queue ∨ 12 ≤ t.line.queue.length)) := by
  obtain ⟨hfloor, -⟩ := operatorFloorExpiry_floor hop hlevel hzero
  have hexpired := frame_operatorFloorExpiry s
  rw [completes_iff]
  have heffective : (outcome .operatorFloorExpiry s).hazard.effective
      = (s.withHazard { s.hazard with floorLevel := 0 }).hazard.largest := by
    rw [outcome_operatorFloorExpiry hop hlevel hzero, (frame_autocloseTest _).effective_eq rfl, recomputeEffective_effective]
  refine ⟨hfloor, ?_, hexpired.computed_eq rfl, hexpired.neighbourFloor_eq rfl, fun hqueue hregister halerts hentries hchange => ?_⟩
  · rw [heffective]
    change max s.hazard.computed (max 0 s.hazard.neighbourFloor) = _
    rw [Nat.zero_max]
  · have hqueued := pressed_recomputeEffective (s := s.withHazard { s.hazard with floorLevel := 0 }) hop
      (fun he => hchange (heffective.trans he))
    have hset : Frame [.floor] s (s.withHazard { s.hazard with floorLevel := 0 }) := fun p hp => by
      cases p <;> simp_all [Part.agree]
    have hframe : Frame (.floor :: .effective :: Part.ofQuiet) s (recomputeEffective (s.withHazard { s.hazard with floorLevel := 0 })) :=
      (hset.widen rfl).trans ((frame_recomputeEffective _).widen rfl)
    have hlaw : QueueLaw (recomputeEffective (s.withHazard { s.hazard with floorLevel := 0 })) :=
      (turns_recomputeEffective (ps := []) _).keep (queueLaw_of_turn rfl) hqueue
    have hroomy := Roomy.of_status ⟨hqueue, hregister, halerts, hentries⟩ hlaw hframe hqueued
    rw [outcome_operatorFloorExpiry hop hlevel hzero]
    exact pressed_autocloseTest hroomy (hqueued ▸ mem_or_full_enqueue _ _)

/-- Settles O31: a FLOOR is followed through the handler to the floor it asks for; the law of the effective level gives the rest; the
STATUS of an expiry outlasts the autoclose test, whose eviction drops one entry at most before it queues another. -/
theorem operatorFloorIsSetAndExpires : Obligations.OperatorFloorIsSetAndExpires := by
  refine ⟨fun s h b hop hheard hcontrol htarget hlaw => ?_, fun s hop hlevel hzero => operatorFloor_expires hop hlevel hzero,
    fun s t1 t2 u1 u2 h b hlaw hop hlevel hzero ht1 ht2 hu1 hu2 => ?_, fun s h b hheard hign => ?_⟩
  · intro cancel
    have hcancel : cancel = true ↔ b.level.toNat = 0 ∨ b.minutes.toNat = 0 := by
      simp only [cancel, Bool.or_eq_true, decide_eq_true_eq, ← BitVec.toNat_inj]
      rfl
    obtain ⟨hl, hr⟩ := floorReceived_taken hop ⟨hheard, hcontrol, htarget⟩
    obtain ⟨heff, -⟩ := levelLaw_outcome (.floorReceived h b) hlaw
    have hcomputed := (frame_outcome (.floorReceived h b) s).computed_eq rfl
    rw [completes_iff]
    refine ⟨?_, ?_, heff, hcomputed⟩
    · rw [hl, floorAsked]
      by_cases hc : cancel = true
      · rw [if_pos hc, if_pos (hcancel.mp hc)]
      · rw [if_neg hc, if_neg (mt hcancel.mpr hc)]
    · rw [hr, floorAsked]
      by_cases hc : cancel = true
      · rw [if_pos hc, if_pos (hcancel.mp hc)]
      · rw [if_neg hc, if_neg (mt hcancel.mpr hc)]
  · obtain rfl := outcome_of_exec ht1
    obtain rfl := outcome_of_exec ht2
    obtain rfl := outcome_of_exec hu1
    obtain rfl := outcome_of_exec hu2
    exact floor_either_order h b hlaw hop hlevel hzero
  · rw [completes_iff]
    exact orderIgnored_of_served hheard fun u hu => serveFloor_ignored hign hu

end Sys2Proof.Machine
end

section
/-! PROOF. The pass line: characters taken (O34), frames ended (O35), attempts that succeed or fail (O37). -/

namespace Sys2Proof.Machine

open Sys2Proof

variable {s t : State}

/-! ## A character taken -/

/-- A character taken writes the receiver, its buffer, the echo flag and the idle. -/
theorem Line.takeChar_eq (l : Line) (c : Byte) (bad : Bool) : ∃ r b e i,
    l.takeChar c bad = { l with receiver := r, buffer := b, echo := e, idle := i } := by
  unfold Line.takeChar
  split
  · exact ⟨_, _, _, _, rfl⟩
  · exact ⟨_, l.buffer, _, _, rfl⟩
  · split <;> exact ⟨_, _, _, _, rfl⟩
  · split <;> exact ⟨_, _, l.echo, _, rfl⟩
  · exact ⟨_, l.buffer, l.echo, _, rfl⟩

/-- R57, R59: the receiver after a character, and what it has assembled. -/
theorem Line.takeChar_receiver (l : Line) (c : Byte) (bad : Bool) (h : l.receiver ≠ .inactive) :
    (l.takeChar c bad).receiver = (match l.receiver with
        | .ready => if bad then .discarding else .assembling
        | .assembling => if bad || decide (54 ≤ l.buffer.length) then .discarding else .assembling
        | _ => .discarding)
      ∧ ((l.takeChar c bad).receiver = .assembling →
        (l.takeChar c bad).buffer = (if l.receiver = .ready then [c] else l.buffer ++ [c])) := by
  unfold Line.takeChar
  cases hr : l.receiver with
  | inactive => exact absurd hr h
  | hunting => exact ⟨rfl, nofun⟩
  | ready =>
    cases bad with
    | false => exact ⟨rfl, fun _ => rfl⟩
    | true => exact ⟨rfl, nofun⟩
  | assembling =>
    dsimp only
    split
    · exact ⟨rfl, nofun⟩
    · exact ⟨rfl, fun _ => rfl⟩
  | discarding => exact ⟨rfl, nofun⟩

/-- R70: a character interrupts whatever wait there is. -/
theorem Line.interrupt_eq (l : Line) :
    l.interrupt = { l with wait := if l.wait = none then none else some .interrupted } := by
  unfold Line.interrupt
  obtain ⟨r, b, e, i, q, w, rest⟩ := l
  cases w with
  | none => rfl
  | some w => cases w <;> rfl

theorem Line.compareEcho_of_none {l : Line} (h : l.sending = none) (rate : Nat) (c : Byte) (bad : Bool) :
    l.compareEcho rate c bad = l := by
  unfold Line.compareEcho
  rw [h]

/-- R72: what a character makes of the attempt being sent. -/
def Transmission.compared (x : Transmission) (f : Flight) (rate : Nat) (c : Byte) (bad : Bool) : Transmission :=
  if f.frame.length ≤ x.echoed then x
  else if x.failed = false ∧ bad = false ∧ f.frame[x.echoed]? = some c ∧ x.elapsed < x.echoed * 1000000 + (50000 + rate)
  then { x with echoed := x.echoed + 1 } else { x with failed := true }

theorem Line.compareEcho_eq {l : Line} {x : Transmission} {f : Flight} (hx : l.sending = some x) (hf : l.inFlight = some f)
    (rate : Nat) (c : Byte) (bad : Bool) :
    l.compareEcho rate c bad = { l with sending := some (x.compared f rate c bad) } := by
  have hmatch : (!x.failed && !bad && decide (f.frame[x.echoed]? = some c
      ∧ x.elapsed < x.echoed * charUnits + echoSlack rate)) = true
      ↔ x.failed = false ∧ bad = false ∧ f.frame[x.echoed]? = some c
        ∧ x.elapsed < x.echoed * 1000000 + (50000 + rate) := by
    rw [Bool.and_eq_true_iff, Bool.and_eq_true_iff, decide_eq_true_iff, Bool.not_eq_true', Bool.not_eq_true', and_assoc]
    exact Iff.rfl
  have hself : l = { l with sending := some x } := by rw [← hx]
  unfold Transmission.compared
  have heq : l.compareEcho rate c bad = if f.frame.length ≤ x.echoed then l
      else if (!x.failed && !bad && decide (f.frame[x.echoed]? = some c
        ∧ x.elapsed < x.echoed * charUnits + echoSlack rate)) = true
      then { l with sending := some { x with echoed := x.echoed + 1 } }
      else { l with sending := some { x with failed := true } } := by
    unfold Line.compareEcho
    rw [hx, hf]
  rw [heq, if_congr hmatch rfl rfl]
  split
  · exact hself
  · split <;> rfl

theorem outcome_characterReceived (h : s.line.receiver ≠ .inactive) (c : Byte) (bad : Bool) :
    outcome (.characterReceived c bad) s = s.withLine ((s.line.takeChar c bad).interrupt.compareEcho
      (lineRate s.startup.rateCode) c bad) := if_neg h

/-- Settles O34: a character is taken, interrupts the wait and is compared; each part writes fields of its own. -/
theorem charactersAreAssembled : Obligations.CharactersAreAssembled := by
  refine ⟨fun s c bad hidle => ⟨fun hoff => ?_, fun hon => completes_iff.mpr ?_⟩,
    fun s c bad x f hon hx hf => completes_iff.mpr ?_⟩
  · rw [exec_eq_next]
    exact congrArg _ (if_pos hoff)
  · rw [outcome_characterReceived hon]
    obtain ⟨hreceiver, hbuffer⟩ := s.line.takeChar_receiver c bad hon
    obtain ⟨r, b, e, i, htake⟩ := s.line.takeChar_eq c bad
    have hnone : (s.line.takeChar c bad).interrupt.sending = none := by
      rw [htake, Line.interrupt_eq]
      exact hidle
    rw [Line.compareEcho_of_none hnone]
    rw [htake] at hreceiver hbuffer ⊢
    rw [Line.interrupt_eq]
    exact ⟨hreceiver, hbuffer, fun hw => if_neg hw, fun hw => if_pos hw, rfl, rfl, rfl⟩
  · rw [outcome_characterReceived hon]
    obtain ⟨r, b, e, i, htake⟩ := s.line.takeChar_eq c bad
    have hsend : (s.line.takeChar c bad).interrupt.sending = some x := by
      rw [htake, Line.interrupt_eq]
      exact hx
    have hflight : (s.line.takeChar c bad).interrupt.inFlight = some f := by
      rw [htake, Line.interrupt_eq]
      exact hf
    rw [Line.compareEcho_eq hsend hflight]
    refine ⟨rfl, hflight, ?_⟩
    rw [htake, Line.interrupt_eq]
    rfl

/-! ## The end of a frame -/

/-- R70, R73: the wait begun again at the end of a frame. -/
theorem Line.restartWait_wait {l : Line} (h : l.wait = some .interrupted) :
    (∀ f, l.inFlight = some f →
        l.restartWait.wait = some (.counting f.bulletin.cls (8 * l.attempts) (drawFor f.bulletin.cls l.draws) l.idle))
      ∧ (∀ e, l.inFlight = none → l.queue.head? = some e →
        l.restartWait.wait = some (.counting e.cls 0 (drawFor e.cls l.draws) l.idle))
      ∧ (l.restartWait.wait ≠ some .interrupted) := by
  unfold Line.restartWait
  rw [h]
  refine ⟨fun f hf => by rw [hf]; rfl, fun e hf he => ?_, ?_⟩
  · rw [hf]
    obtain ⟨rest, hq⟩ := List.head?_eq_some_iff.mp he
    rw [hq]
    rfl
  · dsimp only
    split
    · exact nofun
    · split <;> exact nofun

/-- R58, R70: the line after the frame on it has ended. -/
theorem endFrame_wait (h : s.line.receiver ≠ .inactive) :
    (s.line.wait ≠ some .interrupted → (endFrame s).line.wait = s.line.wait)
      ∧ (∀ e, s.line.queue.head? = some e → s.line.wait = some .interrupted → s.line.inFlight = none →
        (endFrame s).line.wait = some (.counting e.cls 0 (drawFor e.cls s.line.draws) s.line.idle))
      ∧ (∀ f, s.line.inFlight = some f → s.line.wait = some .interrupted →
        (endFrame s).line.wait
          = some (.counting f.bulletin.cls (8 * s.line.attempts) (drawFor f.bulletin.cls s.line.draws) s.line.idle))
      ∧ (endFrame s).line.wait ≠ some .interrupted := by
  obtain ⟨l, hl⟩ : ∃ l : Line, l = { s.line with receiver := .hunting, echo := false } := ⟨_, rfl⟩
  have hend : (endFrame s).line = l.restartWait := by
    rw [hl, endFrame, if_neg h]
    rfl
  have hw : l.wait = s.line.wait := by rw [hl]
  by_cases hi : s.line.wait = some .interrupted
  · obtain ⟨hflight, hqueue, hne⟩ := Line.restartWait_wait (hw.trans hi)
    rw [hend]
    subst hl
    exact ⟨fun hn => absurd hi hn, fun e he _ hf => hqueue e hf he, fun f hf _ => hflight f hf, hne⟩
  · have hself : (endFrame s).line.wait = s.line.wait := by
      rw [hend, Line.restartWait_eq_self fun e => hi (hw.symm.trans e), hw]
    exact ⟨fun _ => hself, fun e _ h => absurd h hi, fun f _ h => absurd h hi, fun e => hi (hself.symm.trans e)⟩

/-- The bulletin in flight is that of `u`, no wait stands interrupted, and one with a bulletin in flight is that of `u`. -/
def WaitHolds (u t : State) : Prop :=
  t.line.inFlight = u.line.inFlight ∧ t.line.wait ≠ some .interrupted
    ∧ (u.line.inFlight ≠ none → t.line.wait = u.line.wait)

/-- R69: following the queue never interrupts a wait. -/
theorem Line.followHead_wait {l : Line} (h : l.wait ≠ some .interrupted) : l.followHead.wait ≠ some .interrupted := by
  unfold Line.followHead
  split
  · exact nofun
  · split
    · exact nofun
    · split
      · exact h
      · exact nofun
    · next hi => exact absurd hi h

theorem waitHolds_followQueue {u : State} (h : WaitHolds u t) : WaitHolds u (followQueue t) := by
  obtain ⟨hflight, hwait, hsame⟩ := h
  by_cases hf : t.line.inFlight = none
  · have hu : u.line.inFlight = none := hflight.symm.trans hf
    refine ⟨((frame_followQueue t) .flight (by decide)).1.symm.trans hflight, ?_, fun hn => absurd hu hn⟩
    unfold followQueue
    split
    · exact Line.followHead_wait hwait
    · exact hwait
  · rw [followQueue_wait hf]
    exact ⟨hflight, hwait, hsame⟩

theorem waitHolds_present {u : State} (e : Bulletin) (h : WaitHolds u t) : WaitHolds u (present e t) := by
  unfold present
  split
  · exact h
  · split
    · exact h
    · exact waitHolds_followQueue h

theorem supports_waitHolds (u : State) : Supports [.wait, .flight] (WaitHolds u) := fun s t h hs => by
  obtain ⟨hw, -⟩ := h .wait (by simp)
  obtain ⟨hf, -⟩ := h .flight (by simp)
  obtain ⟨hflight, hwait, hsame⟩ := hs
  exact ⟨hf.symm.trans hflight, fun e => hwait (hw.trans e), fun hn => hw.symm.trans (hsame hn)⟩

theorem waitHolds_of_turn {u : State} (s t : State) (h : Turn [] s t) (hs : WaitHolds u s) : WaitHolds u t := by
  cases h with
  | aside h => exact (supports_waitHolds u).keep h rfl hs
  | @present e => exact waitHolds_present e hs
  | follow => exact waitHolds_followQueue hs
  | endFrame =>
    by_cases ha : s.line.receiver = .inactive
    · rw [endFrame, if_pos ha]
      exact hs
    · obtain ⟨hflight, hwait, hsame⟩ := hs
      obtain ⟨hkeep, -⟩ := endFrame_wait ha
      have hw := hkeep hwait
      exact ⟨((frame_endFrame s) .flight (by decide)).1.symm.trans hflight, fun e => hwait (hw.symm.trans e),
        fun hn => hw.trans (hsame hn)⟩
  | conflict => exact hs
  | @remove i r =>
    exact (supports_waitHolds u).keep (frame_dropDisplayed r.id _) rfl
      (waitHolds_followQueue (t := (s.setSlot i none).withLine { s.line with
        queue := s.line.queue.filter (fun e => decide (e ≠ .closure r.id ∧ e ≠ .alert r.id)) }) hs)
  | _ => exact hs

/-- What a received frame does, after its end, in turns. -/
theorem turns_received {h : FrameHeader} {take : Peer → Peer} {serve : State → State}
    (hserve : ∀ t, Turns [] t (serve t)) (hactive : s.line.receiver ≠ .inactive) :
    Turns [] (endFrame s) (receiveFrame h take serve s) := by
  have hpeer := turns_servePeer (ps := []) h take (endFrame s)
  unfold receiveFrame
  rw [if_neg hactive]
  refine Turns.ite (.refl _) (Turns.ite (turns_addressConflict _) ?_)
  split
  · next t e =>
    rw [e] at hpeer
    exact hpeer.trans (hserve t)
  · next t e =>
    rw [e] at hpeer
    exact hpeer

theorem turns_serve {c : Instr} {h : FrameHeader} {take : Peer → Peer} {serve : State → State}
    (hc : reception c = some (h, take, serve)) (t : State) : Turns [] t (serve t) := by
  cases c <;> cases hc
  case announceReceived => exact .refl t
  case statusReceived => exact .refl t
  case closureReceived => exact turns_serveClosure _ _ _ t
  case alertReceived => exact turns_serveClosure _ _ _ t
  case floorReceived => exact turns_serveFloor _ _ t
  case queryReceived => exact turns_serveQuery _ _ t
  case recapReceived => exact turns_serveRecap _ _ t

/-- The receiver's part after a frame has ended. -/
theorem receiver_endFrame (h : s.line.receiver ≠ .inactive) : (endFrame s).line.receiver = .hunting
    ∧ (endFrame s).line.echo = false ∧ (endFrame s).line.idle = s.line.idle
    ∧ (endFrame s).line.inFlight = s.line.inFlight := by
  obtain ⟨w, d, he, -⟩ := endFrame_eq h
  rw [he]
  exact ⟨rfl, rfl, rfl, rfl⟩

/-- Settles O35: every frame's end is `endFrame`; what follows it neither moves the receiver nor interrupts a wait. -/
theorem framesEndInHunting : Obligations.FramesEndInHunting := by
  intro s
  refine ⟨fun hh hidle => ?_, fun hactive hown => completes_iff.mpr ?_, fun hactive hown hclear => completes_iff.mpr ?_,
    fun c h hc hactive => completes_iff.mpr ?_⟩
  · rw [exec_eq_next]
    exact congrArg _ (if_pos ⟨hh, hidle⟩)
  · have hout : outcome .frameDiscarded s = endFrame s :=
      (if_neg hactive).trans (if_neg (by rw [hown]; exact nofun))
    rw [hout]
    obtain ⟨hreceiver, hecho, -, -⟩ := receiver_endFrame hactive
    obtain ⟨hkeep, hhead, hflight, -⟩ := endFrame_wait hactive
    exact ⟨hreceiver, hecho, queue_endFrame s, ((frame_endFrame s) .lineFlags (by decide)).2.2.symm, hkeep, hhead, hflight⟩
  · have hout : outcome .frameDiscarded s = addressConflict (endFrame s) := (if_neg hactive).trans (if_pos hown)
    rw [hout]
    obtain ⟨⟨q, w, d, he⟩, -⟩ := addressConflict_spec (s := endFrame s)
      (((frame_endFrame s) .lineFlags (by decide)).2.2.symm.trans hclear)
    obtain ⟨hreceiver, -⟩ := receiver_endFrame hactive
    rw [he]
    exact ⟨rfl, hreceiver⟩
  · obtain ⟨take, serve, hreception⟩ := frameHeader_reception hc
    rw [outcome_reception hreception]
    obtain ⟨hreceiver, hecho, hidle, hflight⟩ := receiver_endFrame hactive
    obtain ⟨hkeep, -, hagain, hne⟩ := endFrame_wait hactive
    obtain ⟨hr, -, he, hi⟩ := frame_received_of_active (h := h) (take := take) (frame_serve hreception) rfl hactive .receiver
      (by decide)
    obtain ⟨-, hnot, hsame⟩ : WaitHolds (endFrame s) (receiveFrame h take serve s) :=
      Turns.keep waitHolds_of_turn (turns_received (turns_serve hreception) hactive) ⟨rfl, hne, fun _ => rfl⟩
    rw [hflight] at hsame
    refine ⟨hr.symm.trans hreceiver, he.symm.trans hecho, hi.symm.trans hidle, hnot, fun f hf hw => ?_, fun hf hw => ?_⟩
    · exact (hsame (by rw [hf]; exact nofun)).trans (hagain f hf hw)
    · exact (hsame hf).trans (hkeep hw)

/-! ## Attempts that end -/

theorem outcome_attemptSuccess (h : s.line.sentWhole = true) :
    outcome .attemptSuccess s = followQueue (countSuccess (s.withLine s.line.land)) := if_pos h

/-- R74: what a success makes of LINE-TROUBLE. -/
theorem countSuccess_cases (s : State) :
    (s.line.lineTrouble = false → countSuccess s = s)
      ∧ (s.line.lineTrouble = true → s.line.successRun < 3 →
        countSuccess s = s.withLine { s.line with successRun := s.line.successRun + 1 })
      ∧ (s.line.lineTrouble = true → s.line.successRun = 3 →
        countSuccess s = present .status (s.withLine { s.line with lineTrouble := false, successRun := 0 })) := by
  unfold countSuccess
  refine ⟨fun h => ?_, fun h hrun => ?_, fun h hrun => ?_⟩
  · rw [h]
    rfl
  · rw [if_pos h, if_neg (by omega)]
  · rw [if_pos h, if_pos (by omega)]

/-- What an attempt that ends without a bulletin in flight leaves on the line. -/
structure Landed (s t : State) : Prop where
  flight : t.line.inFlight = none
  attempts : t.line.attempts = 0
  sending : t.line.sending = none
  sequence : t.line.ownSequence = s.line.ownSequence

theorem Landed.of_frame {ps : List Part} {u : State} (h : Landed s t) (hf : Frame ps t u) (hd : Part.flight ∉ ps) :
    Landed s u := by
  obtain ⟨hflight, hattempts, hsending, hseq⟩ := hf .flight hd
  exact ⟨hflight.symm.trans h.flight, hattempts.symm.trans h.attempts, hsending.symm.trans h.sending,
    hseq.symm.trans h.sequence⟩

theorem landed_land (s : State) : Landed s (s.withLine s.line.land) := ⟨rfl, rfl, rfl, rfl⟩

theorem lineFlags_followQueue (s : State) : (followQueue s).line.lineTrouble = s.line.lineTrouble
    ∧ (followQueue s).line.successRun = s.line.successRun ∧ (followQueue s).line.queue = s.line.queue :=
  ⟨((frame_followQueue s) .lineFlags (by decide)).1.symm, ((frame_followQueue s) .lineFlags (by decide)).2.1.symm,
    ((frame_followQueue s) .queue (by decide)).symm⟩

theorem lineFlags_present (e : Bulletin) (s : State) : (present e s).line.lineTrouble = s.line.lineTrouble
    ∧ (present e s).line.successRun = s.line.successRun :=
  ⟨((frame_present e s) .lineFlags (by decide)).1.symm, ((frame_present e s) .lineFlags (by decide)).2.1.symm⟩

theorem attemptSuccess_spec (h : s.line.sentWhole = true) :
    Landed s (outcome .attemptSuccess s)
      ∧ (s.line.lineTrouble = false → (outcome .attemptSuccess s).line.lineTrouble = false
        ∧ (outcome .attemptSuccess s).line.queue = s.line.queue)
      ∧ (s.line.lineTrouble = true → s.line.successRun < 3 → (outcome .attemptSuccess s).line.lineTrouble = true
        ∧ (outcome .attemptSuccess s).line.successRun = s.line.successRun + 1
        ∧ (outcome .attemptSuccess s).line.queue = s.line.queue)
      ∧ (s.line.lineTrouble = true → s.line.successRun = 3 → s.phase.serving = true →
        (outcome .attemptSuccess s).line.lineTrouble = false ∧ (outcome .attemptSuccess s).line.successRun = 0
        ∧ (outcome .attemptSuccess s).line.queue = enqueue .status s.line.queue) := by
  rw [outcome_attemptSuccess h]
  obtain ⟨hclear, hcount, hfourth⟩ := countSuccess_cases (s.withLine s.line.land)
  obtain ⟨htrouble, hrun, hqueue⟩ := lineFlags_followQueue (countSuccess (s.withLine s.line.land))
  rw [htrouble, hrun, hqueue]
  refine ⟨?_, fun hno => ?_, fun hyes hr => ?_, fun hyes hr hserving => ?_⟩
  · exact (landed_land s).of_frame (((frame_countSuccess _).widen (qs := .lineFlags :: Part.ofPresent) rfl).trans
      ((frame_followQueue _).widen rfl)) (by decide)
  · rw [hclear hno]
    exact ⟨hno, rfl⟩
  · rw [hcount hyes hr]
    exact ⟨hyes, rfl, rfl⟩
  · rw [hfourth hyes hr]
    obtain ⟨ht, hr⟩ := lineFlags_present .status ((s.withLine s.line.land).withLine
      { s.line.land with lineTrouble := false, successRun := 0 })
    exact ⟨ht, hr, queue_present_operating .status (operating_of_serving hserving)⟩

theorem outcome_attemptFailed (h : s.line.sendFailed = true) {f : Flight} (hf : s.line.inFlight = some f) :
    outcome .attemptFailed s = if s.line.attempts < 16
      then (s.withLine s.line.stopSending).withLine (s.line.stopSending.beginWait f.bulletin.cls (8 * s.line.attempts) 0)
      else abandon (s.withLine s.line.stopSending) := by
  show (if s.line.sendFailed then _ else s) = _
  rw [if_pos h, hf]
  rfl

/-- R75: what the sixteenth failure leaves. -/
theorem abandon_spec (hserving : s.phase.serving = true) :
    Landed s (abandon s) ∧ (abandon s).line.lineTrouble = true ∧ (abandon s).line.successRun = 0
      ∧ (abandon s).line.queue = (if s.line.lineTrouble then s.line.queue else enqueue .status s.line.queue) := by
  obtain ⟨u, hu⟩ : ∃ u : State, u = s.withLine { s.line.land with lineTrouble := true, successRun := 0 } := ⟨_, rfl⟩
  have hflags : Landed s u ∧ u.line.lineTrouble = true ∧ u.line.successRun = 0 ∧ u.line.queue = s.line.queue
      ∧ u.phase = s.phase := by
    rw [hu]
    exact ⟨⟨rfl, rfl, rfl, rfl⟩, rfl, rfl, rfl, rfl⟩
  obtain ⟨hlanded, htrouble, hrun, hqueue, hphase⟩ := hflags
  have heq : abandon s = followQueue (if s.line.lineTrouble = true then u else present .status u) := by
    rw [hu]
    rfl
  obtain ⟨ht, hr, hq⟩ := lineFlags_followQueue (if s.line.lineTrouble = true then u else present .status u)
  rw [heq, ht, hr, hq]
  refine ⟨?_, ?_⟩
  · exact hlanded.of_frame ((Frame.ite (ps := Part.ofPresent) (Frame.refl _ u) (frame_present .status u)).trans
      ((frame_followQueue _).widen rfl)) (by decide)
  · split
    · exact ⟨htrouble, hrun, hqueue⟩
    · obtain ⟨ht, hr⟩ := lineFlags_present .status u
      refine ⟨ht.trans htrouble, hr.trans hrun, ?_⟩
      rw [queue_present_operating .status (by rw [hphase]; exact operating_of_serving hserving), hqueue]

/-- R69: the range of the draw of a class. -/
theorem drawFor_le (cls k : Nat) : drawFor cls k ≤ if cls = 0 then 3 else 7 := by
  unfold drawFor
  split
  · omega
  · exact Nat.le_of_lt_succ (Config.lineDraw k).isLt

/-- Settles O37. -/
theorem attemptsSucceedOrRetry : Obligations.AttemptsSucceedOrRetry := by
  refine ⟨fun s h => completes_iff.mpr ?_, fun s f h hf => ⟨fun hlt => completes_iff.mpr ?_,
    fun hge hserving => completes_iff.mpr ?_⟩, fun cls extension k => ?_⟩
  · obtain ⟨⟨hflight, hattempts, hsending, hseq⟩, hrest⟩ := attemptSuccess_spec h
    exact ⟨hflight, hattempts, hsending, hseq, hrest⟩
  · rw [outcome_attemptFailed h hf, if_pos hlt]
    exact ⟨hf, rfl, rfl, rfl, rfl, rfl⟩
  · rw [outcome_attemptFailed h hf, if_neg (by omega)]
    obtain ⟨⟨hflight, hattempts, hsending, hseq⟩, htrouble, hrun, hqueue⟩ :=
      abandon_spec (s := s.withLine s.line.stopSending) hserving
    exact ⟨hflight, hattempts, hsending, htrouble, hrun, hseq, hqueue⟩
  · have hdraw := drawFor_le cls k
    unfold requiredIdle classWait
    omega

end Sys2Proof.Machine
end

section
/-! PROOF. The start of an attempt, and what the bodies of bulletins hold (O36). -/

namespace Sys2Proof.Machine

open Sys2Proof

variable {s t : State}

/-! ## The start of an attempt -/

/-- R71: what enters flight is told to the peer table alone. -/
theorem enterFlight_line (e : Bulletin) (s : State) : (enterFlight e s).line = s.line := by
  cases e with
  | recap a =>
    unfold enterFlight
    dsimp only
    split <;> rfl
  | _ => rfl

/-- R84: a RECAP entering flight starts the recap timer of its target. -/
theorem findPeer_enterFlight {a : Byte} {p : Peer} (h : s.findPeer a = some p) :
    (enterFlight (.recap a) s).findPeer a = some { p with recapTimer := some 0 } := by
  unfold enterFlight
  dsimp only
  rw [h]
  have haddress : p.address = a := findPeer_address h
  exact findPeer_storePeer_self (p := { p with recapTimer := some 0 }) haddress s

/-- The flight that the head entry becomes. -/
def State.flightOf (s : State) (e : Bulletin) (body : List Byte) : Flight :=
  ⟨e, s.line.ownSequence, encodeFrame (kindCode e) s.startup.address s.line.ownSequence body⟩

theorem outcome_attemptStart_first {e : Bulletin} {rest : List Bulletin} {body : List Byte} (hmay : s.mayTransmit = true)
    (hdone : s.line.waitDone = true) (hf : s.line.inFlight = none) (hq : s.line.queue = e :: rest)
    (hb : s.bulletinBody e = some body) :
    outcome .attemptStart s = enterFlight e (s.withLine
      ({ s.line with queue := rest, ownSequence := s.line.ownSequence + 1 }.sendFrame (s.flightOf e body) 1)) := by
  show (if (s.mayTransmit && s.line.waitDone) = true then _ else s) = _
  rw [if_pos (Bool.and_eq_true_iff.mpr ⟨hmay, hdone⟩), hf, hq]
  show firstAttempt e rest s = _
  unfold firstAttempt
  rw [hb]
  rfl

theorem outcome_attemptStart_retry {f : Flight} (hmay : s.mayTransmit = true) (hdone : s.line.waitDone = true)
    (hf : s.line.inFlight = some f) :
    outcome .attemptStart s = s.withLine (s.line.sendFrame f (s.line.attempts + 1)) := by
  show (if (s.mayTransmit && s.line.waitDone) = true then _ else s) = _
  rw [if_pos (Bool.and_eq_true_iff.mpr ⟨hmay, hdone⟩), hf]

/-! ## The flags and codes of a body -/

theorem getElem_flagBit (b : Bool) (i j : Nat) (hj : j < 8) : (flagBit b i)[j] = (b && decide (i = j)) := by
  rw [← BitVec.getLsbD_eq_getElem]
  unfold flagBit
  cases b with
  | false => simp
  | true =>
    have hone : (1#8).getLsbD (j - i) = decide (j - i = 0) := by simp [BitVec.getLsbD_one]
    simp only [if_true, BitVec.getLsbD_shiftLeft, hone, hj, decide_true, Bool.true_and]
    rcases Nat.lt_trichotomy i j with h | h | h
    · simp [h.ne, Nat.sub_ne_zero_of_lt h]
    · simp [h]
    · simp [h, h.ne']

theorem statusFlags_bits (s : State) : s.statusFlags.getLsbD 0 = s.hazard.degraded
    ∧ s.statusFlags.getLsbD 1 = s.register.full ∧ s.statusFlags.getLsbD 2 = s.line.lineTrouble
    ∧ s.statusFlags.getLsbD 3 = s.hazard.neighbourSilent ∧ s.statusFlags.getLsbD 4 = s.startup.quiet
    ∧ s.statusFlags.getLsbD 5 = s.line.addressConflict
    ∧ s.statusFlags.getLsbD 6 = readPartial (s.retained.read 1) := by
  simp [State.statusFlags, getElem_flagBit]

theorem statusAlerts_bits (s : State) : s.statusAlerts.getLsbD 0 = s.alertOf .wind
    ∧ s.statusAlerts.getLsbD 1 = s.alertOf .temp ∧ s.statusAlerts.getLsbD 2 = s.alertOf .depth
    ∧ s.statusAlerts.getLsbD 3 = s.alertOf .precip ∧ s.statusAlerts.getLsbD 4 = s.channels.one.clamped
    ∧ s.statusAlerts.getLsbD 5 = s.channels.two.clamped ∧ s.statusAlerts.getLsbD 6 = s.channels.three.clamped
    ∧ s.statusAlerts.getLsbD 7 = s.channels.four.clamped := by
  simp [State.statusAlerts, getElem_flagBit]

theorem slowTravel_bits (a b : Bool) : (flagBit a 0 ||| flagBit b 1).getLsbD 0 = a
    ∧ (flagBit a 0 ||| flagBit b 1).getLsbD 1 = b := by
  simp [getElem_flagBit]

theorem announceFlags_bits (a b c : Bool) : (flagBit a 0 ||| flagBit b 1 ||| flagBit c 2).getLsbD 0 = a
    ∧ (flagBit a 0 ||| flagBit b 1 ||| flagBit c 2).getLsbD 1 = b
    ∧ (flagBit a 0 ||| flagBit b 1 ||| flagBit c 2).getLsbD 2 = c := by
  simp [getElem_flagBit]

theorem gatesFitted_bits (x : Byte) : (x &&& 0x03#8).getLsbD 0 = x.getLsbD 0 ∧ (x &&& 0x03#8).getLsbD 1 = x.getLsbD 1 := by
  simp

/-! ## The values of a role's channel -/

/-- The channel that holds a role. -/
def State.holderOf (s : State) (r : Role) : Option Channel := (s.channelOf r).map s.channels.get

theorem alertOf_eq (s : State) (r : Role) : s.alertOf r = ((s.holderOf r).map Channel.alert).getD false := by
  unfold State.alertOf State.holderOf
  cases s.channelOf r <;> rfl

theorem latestOf_eq (s : State) (r : Role) : s.latestOf r = (s.holderOf r).bind Channel.latest := by
  unfold State.latestOf State.holderOf
  cases s.channelOf r <;> rfl

theorem peakOf_eq (s : State) (r : Role) : s.peakOf r = (s.holderOf r).bind Channel.hourPeak := by
  unfold State.peakOf State.holderOf
  cases s.channelOf r <;> rfl

/-- A value as its word: ABSENT is 8000h. -/
def numberOf : Value → Word16
  | some x => BitVec.ofInt 16 x
  | none => 0x8000#16

theorem encodeValue_eq (v : Value) : encodeValue v = numberOf v := by
  cases v <;> rfl

theorem byte_gateCode (fitted : Bool) (g : GateState) : byte (gateCode fitted g) = if fitted = false then 0#8 else
      match g with
        | .opened => 1#8
        | .closePending => 2#8
        | .closing => 3#8
        | .closed => 4#8
        | .opening => 5#8
        | .reversing => 6#8
        | .stalled => 7#8
        | .lockedOut => 8#8
        | .unpositioned => 9#8 := by
  cases fitted with
  | false => rfl
  | true => cases g <;> rfl

theorem byte_healthCode (h : Health) : byte (healthCode h) = (match h with
      | .notFitted => 0#8
      | .untried => 1#8
      | .ok => 2#8
      | .fault => 3#8) := by
  cases h <;> rfl

theorem byte_closureKindCode (k : ClosureKind) : byte (closureKindCode k) = (match k with
      | .slide => 1#8
      | .avalanche => 2#8
      | .operator => 3#8
      | .season => 4#8) := by
  cases k <;> rfl

theorem byte_closureStateCode (k : ClosureState) : byte (closureStateCode k) = (match k with
      | .announced => 1#8
      | .inForce => 2#8
      | .lifted => 3#8) := by
  cases k <;> rfl

theorem word_announcedInterval (s : State) : word s.announcedInterval = if s.startup.quiet then 600#16 else 60#16 := by
  unfold State.announcedInterval
  split <;> rfl

/-- The two characters of a value in a body are its word. -/
theorem joined_value (v : Value) : joinBytes (hiByte (encodeValue v)) (loByte (encodeValue v)) = numberOf v :=
  (joinBytes_hiByte_loByte _).trans (encodeValue_eq v)

theorem joined_latest (s : State) (r : Role) : joinBytes (hiByte (encodeValue (s.latestOf r)))
    (loByte (encodeValue (s.latestOf r))) = numberOf ((s.holderOf r).bind Channel.latest) :=
  (joined_value _).trans (congrArg numberOf (latestOf_eq s r))

theorem joined_peak (s : State) (r : Role) : joinBytes (hiByte (encodeValue (s.peakOf r)))
    (loByte (encodeValue (s.peakOf r))) = numberOf ((s.holderOf r).bind Channel.hourPeak) :=
  (joined_value _).trans (congrArg numberOf (peakOf_eq s r))

/-- Settles O36: the head entry enters flight with a body formed then; each body is read off its encoding. -/
theorem attemptSendsTheHeadEntry : Obligations.AttemptSendsTheHeadEntry := by
  refine ⟨fun s hmay hdone => ⟨fun e rest body hf hq hb => completes_iff.mpr ?_, fun f hf => completes_iff.mpr ?_⟩, ?_, ?_,
    fun s target => rfl, ?_⟩
  · rw [outcome_attemptStart_first hmay hdone hf hq hb, enterFlight_line]
    refine ⟨rfl, rfl, rfl, rfl, rfl, rfl, ?_, ?_, ?_⟩
    · rintro rfl
      exact ⟨rfl, rfl⟩
    · rintro rfl
      rfl
    · rintro a p rfl hp
      exact findPeer_enterFlight (s := s.withLine _) hp
  · rw [outcome_attemptStart_retry hmay hdone hf]
    exact ⟨rfl, rfl, rfl, rfl, rfl, rfl⟩
  · intro s
    obtain ⟨f0, f1, f2, f3, f4, f5, f6⟩ := statusFlags_bits s
    obtain ⟨a0, a1, a2, a3, a4, a5, a6, a7⟩ := statusAlerts_bits s
    obtain ⟨w0, w1⟩ := slowTravel_bits s.gates.units.east.slow s.gates.units.west.slow
    refine ⟨_, rfl, rfl, joinBytes_hiByte_loByte _, (joinBytes_hiByte_loByte _).trans (word_announcedInterval s), rfl, rfl, rfl,
      rfl, f0, f1, f2, f3, f4, f5, f6, a0.trans (alertOf_eq s _), a1.trans (alertOf_eq s _), a2.trans (alertOf_eq s _),
      a3.trans (alertOf_eq s _), a4, a5, a6, a7, joined_latest s .wind, joined_peak s .wind, joined_latest s .temp,
      joined_latest s .depth, joined_value _, byte_gateCode _ _, byte_gateCode _ _, w0, w1, byte_healthCode _,
      byte_healthCode _, byte_healthCode _⟩
  · intro s
    obtain ⟨g0, g1⟩ := gatesFitted_bits (imageByte (s.startup.image.getD []) 0x4D)
    obtain ⟨a0, a1, a2⟩ := announceFlags_bits (decide (s.phase = .configFault)) s.startup.substituted s.line.addressConflict
    refine ⟨_, rfl, rfl, joinBytes_hiByte_loByte _, g0, g1, rfl, rfl, rfl, a0, a1, a2, fun hnone => ?_⟩
    have hbody : s.announceBody.chainage = 0#16 ∧ s.announceBody.gatesFitted = 0#8 ∧ s.announceBody.role1 = 0#8
        ∧ s.announceBody.role2 = 0#8 ∧ s.announceBody.role3 = 0#8 := by
      unfold State.announceBody
      rw [hnone]
      exact ⟨rfl, rfl, rfl, rfl, rfl⟩
    obtain ⟨hchainage, hgates, hrole1, hrole2, hrole3⟩ := hbody
    exact ⟨congrArg hiByte hchainage, congrArg loByte hchainage, hgates, hrole1, hrole2, hrole3⟩
  · intro s id i r hfound e he
    have hid : r.id = id := by
      simpa using List.find?_some (p := fun p : Nat × ClosureRecord => decide (p.2.id = id)) hfound
    have hbody : s.bulletinBody e = some (encodeClosure (closureBody r)) := by
      rcases List.mem_pair.mp he with rfl | rfl <;> exact congrArg (Option.map _) hfound
    refine ⟨_, hbody, rfl, congrArg RecId.origin hid, congrArg RecId.serial hid, rfl, byte_closureKindCode _,
      joinBytes_hiByte_loByte _, joinBytes_hiByte_loByte _, byte_closureStateCode _, joinBytes_hiByte_loByte _,
      joinBytes_hiByte_loByte _, rfl⟩

end Sys2Proof.Machine
end

section
/-! PROOF. A closure bulletin whose id is not held: its checks and the record it creates (O42). -/

namespace Sys2Proof.Machine

open Sys2Proof

variable {s t u : State}

/-! ## The checks -/

theorem closureKindOf_eq_some_iff {b : Byte} {k : ClosureKind} : closureKindOf b = some k ↔
    (b = 1#8 ∧ k = .slide) ∨ (b = 2#8 ∧ k = .avalanche) ∨ (b = 3#8 ∧ k = .operator) ∨ (b = 4#8 ∧ k = .season) := by
  unfold closureKindOf
  split_ifs with h1 h2 h3 h4
  all_goals simp_all [eq_comm]

theorem closureStateOf_eq_some_iff {b : Byte} {x : ClosureState} : closureStateOf b = some x ↔
    (b = 1#8 ∧ x = .announced) ∨ (b = 2#8 ∧ x = .inForce) ∨ (b = 3#8 ∧ x = .lifted) := by
  unfold closureStateOf
  split_ifs with h1 h2 h3
  all_goals simp_all [eq_comm]

theorem goodSource_iff (a : Byte) : goodSource a = true ↔ 1 ≤ a.toNat ∧ a.toNat ≤ 31 := decide_eq_true_iff

/-- R98, R89: a bulletin passes the form check with a content exactly where its codes are known, its ends ordered and its
origin good, and an ALERT only with kind SLIDE; the content is its fields. -/
theorem closureContent_eq_some_iff (isAlert : Bool) (b : ClosureBody) (c : ClosureContent) :
    closureContent isAlert b = some c ↔
      closureKindOf b.kind = some c.kind ∧ closureStateOf b.state = some c.state
        ∧ (1 ≤ b.origin.toNat ∧ b.origin.toNat ≤ 31) ∧ b.scopeLo.toNat ≤ b.scopeHi.toNat
        ∧ (isAlert = true → c.kind = .slide)
        ∧ c.id = ⟨b.origin, b.serial⟩ ∧ c.revision = b.revision ∧ c.scopeLo = b.scopeLo.toNat
        ∧ c.scopeHi = b.scopeHi.toNat ∧ c.lead = b.lead.toNat
        ∧ c.duration = (if b.minutes = 0#16 then none else some (b.minutes.toNat * 60)) ∧ c.template = b.template := by
  have hpasses (kind : ClosureKind) : (goodSource b.origin && decide (b.scopeLo.toNat ≤ b.scopeHi.toNat)
      && !(isAlert && decide (kind ≠ .slide))) = true
      ↔ ((1 ≤ b.origin.toNat ∧ b.origin.toNat ≤ 31) ∧ b.scopeLo.toNat ≤ b.scopeHi.toNat)
        ∧ (isAlert = true → kind = .slide) := by
    rw [Bool.and_eq_true_iff, Bool.and_eq_true_iff, goodSource_iff, decide_eq_true_iff]
    cases isAlert <;> simp
  obtain ⟨id, rev, kind, lo, hi, state, lead, dur, template⟩ := c
  unfold closureContent
  cases hk : closureKindOf b.kind with
  | none => simp
  | some k =>
    cases hs : closureStateOf b.state with
    | none => simp
    | some x =>
      dsimp only
      by_cases hp : (goodSource b.origin && decide (b.scopeLo.toNat ≤ b.scopeHi.toNat)
          && !(isAlert && decide (k ≠ .slide))) = true
      · obtain ⟨⟨horigin, hscope⟩, halert⟩ := (hpasses k).mp hp
        rw [if_pos hp]
        constructor
        · intro h
          cases h
          exact ⟨rfl, rfl, horigin, hscope, halert, rfl, rfl, rfl, rfl, rfl, rfl, rfl⟩
        · rintro ⟨hkind, hstate, -, -, -, rfl, rfl, rfl, rfl, rfl, rfl, rfl⟩
          cases hkind
          cases hstate
          rfl
      · rw [if_neg hp]
        refine ⟨nofun, fun h => ?_⟩
        obtain ⟨hkind, -, horigin, hscope, halert, -⟩ := h
        cases hkind
        exact absurd ((hpasses kind).mpr ⟨⟨horigin, hscope⟩, halert⟩) hp

theorem isControl_iff (h : s.phase.operating = true) (a : Byte) :
    s.isControl a = true ↔ s.config.controlFirst ≤ a.toNat ∧ a.toNat ≤ s.config.controlLast := by
  have hf : s.phase ≠ .configFault := fun e => by rw [e] at h; cases h
  unfold State.isControl
  rw [if_neg hf]
  exact decide_eq_true_iff

theorem authorised_iff (s : State) (a origin : Byte) : s.authorised a origin = true ↔ a = origin ∨ s.isControl a = true
    ∨ ((s.phase = .joining ∨ s.phase = .settling) ∧ origin = s.startup.address) := by
  simp [State.authorised, State.adopting, or_assoc]

theorem kindAllowed_iff (s : State) (origin : Byte) (kind : ClosureKind) :
    s.kindAllowed origin kind = true ↔ kind = .slide ∨ kind = .avalanche ∨ s.isControl origin = true := by
  unfold State.kindAllowed
  cases kind <;> simp

/-! ## The record created -/

theorem takeClosure_of_malformed {isAlert : Bool} {b : ClosureBody} (h : closureContent isAlert b = none) (sender : Byte)
    (s : State) : takeClosure isAlert sender b s = s := by
  unfold takeClosure
  rw [h]

theorem takeClosure_of_refused {isAlert : Bool} {sender : Byte} {b : ClosureBody} {c : ClosureContent}
    (hc : closureContent isAlert b = some c)
    (h : (s.authorised sender c.id.origin && s.kindAllowed c.id.origin c.kind) = false) :
    takeClosure isAlert sender b s = s := by
  unfold takeClosure
  rw [hc]
  dsimp only
  rw [h]
  rfl

theorem takeClosure_of_unheld {isAlert : Bool} {sender : Byte} {b : ClosureBody} {c : ClosureContent}
    (hc : closureContent isAlert b = some c) (hf : s.findRecord c.id = none)
    (h : (s.authorised sender c.id.origin && s.kindAllowed c.id.origin c.kind) = true) :
    takeClosure isAlert sender b s = createRecord c s := by
  unfold takeClosure
  rw [hc]
  dsimp only
  rw [h, hf]
  rfl

/-- R98: a heard closure bulletin goes to the register, in the state the end of its frame and the peer table leave. -/
theorem outcome_closure (isAlert : Bool) {h : FrameHeader} (b : ClosureBody) (hphase : s.phase.operating = true)
    (hheard : Heard h s) : ∃ u, Frame Part.ofFrame s u
      ∧ outcome (if isAlert then .alertReceived h b else .closureReceived h b) s = takeClosure isAlert h.source b u := by
  obtain ⟨u, hu, hserved⟩ := receiveFrame_of_heard hheard (fun p => p) (serveClosure isAlert h.source b)
  refine ⟨u, hu, ?_⟩
  calc outcome (if isAlert then .alertReceived h b else .closureReceived h b) s
      = receiveFrame h (fun p => p) (serveClosure isAlert h.source b) s := by cases isAlert <;> rfl
    _ = takeClosure isAlert h.source b u := by rw [hserved, serveClosure, hu.phase_eq rfl, if_pos hphase]

theorem createRecord_of_ignored {c : ClosureContent} (hlifted : c.state = .lifted)
    (h : ¬ (c.id.origin = s.startup.address ∧ (s.phase = .joining ∨ s.phase = .settling))) : createRecord c s = s := by
  refine if_pos ⟨hlifted, fun hadopt => h ?_⟩
  obtain ⟨hown, hphase⟩ := hadopt
  exact ⟨of_decide_eq_true hown, of_decide_eq_true hphase⟩

/-- R101, R121: a bulletin of an id that is not held, where it is not ignored. -/
theorem createRecord_of_taken {c : ClosureContent}
    (h : c.state ≠ .lifted ∨ (c.id.origin = s.startup.address ∧ (s.phase = .joining ∨ s.phase = .settling))) :
    createRecord c s = if (admitRecord (s.newRecord c) s).2 = true ∧ (s.newRecord c).settled.state ≠ (s.newRecord c).state
      then queueOwn (s.newRecord c) (admitRecord (s.newRecord c) s).1 else (admitRecord (s.newRecord c) s).1 := by
  have hgo : ¬ (c.state = .lifted ∧ ¬ ((s.newRecord c).own = true ∧ s.adopting = true)) := by
    rintro ⟨hl, hno⟩
    rcases h with hl' | ⟨horigin, hp⟩
    · exact hl' hl
    · exact hno ⟨decide_eq_true horigin, decide_eq_true hp⟩
  unfold createRecord
  dsimp only
  rw [if_neg hgo]
  obtain ⟨v, placed⟩ := admitRecord (s.newRecord c) s
  cases placed
  · rfl
  · simp

theorem newRecord_congr (h : t.startup.address = s.startup.address) (c : ClosureContent) :
    t.newRecord c = s.newRecord c := by
  unfold State.newRecord
  rw [h]

/-- R95, R101, R105: with a free index the record stands there as the bulletin gives it, in force at once without a lead. -/
theorem recordAt_createRecord {c : ClosureContent} {i : Nat} (hfree : freeIndex 0 s.register.slots = some i)
    (h : c.state ≠ .lifted ∨ (c.id.origin = s.startup.address ∧ (s.phase = .joining ∨ s.phase = .settling))) :
    (createRecord c s).recordAt i = some (s.newRecord c).settled := by
  have hstored := recordAt_storeRecord_of_lt (lt_length_of_freeIndex hfree) (s.newRecord c).settled
  rw [createRecord_of_taken h, admitRecord_of_free hfree]
  split
  · exact (recordAt_queueOwn _ _ i).trans hstored
  · exact hstored

theorem settled_newRecord (s : State) (c : ClosureContent) : (s.newRecord c).settled =
    { id := c.id, revision := c.revision, kind := c.kind, scopeLo := c.scopeLo, scopeHi := c.scopeHi,
      state := if c.state = .announced ∧ c.lead = 0 then .inForce else c.state,
      lead := if c.state = .announced then c.lead else 0, duration := c.duration, template := c.template, age := 0,
      stale := false, display := if c.state = .lifted then 600 else 0, own := decide (c.id.origin = s.startup.address) } := by
  rw [settled_eq]
  unfold State.newRecord
  cases c.state <;> simp

/-- Settles O42: the three checks, then the record at the lowest free index. -/
theorem closureBulletinCreatesARecord : Obligations.ClosureBulletinCreatesARecord := by
  refine ⟨fun s isAlert h b hphase hheard => ?_, fun isAlert b c => ?_, fun s a origin kind hphase =>
    ⟨isControl_iff hphase a, authorised_iff s a origin, kindAllowed_iff s origin kind⟩⟩
  · obtain ⟨u, hu, houtcome⟩ := outcome_closure isAlert b hphase hheard
    obtain ⟨hup, huc, hua⟩ := hu.settings_eq (by decide)
    have hregister : u.register = s.register := hu.register_eq rfl
    have hslots : u.register.slots = s.register.slots := congrArg Register.slots hregister
    have hchecks (c : ClosureContent) : (u.authorised h.source c.id.origin && u.kindAllowed c.id.origin c.kind)
        = (s.authorised h.source c.id.origin && s.kindAllowed c.id.origin c.kind) := by
      rw [authorised_congr hup huc hua, kindAllowed_congr hup huc]
    have hcreated {c : ClosureContent} {i : Nat} (hc : closureContent isAlert b = some c)
        (hfree : freeIndex 0 s.register.slots = some i) (ha : s.authorised h.source c.id.origin = true)
        (hk : s.kindAllowed c.id.origin c.kind = true) (hf : s.findRecord c.id = none)
        (htaken : c.state ≠ .lifted ∨ (c.id.origin = s.startup.address ∧ (s.phase = .joining ∨ s.phase = .settling))) :
        (outcome (if isAlert then .alertReceived h b else .closureReceived h b) s).recordAt i
          = some (s.newRecord c).settled := by
      rw [houtcome, takeClosure_of_unheld hc ((findRecord_congr hslots _).trans hf) ((hchecks c).trans (by rw [ha, hk]; rfl)),
        ← newRecord_congr hua]
      exact recordAt_createRecord (by rw [hslots]; exact hfree) (by rw [hua, hup]; exact htaken)
    refine ⟨fun hnone => completes_iff.mpr ?_, fun c hc => ⟨fun hrefused => completes_iff.mpr ?_,
      fun i hfree ha hk hf hstate => completes_iff.mpr ?_, fun hf hlifted hnot => completes_iff.mpr ?_,
      fun i hfree ha hk hf hlifted hown hadopt => completes_iff.mpr ?_⟩⟩
    · rw [houtcome, takeClosure_of_malformed hnone]
      exact hregister
    · rw [houtcome, takeClosure_of_refused hc ((hchecks c).trans hrefused)]
      exact hregister
    · rw [hcreated hc hfree ha hk hf (.inl hstate), settled_newRecord, if_neg hstate]
    · rw [houtcome]
      cases hpass : (u.authorised h.source c.id.origin && u.kindAllowed c.id.origin c.kind) with
      | false =>
        rw [takeClosure_of_refused hc hpass]
        exact hregister
      | true =>
        rw [takeClosure_of_unheld hc ((findRecord_congr hslots _).trans hf) hpass,
          createRecord_of_ignored hlifted (by rw [hua, hup]; exact hnot)]
        exact hregister
    · rw [hcreated hc hfree ha hk hf (.inr ⟨hown, hadopt⟩), settled_newRecord, hlifted, decide_eq_true hown]
      rfl
  · rw [closureContent_eq_some_iff, closureKindOf_eq_some_iff, closureStateOf_eq_some_iff]
    tauto

end Sys2Proof.Machine
end

section
/-! PROOF. Which record is evicted (R115), and what a closure bulletin does at a full register (O46). -/

namespace Sys2Proof.Machine

open Sys2Proof

variable {s t u : State}

/-! ## The choice among candidates -/

theorem leastBy_eq_none {key : ClosureRecord → Nat} {l : List (Nat × ClosureRecord)} (h : leastBy key l = none) : l = [] := by
  cases l with
  | nil => rfl
  | cons x rest =>
    unfold leastBy at h
    split at h
    · cases h
    · split at h <;> cases h

theorem greatestBy_eq_none {key : ClosureRecord → Nat} {l : List (Nat × ClosureRecord)} (h : greatestBy key l = none) :
    l = [] := by
  cases l with
  | nil => rfl
  | cons x rest =>
    unfold greatestBy at h
    split at h
    · cases h
    · split at h <;> cases h

/-- The first of the least: every other candidate has a greater key, or the same key and no earlier index. -/
theorem leastBy_spec {key : ClosureRecord → Nat} {p : Nat × ClosureRecord} :
    ∀ {l : List (Nat × ClosureRecord)}, l.Pairwise (fun a b => a.1 < b.1) → leastBy key l = some p →
      ∀ q ∈ l, key p.2 < key q.2 ∨ (key p.2 = key q.2 ∧ p.1 ≤ q.1)
  | [], _, h => by cases h
  | x :: rest, hl, h => by
    obtain ⟨hx, hrest⟩ := List.pairwise_cons.mp hl
    unfold leastBy at h
    intro q hq
    cases hm : leastBy key rest with
    | none =>
      rw [hm] at h
      cases h
      rw [leastBy_eq_none hm] at hq
      cases List.mem_singleton.mp hq
      exact .inr ⟨rfl, le_refl _⟩
    | some m =>
      have hleast := leastBy_spec hrest hm
      have hxm := hx m (leastBy_mem hm)
      rw [hm] at h
      dsimp only at h
      split at h <;> cases h
      · rcases List.mem_cons.mp hq with rfl | hq
        · exact .inl ‹_›
        · exact hleast q hq
      · rcases List.mem_cons.mp hq with rfl | hq
        · exact .inr ⟨rfl, le_refl _⟩
        · rcases hleast q hq with hlt | ⟨he, hle⟩ <;> omega

/-- The first of the greatest: every other candidate has a smaller key, or the same key and no earlier index. -/
theorem greatestBy_spec {key : ClosureRecord → Nat} {p : Nat × ClosureRecord} :
    ∀ {l : List (Nat × ClosureRecord)}, l.Pairwise (fun a b => a.1 < b.1) → greatestBy key l = some p →
      ∀ q ∈ l, key q.2 < key p.2 ∨ (key q.2 = key p.2 ∧ p.1 ≤ q.1)
  | [], _, h => by cases h
  | x :: rest, hl, h => by
    obtain ⟨hx, hrest⟩ := List.pairwise_cons.mp hl
    unfold greatestBy at h
    intro q hq
    cases hm : greatestBy key rest with
    | none =>
      rw [hm] at h
      cases h
      rw [greatestBy_eq_none hm] at hq
      cases List.mem_singleton.mp hq
      exact .inr ⟨rfl, le_refl _⟩
    | some m =>
      have hgreatest := greatestBy_spec hrest hm
      have hxm := hx m (greatestBy_mem hm)
      rw [hm] at h
      dsimp only at h
      split at h <;> cases h
      · rcases List.mem_cons.mp hq with rfl | hq
        · exact .inl ‹_›
        · exact hgreatest q hq
      · rcases List.mem_cons.mp hq with rfl | hq
        · exact .inr ⟨rfl, le_refl _⟩
        · rcases hgreatest q hq with hlt | ⟨he, hle⟩ <;> omega

/-! ## The candidates of an eviction (R115) -/

/-- A LIFTED record of another station. -/
def State.LiftedAt (s : State) (j : Nat) (q : ClosureRecord) : Prop := s.recordAt j = some q ∧ q.own = false ∧ q.state = .lifted

/-- An ANNOUNCED record of another station that is not relevant. -/
def State.OtherAt (s : State) (j : Nat) (q : ClosureRecord) : Prop :=
  s.recordAt j = some q ∧ q.own = false ∧ q.state = .announced ∧ s.relevant q = false

def State.liftedRecords (s : State) : List (Nat × ClosureRecord) :=
  s.records.filter (fun p => decide (p.2.state = .lifted) && !p.2.own)

def State.otherRecords (s : State) : List (Nat × ClosureRecord) :=
  s.records.filter (fun p => decide (p.2.state = .announced) && !p.2.own && !s.relevant p.2)

theorem mem_liftedRecords {j : Nat} {q : ClosureRecord} : (j, q) ∈ s.liftedRecords ↔ s.LiftedAt j q := by
  unfold State.liftedRecords State.LiftedAt
  rw [List.mem_filter, mem_records, Bool.and_eq_true_iff, decide_eq_true_iff, Bool.not_eq_true', and_comm (a := q.state = _)]

theorem mem_otherRecords {j : Nat} {q : ClosureRecord} : (j, q) ∈ s.otherRecords ↔ s.OtherAt j q := by
  unfold State.otherRecords State.OtherAt
  rw [List.mem_filter, mem_records, Bool.and_eq_true_iff, Bool.and_eq_true_iff, decide_eq_true_iff, Bool.not_eq_true',
    Bool.not_eq_true', and_comm (a := q.state = _), and_assoc]

theorem records_sorted (s : State) : s.records.Pairwise (fun a b => a.1 < b.1) := (indexed_pairwise 0 _).1

/-- R115: whether the new record may take the place of none but a LIFTED one. -/
def State.Yields (s : State) (new : ClosureRecord) : Prop := new.state = .announced ∧ s.relevant new = false

theorem evictIndex_eq (s : State) (new : ClosureRecord) : s.evictIndex new =
    match leastBy ClosureRecord.display s.liftedRecords with
    | some p => some p.1
    | none => if decide (new.state = .announced) && !s.relevant new then none
      else (greatestBy (fun r => r.separation s.config.chainage) s.otherRecords).map Prod.fst := rfl

theorem yields_iff (s : State) (new : ClosureRecord) :
    (decide (new.state = .announced) && !s.relevant new) = true ↔ s.Yields new := by
  rw [Bool.and_eq_true_iff, decide_eq_true_iff, Bool.not_eq_true']
  exact Iff.rfl

theorem evictIndex_cases {new : ClosureRecord} {i : Nat} (h : s.evictIndex new = some i) :
    (∃ r, s.LiftedAt i r ∧ ∀ j q, s.LiftedAt j q → r.display < q.display ∨ (r.display = q.display ∧ i ≤ j))
      ∨ ((∀ j q, ¬ s.LiftedAt j q) ∧ ¬ s.Yields new
        ∧ ∃ r, s.OtherAt i r ∧ ∀ j q, s.OtherAt j q → q.separation s.config.chainage < r.separation s.config.chainage
          ∨ (q.separation s.config.chainage = r.separation s.config.chainage ∧ i ≤ j)) := by
  rw [evictIndex_eq] at h
  cases hl : leastBy ClosureRecord.display s.liftedRecords with
  | some p =>
    rw [hl] at h
    cases h
    exact .inl ⟨p.2, mem_liftedRecords.mp (leastBy_mem hl), fun j q hq =>
      leastBy_spec ((records_sorted s).filter _) hl (j, q) (mem_liftedRecords.mpr hq)⟩
  | none =>
    rw [hl] at h
    dsimp only at h
    split at h
    · cases h
    · next hy =>
      obtain ⟨p, hp, rfl⟩ := Option.map_eq_some_iff.mp h
      refine .inr ⟨fun j q hq => ?_, fun hyields => hy ((yields_iff s new).mpr hyields), p.2,
        mem_otherRecords.mp (greatestBy_mem hp), fun j q hq =>
          greatestBy_spec ((records_sorted s).filter _) hp (j, q) (mem_otherRecords.mpr hq)⟩
      have hmem := mem_liftedRecords.mpr hq
      rw [leastBy_eq_none hl] at hmem
      cases hmem

theorem evictIndex_ne_none_of_lifted (new : ClosureRecord) {j : Nat} {q : ClosureRecord} (h : s.LiftedAt j q) :
    s.evictIndex new ≠ none := by
  rw [evictIndex_eq]
  cases hl : leastBy ClosureRecord.display s.liftedRecords with
  | some p => exact nofun
  | none =>
    have hmem := mem_liftedRecords.mpr h
    rw [leastBy_eq_none hl] at hmem
    cases hmem

theorem evictIndex_ne_none_of_other {new : ClosureRecord} {j : Nat} {q : ClosureRecord} (h : s.OtherAt j q)
    (hy : ¬ s.Yields new) : s.evictIndex new ≠ none := by
  rw [evictIndex_eq]
  cases hl : leastBy ClosureRecord.display s.liftedRecords with
  | some p => exact nofun
  | none =>
    dsimp only
    rw [if_neg fun e => hy ((yields_iff s new).mp e)]
    intro hnone
    have hmem := mem_otherRecords.mpr h
    rw [greatestBy_eq_none (Option.map_eq_none_iff.mp hnone)] at hmem
    cases hmem

theorem separation_eq {q : ClosureRecord} (h : q.scopeLo ≤ q.scopeHi) (c : Nat) : q.separation c =
    if c < q.scopeLo then q.scopeLo - c else if q.scopeHi < c then c - q.scopeHi else 0 := by
  unfold ClosureRecord.separation
  split_ifs <;> omega

theorem aheadOf_iff (r : ClosureRecord) (c : Nat) (role : SignRole) (look : Nat) : r.aheadOf c role look = true ↔
    (role = .eastApproach ∧ c ≤ r.scopeHi ∧ r.scopeLo ≤ c + look)
      ∨ (role = .westApproach ∧ r.scopeLo ≤ c ∧ c ≤ r.scopeHi + look) := by
  cases role <;> simp [ClosureRecord.aheadOf, ClosureRecord.aheadEast, ClosureRecord.aheadWest]

theorem mem_signOrder (n : Sign) : n ∈ Sign.order := by cases n <;> decide

/-- R97: a record is relevant where it covers the station, or lies ahead of an approach sign or in the range of a gate. -/
theorem relevant_iff (s : State) (q : ClosureRecord) : s.relevant q = true ↔
    (q.scopeLo ≤ s.config.chainage ∧ s.config.chainage ≤ q.scopeHi)
      ∨ (∃ n : Sign, s.config.signRoles.get n = .eastApproach ∧ s.config.chainage ≤ q.scopeHi
          ∧ q.scopeLo ≤ s.config.chainage + s.config.lookAheads.get n)
      ∨ (∃ n : Sign, s.config.signRoles.get n = .westApproach ∧ q.scopeLo ≤ s.config.chainage
          ∧ s.config.chainage ≤ q.scopeHi + s.config.lookAheads.get n)
      ∨ (s.config.fitted.east = true ∧ s.config.chainage ≤ q.scopeHi ∧ q.scopeLo ≤ s.config.chainage + s.config.reach)
      ∨ (s.config.fitted.west = true ∧ q.scopeLo ≤ s.config.chainage
          ∧ s.config.chainage ≤ q.scopeHi + s.config.reach) := by
  have hsigns : Sign.order.any (fun n => q.aheadOf s.config.chainage (s.config.signRoles.get n) (s.config.lookAheads.get n))
      = true ↔ (∃ n : Sign, s.config.signRoles.get n = .eastApproach ∧ s.config.chainage ≤ q.scopeHi
          ∧ q.scopeLo ≤ s.config.chainage + s.config.lookAheads.get n)
        ∨ (∃ n : Sign, s.config.signRoles.get n = .westApproach ∧ q.scopeLo ≤ s.config.chainage
          ∧ s.config.chainage ≤ q.scopeHi + s.config.lookAheads.get n) := by
    rw [List.any_eq_true, ← exists_or]
    exact exists_congr fun n => (and_iff_right (mem_signOrder n)).trans (aheadOf_iff _ _ _ _)
  have hgates : Gate.order.any (fun g => s.config.fitted.get g && q.overlapsGate s.config.chainage s.config.reach g) = true
      ↔ (s.config.fitted.east = true ∧ s.config.chainage ≤ q.scopeHi ∧ q.scopeLo ≤ s.config.chainage + s.config.reach)
        ∨ (s.config.fitted.west = true ∧ q.scopeLo ≤ s.config.chainage
          ∧ s.config.chainage ≤ q.scopeHi + s.config.reach) := by
    simp [Gate.order, PerGate.get, ClosureRecord.overlapsGate, ClosureRecord.aheadEast, ClosureRecord.aheadWest]
  unfold State.relevant
  dsimp only
  rw [Bool.or_eq_true_iff, Bool.or_eq_true_iff, hsigns, hgates, ClosureRecord.covers, decide_eq_true_iff, or_assoc, or_assoc]

/-! ## A bulletin at a full register -/

theorem relevant_congr (hc : t.config = s.config) (r : ClosureRecord) : t.relevant r = s.relevant r := by
  unfold State.relevant
  rw [hc]

theorem evictIndex_congr (hslots : t.register.slots = s.register.slots) (hc : t.config = s.config) (new : ClosureRecord) :
    t.evictIndex new = s.evictIndex new := by
  have hrecords : t.records = s.records := congrArg (indexed 0) hslots
  have hlifted : t.liftedRecords = s.liftedRecords := congrArg (List.filter _) hrecords
  have hother : t.otherRecords = s.otherRecords := by
    unfold State.otherRecords
    rw [hrecords]
    exact List.filter_congr fun p _ => by rw [relevant_congr hc]
  rw [evictIndex_eq, evictIndex_eq, hlifted, hother, relevant_congr hc, hc]

/-- R107, R115: beside its slot, a vacated record leaves REGISTER-FULL as it is. -/
theorem frame_vacate_slots (i : Nat) (s : State) : Frame (.slots :: Part.ofGates) s (vacate i s) := by
  cases h : s.recordAt i with
  | none =>
    unfold vacate
    rw [h]
    exact Frame.refl _ s
  | some r =>
    rw [vacate_eq h]
    exact ((frame_removeEntries i r s).widen rfl).trans ((frame_reportRecords _).widen rfl)

/-- R116: REGISTER-FULL alone changes in the register. -/
theorem register_setFull (b : Bool) (s : State) : (setFull b s).register = { s.register with full := b } := by
  unfold setFull
  split
  · next h => rw [← h]
  · exact (frame_present _ _).register_eq rfl

/-- R116: a change of REGISTER-FULL presents a STATUS. -/
theorem queue_setFull (h : s.phase.operating = true) {b : Bool} (hb : s.register.full ≠ b) :
    (setFull b s).line.queue = enqueue .status s.line.queue := by
  unfold setFull
  rw [if_neg hb]
  exact queue_present_operating (s := s.withRegister { s.register with full := b }) .status h

/-- What an eviction at an index leaves: the new record there, every other record where it was. -/
theorem createRecord_evicts {c : ClosureContent} {i : Nat} (hstate : c.state ≠ .lifted)
    (hfull : freeIndex 0 s.register.slots = none) (he : s.evictIndex (s.newRecord c) = some i) :
    (createRecord c s).recordAt i = some (s.newRecord c).settled ∧ (createRecord c s).register.full = s.register.full
      ∧ ∀ j, j ≠ i → (createRecord c s).recordAt j = s.recordAt j := by
  obtain ⟨r, hr⟩ := evictIndex_held he
  have hlt : i < (vacate i s).register.slots.length := by
    rw [slots_vacate hr, List.length_set]
    exact lt_length_of_recordAt hr
  obtain ⟨v, hv⟩ : ∃ v, v = storeRecord i (s.newRecord c).settled (vacate i s) := ⟨_, rfl⟩
  have hstored : v.recordAt i = some (s.newRecord c).settled ∧ v.register.full = s.register.full
      ∧ ∀ j, j ≠ i → v.recordAt j = s.recordAt j := by
    rw [hv]
    exact ⟨recordAt_storeRecord_of_lt hlt _,
      ((frame_storeRecord i _ _).full_eq rfl).trans ((frame_vacate_slots i s).full_eq rfl),
      fun j hj => (recordAt_storeRecord_of_ne hj _ _).trans (recordAt_vacate_of_ne hj s)⟩
  have hqueue : ∀ w : State, (∀ j, w.recordAt j = v.recordAt j) → w.register.full = v.register.full →
      w.recordAt i = some (s.newRecord c).settled ∧ w.register.full = s.register.full
        ∧ ∀ j, j ≠ i → w.recordAt j = s.recordAt j := fun w hw hf => by
    obtain ⟨hi, hfull, hother⟩ := hstored
    exact ⟨(hw i).trans hi, hf.trans hfull, fun j hj => (hw j).trans (hother j hj)⟩
  rw [createRecord_of_taken (.inl hstate), admitRecord_of_evicted hfull he, ← hv]
  split
  · exact hqueue _ (recordAt_queueOwn _ v) ((frame_queueOwn _ v).full_eq rfl)
  · exact hstored

/-- Settles O46: the choice of the record to leave, and a full register with and without one. -/
theorem evictionSparesOwnAndDemandingRecords : Obligations.EvictionSparesOwnAndDemandingRecords := by
  refine ⟨fun s new => ⟨fun i h => evictIndex_cases h, fun q hq => separation_eq hq _, relevant_iff s,
    fun ⟨j, q, h⟩ => evictIndex_ne_none_of_lifted new h, fun ⟨j, q, h⟩ hy => evictIndex_ne_none_of_other h hy⟩, ?_⟩
  intro s h b c hphase hheard hc ha hk hf hstate hfull
  obtain ⟨u, hu, houtcome⟩ := outcome_closure false b hphase hheard
  obtain ⟨hup, huc, hua⟩ := hu.settings_eq (by decide)
  have hregister : u.register = s.register := hu.register_eq rfl
  have hslots : u.register.slots = s.register.slots := congrArg Register.slots hregister
  have hpass : (u.authorised h.source c.id.origin && u.kindAllowed c.id.origin c.kind) = true := by
    rw [authorised_congr hup huc hua, kindAllowed_congr hup huc, ha, hk]
    rfl
  have hout : outcome (.closureReceived h b) s = createRecord c u :=
    houtcome.trans (takeClosure_of_unheld hc ((findRecord_congr hslots _).trans hf) hpass)
  have hnew : u.newRecord c = s.newRecord c := newRecord_congr hua c
  have hevict : u.evictIndex (u.newRecord c) = s.evictIndex (s.newRecord c) := by
    rw [hnew, evictIndex_congr hslots huc]
  have hfull' : freeIndex 0 u.register.slots = none := by rw [hslots, hfull]
  refine ⟨fun hnone => completes_iff.mpr ?_, fun i hi => completes_iff.mpr ?_⟩
  · rw [hout, createRecord_of_taken (.inl hstate), admitRecord_of_full hfull' (hevict.trans hnone)]
    refine ⟨?_, fun hclear => ?_⟩
    · show (setFull true u).register = _
      rw [register_setFull, hregister]
    · show _ ∈ (setFull true u).line.queue ∨ 12 ≤ (setFull true u).line.queue.length
      rw [queue_setFull (by rw [hup]; exact hphase) (by rw [hregister, hclear]; decide)]
      exact mem_or_full_enqueue _ _
  · rw [hout, ← hnew, ← hregister]
    obtain ⟨hat, hfullness, hother⟩ := createRecord_evicts hstate hfull' (hevict.trans hi)
    exact ⟨hat, hfullness, fun j hj => (hother j hj).trans (recordAt_congr hslots j)⟩

end Sys2Proof.Machine
end

section
/-! PROOF. What the evaluation of signs keeps of them; the local timers of records and the walker (O44). -/

namespace Sys2Proof.Machine

open Sys2Proof

variable {s t u : State}

/-! ## What an evaluation keeps of the signs -/

/-- A law on signs that neither their candidates and page sets built and offered, nor their refresh timers decide. -/
structure SelectorKeeps (law : State → Prop) : Prop where
  pages : ∀ {s} (n : Sign) (c : List Candidate) (b o : Option PageSet) (r : Option Nat), law s →
    law (s.setSign n { s.signs.get n with candidates := c, built := b, offered := o, refresh := r })
  aside : ∀ {s t qs}, Frame qs s t → Part.apart [.signs] qs = true → law s → law t

namespace SelectorKeeps

variable {law : State → Prop}

theorem arbitrate (h : SelectorKeeps law) (hs : law s) : law (Machine.arbitrate s) := h.aside (frame_arbitrate s) rfl hs

theorem handPageSet (h : SelectorKeeps law) (n : Sign) (ps : PageSet) (hs : law s) : law (Machine.handPageSet n ps s) := by
  have hoffered := h.pages n (s.signs.get n).candidates (s.signs.get n).built (some ps) (s.refreshStart n) hs
  exact h.arbitrate (h.aside (frame_setSignLink _ n _) rfl hoffered)

theorem rebuildSign (h : SelectorKeeps law) (n : Sign) (hs : law s) : law (Machine.rebuildSign n s) :=
  h.pages n _ _ (s.signs.get n).offered (s.signs.get n).refresh hs

theorem evaluateSign (h : SelectorKeeps law) (n : Sign) (hs : law s) : law (Machine.evaluateSign n s) := by
  unfold Machine.evaluateSign
  split
  · dsimp only
    split
    · exact h.handPageSet n _ (h.rebuildSign n hs)
    · exact h.rebuildSign n hs
  · exact hs

theorem forSigns {f : Sign → State → State} (hf : ∀ n s, law s → law (f n s)) (hs : law s) : law (Machine.forSigns f s) :=
  hf _ _ (hf _ _ (hf _ _ hs))

theorem evaluateSigns (h : SelectorKeeps law) (hs : law s) : law (Machine.evaluateSigns s) :=
  forSigns (fun n _ => h.evaluateSign n) hs

theorem leaveQuiet (h : SelectorKeeps law) (hs : law s) : law (Machine.leaveQuiet s) := by
  have hstatus : law (Machine.present .status (s.withStartup { s.startup with quiet := false, entryTimer := none })) :=
    h.aside (frame_present _ _) rfl (h.aside (frame_quiet s _ _) rfl hs)
  refine h.evaluateSigns (forSigns (fun n t ht => ?_) hstatus)
  dsimp only
  split
  · exact ht
  · exact h.pages n (t.signs.get n).candidates (t.signs.get n).built (t.signs.get n).offered _ ht

theorem judgeQuiet (h : SelectorKeeps law) (hs : law s) : law (Machine.judgeQuiet s) := by
  have hquiet : ∀ e, law (s.withStartup { s.startup with entryTimer := e }) := fun e =>
    h.aside (frame_quiet s s.startup.quiet e) rfl hs
  unfold Machine.judgeQuiet
  split
  · split
    · split
      · exact hs
      · exact h.leaveQuiet hs
    · split
      · split
        · exact hs
        · exact hquiet _
      · exact hquiet _
  · exact hs

theorem putGate (h : SelectorKeeps law) (g : Gate) (x : GateUnit) (hs : law s) : law (Machine.putGate g x s) := by
  have hset : law (s.setGate g x) := h.aside (frame_withGates_units s g x) rfl hs
  have hstatus : law (if x.state ≠ (s.gates.units.get g).state ∨ x.slow ≠ (s.gates.units.get g).slow
      then Machine.present .status (s.setGate g x) else s.setGate g x) := by
    split
    · exact h.aside (frame_present _ _) rfl hset
    · exact hset
  unfold Machine.putGate
  dsimp only
  split
  · exact h.judgeQuiet hstatus
  · exact hstatus

theorem putKeeps (h : SelectorKeeps law) : PutKeeps law where
  put hs := h.putGate _ _ hs
  same _ hs := h.aside (frame_withGates_units _ _ _) rfl hs

theorem reportRecords (h : SelectorKeeps law) (hs : law s) : law (Machine.reportRecords s) :=
  h.judgeQuiet (h.putKeeps.evaluateGates (h.evaluateSigns hs))

end SelectorKeeps

/-! ## The local timers -/

/-- An entry is queued, or the queue is full. -/
def HeldOrFull (e : Bulletin) (q : List Bulletin) : Prop := e ∈ q ∨ 12 ≤ q.length

theorem HeldOrFull.enqueue {e : Bulletin} {q : List Bulletin} (h : HeldOrFull e q) (x : Bulletin) :
    HeldOrFull e (Machine.enqueue x q) := by
  have hlength := length_insertEntry x
  rcases enqueue_cases x q with ⟨he, -⟩ | ⟨he, -, -⟩ | ⟨he, -, hfull⟩ <;> rw [he]
  · exact h
  · refine h.imp (fun hm => (insertEntry_perm x q).mem_iff.mpr (List.mem_cons_of_mem _ hm)) fun hl => ?_
    rw [hlength]
    omega
  · refine .inr ?_
    rw [hlength, List.length_dropLast]
    omega

theorem HeldOrFull.of_reported {e : Bulletin} (h : HeldOrFull e s.line.queue) (hr : Reported s t) : HeldOrFull e t.line.queue := by
  rcases hr with hr | hr <;> rw [hr]
  · exact h
  · exact h.enqueue _

/-- R114: in RUNNING an own record's CLOSURE is queued. -/
theorem heldOrFull_queueOwn {r : ClosureRecord} (hown : r.own = true) (hrun : s.phase = .running) :
    HeldOrFull (.closure r.id) (queueOwn r s).line.queue := by
  have hcond : (r.own && decide (s.phase = .running)) = true := by
    rw [hown, hrun]
    rfl
  unfold queueOwn
  rw [if_pos hcond, queue_present_operating _ (by rw [hrun]; rfl)]
  exact mem_or_full_enqueue _ _

theorem outcome_leadExpiry {i : Nat} {r : ClosureRecord} (hphase : s.phase.operating = true) (hr : s.recordAt i = some r)
    (hstate : r.state = .announced) (hzero : r.lead = 0) :
    outcome (.leadExpiry i) s = storeRecord i { r with state := .inForce } (queueOwn { r with state := .inForce } s) := by
  have hcond : (s.phase.operating && decide (r.state = .announced ∧ r.lead = 0)) = true := by
    rw [hphase, hstate, hzero]
    rfl
  change (match s.recordAt i with | some r => _ | none => _) = _
  rw [hr]
  exact if_pos hcond

theorem outcome_recordStale {i : Nat} {r : ClosureRecord} (hphase : s.phase.operating = true) (hr : s.recordAt i = some r)
    (hown : r.own = false) (hstale : r.stale = false) (hage : 900 < r.age) :
    outcome (.recordStale i) s = storeRecord i { r with stale := true } s := by
  have hcond : (s.phase.operating && !r.own && !r.stale && decide (900 < r.age)) = true := by
    rw [hphase, hown, hstale, decide_eq_true hage]
    rfl
  change (match s.recordAt i with | some r => _ | none => _) = _
  rw [hr]
  exact if_pos hcond

theorem slots_queueOwn (r : ClosureRecord) (s : State) : (queueOwn r s).register.slots = s.register.slots :=
  (frame_queueOwn r s).slots_eq (by decide)

/-- R106, R113: the record that a duration's end lifts stays, whatever the hazard unit makes of it. -/
theorem recordAt_tellHazard_lifted {i : Nat} {r q : ClosureRecord} (h : s.recordAt i = some q) (hown : q.own = r.own)
    (hstate : q.state = .lifted) : (tellHazard false r q s).recordAt i = some q := by
  unfold tellHazard
  split
  · next hcond =>
    have hstanding : r.standingAvalanche = true := (Bool.and_eq_true_iff.mp hcond).1
    have hro : r.own = true := by
      unfold ClosureRecord.standingAvalanche at hstanding
      exact (Bool.and_eq_true_iff.mp hstanding).1
    exact autocloseTest_keeps_own h (hown.trans hro) (by rw [hstate]; exact nofun)
  · exact h

/-- R117: one step of the walker queues the CLOSURE of an own record at its index. -/
theorem queue_walkerAdvance (h : s.phase.operating = true) : (walkerAdvance s).line.queue =
    (match s.recordAt s.register.walkerIndex with
      | some r => if r.own then enqueue (.closure r.id) s.line.queue else s.line.queue
      | none => s.line.queue) := by
  have hline : (walkerAdvance s).line = (match s.recordAt s.register.walkerIndex with
      | some r => if r.own then present (.closure r.id) s else s
      | none => s).line := rfl
  rw [hline]
  cases s.recordAt s.register.walkerIndex with
  | none => rfl
  | some r =>
    dsimp only
    split
    · exact queue_present_operating _ h
    · rfl

/-- R89, R189: the minutes of a duration, rounded up and at least 1. -/
theorem durationMinutes_toNat {d : Nat} (h : d ≤ 3932100) : (durationMinutes (some d)).toNat = max 1 ((d + 59) / 60) := by
  have hbound : max 1 ((d + 59) / 60) < 2 ^ 16 := by omega
  exact Nat.mod_eq_of_lt hbound

/-- Settles O44. -/
theorem recordTimersExpire : Obligations.RecordTimersExpire := by
  refine ⟨fun s i r hphase hr => ⟨fun hstate hlead => completes_iff.mpr ?_, fun hstate hzero => completes_iff.mpr ?_,
    fun hown hstale hage => completes_iff.mpr ?_⟩, fun s hphase htimer => completes_iff.mpr ?_, fun r => ⟨fun hnone => ?_,
    fun d hd hle => ?_⟩⟩
  · rw [outcome_leadExpiry hphase hr hstate hlead]
    refine ⟨by rw [slots_storeRecord, slots_queueOwn], fun hown hrun => ?_⟩
    exact (heldOrFull_queueOwn (r := { r with state := .inForce }) hown hrun).of_reported (reported_storeRecord _ _ _)
  · rw [outcome_durationExpiry hphase hr hstate hzero]
    refine recordAt_tellHazard_lifted ?_ rfl rfl
    exact recordAt_storeRecord_same ((recordAt_queueOwn _ s i).trans hr) _
  · rw [outcome_recordStale hphase hr hown hstale hage]
    exact slots_storeRecord _ _ s
  · have hstep : outcome .walkerStep s = walkerAdvance s := if_pos ⟨hphase, htimer⟩
    obtain ⟨hindex, hfast, hstart⟩ := walkerAdvance_walker s
    rw [hstep]
    exact ⟨hindex, hfast, by rw [hstart, hfast], (frame_walkerAdvance s).slots_eq (by decide),
      queue_walkerAdvance (by rw [hphase]; rfl)⟩
  · show durationMinutes r.duration = _
    rw [hnone]
    rfl
  · show (durationMinutes r.duration).toNat = _
    rw [hd, durationMinutes_toNat hle]

end Sys2Proof.Machine
end

section
/-! PROOF. The removal of a LIFTED record, with the slide it serves and the autoclose test it brings (O45). -/

namespace Sys2Proof.Machine

open Sys2Proof

variable {s t u w : State}

/-! ## Room and what fills it -/

theorem freeIndex_ne_none {i : Nat} : ∀ {l : List (Option ClosureRecord)} (k : Nat), l[i]? = some none → freeIndex k l ≠ none
  | none :: _, k, _ => nofun
  | some x :: rest, k, h => by
    cases i with
    | zero => cases h
    | succ n =>
      rw [List.getElem?_cons_succ] at h
      exact freeIndex_ne_none (k + 1) h

/-- Registers of one length with the same records are the same. -/
theorem slots_ext (hl : t.register.slots.length = s.register.slots.length) (h : ∀ k, t.recordAt k = s.recordAt k) :
    t.register.slots = s.register.slots := by
  refine List.ext_getElem hl fun k ht hs => ?_
  have hk := h k
  unfold State.recordAt at hk
  rw [List.getElem?_eq_getElem ht, List.getElem?_eq_getElem hs] at hk
  exact hk

/-- R116: a change of REGISTER-FULL presents a STATUS, and that is all. -/
theorem frame_setFull_parts (b : Bool) (s : State) : Frame (.registerFull :: Part.ofPresent) s (setFull b s) := by
  unfold setFull
  exact Frame.ite (Frame.refl _ s) (((frame_full s b).widen rfl).trans ((frame_present _ _).widen rfl))

/-- Beside slots and what reports bring, seeking room may set REGISTER-FULL alone. -/
theorem frame_admitRecord_parts (r : ClosureRecord) (s : State) :
    Frame (.registerFull :: .slots :: Part.ofGates) s (admitRecord r s).1 := by
  unfold admitRecord
  split
  · exact (frame_storeRecord _ _ s).widen rfl
  · split
    · exact ((frame_vacate_slots _ s).widen rfl).trans ((frame_storeRecord _ _ _).widen rfl)
    · exact (frame_setFull_parts true s).widen rfl

/-- Beside what seeking room writes, the autoclose test writes the own serial alone. -/
theorem frame_autocloseTest_parts (s : State) :
    Frame (.ownSerial :: .registerFull :: .slots :: Part.ofGates) s (autocloseTest s) := by
  by_cases h : s.Called
  · have horiginate : Frame (.ownSerial :: .registerFull :: .slots :: Part.ofGates) s (originate s).1 := by
      have hadmit := (frame_admitRecord_parts s.autocloseRecord s).widen
        (qs := .ownSerial :: .registerFull :: .slots :: Part.ofGates) rfl
      unfold originate
      dsimp only
      split
      · next e =>
        rw [State.autocloseRecord, e] at hadmit
        exact hadmit.trans (((frame_takeSerial _ _).widen rfl).trans ((frame_queueOwn _ _).widen rfl))
      · next e =>
        rw [State.autocloseRecord, e] at hadmit
        exact hadmit
    rw [autocloseTest_of_called h]
    exact Frame.ite (horiginate.trans ((frame_bringForward_slots _).widen rfl)) horiginate
  · rw [autocloseTest_eq_self h]
    exact Frame.refl _ s

/-- Where there is room the autoclose test leaves REGISTER-FULL as it is. -/
theorem full_autocloseTest (hfree : freeIndex 0 s.register.slots ≠ none) :
    (autocloseTest s).register.full = s.register.full := by
  by_cases h : s.Called
  · obtain ⟨i, hi⟩ := Option.ne_none_iff_exists'.mp hfree
    have hstored : Frame (.ownSerial :: .slots :: Part.ofGates) s (originate s).1 := by
      rw [originate_of_free hi]
      exact ((frame_storeRecord _ _ s).widen rfl).trans
        (((frame_takeSerial _ _).widen rfl).trans ((frame_queueOwn _ _).widen rfl))
    have hboth := hstored.trans ((frame_bringForward_slots _).widen rfl)
    rw [autocloseTest_of_called h]
    split
    · exact hboth.full_eq rfl
    · exact hstored.full_eq rfl
  · rw [autocloseTest_eq_self h]

theorem length_bringForward (s : State) : (bringForward s).register.slots.length = s.register.slots.length := by
  have hat : ∀ j t, t.register.slots.length = s.register.slots.length →
      (bringForwardAt j t).register.slots.length = s.register.slots.length := fun j t ht => by
    unfold bringForwardAt
    split
    · split
      · rw [length_storeRecord, slots_queueOwn, ht]
      · exact ht
    · exact ht
  unfold bringForward
  split
  · exact forIndices_keeps hat rfl
  · rfl

/-- R49, R112: with room for it, the record that autoclose originates is all the test changes of the register's records. -/
theorem slots_autocloseTest_placed (h : s.Called) {i : Nat} (hfree : freeIndex 0 s.register.slots = some i) (hi : i < 16)
    (hlead : 0 < s.config.announceLead) :
    (autocloseTest s).register.slots = s.register.slots.set i (some (if s.hazard.computed = 5
      then { s.autocloseRecord with state := .inForce, lead := 0, revision := 1#8 } else s.autocloseRecord)) := by
  obtain ⟨hrecord, -⟩ := autocloseTest_placed h hfree hi hlead
  have hlt := lt_length_of_freeIndex hfree
  have htest : autocloseTest s = bringForward (originate s).1 := by
    rw [autocloseTest_of_called h, originate_of_free hfree]
    rfl
  have horiginate : (originate s).1.register.slots = s.register.slots.set i (some s.autocloseRecord.settled) := by
    rw [originate_of_free hfree]
    exact (slots_queueOwn _ _).trans (slots_storeRecord _ _ s)
  have hother : ∀ k, k ≠ i → (autocloseTest s).recordAt k = s.recordAt k := fun k hk => by
    have hkept : (originate s).1.recordAt k = s.recordAt k :=
      (recordAt_congr (t := (originate s).1) (s := s.setSlot i (some s.autocloseRecord.settled)) horiginate k).trans
        (recordAt_setSlot_of_ne hk _)
    rw [htest]
    by_cases hb : (originate s).1.phase = .running ∧ (originate s).1.hazard.computed = 5
    · rw [recordAt_bringForward hb, hkept]
      split
      · cases hr : s.recordAt k with
        | none => rfl
        | some q =>
          obtain ⟨-, -, hlifted, -⟩ := h
          refine congrArg some (if_neg fun ⟨hown, hkind, hstate⟩ => ?_)
          rw [hlifted k q hr hown hkind] at hstate
          cases hstate
      · rfl
    · rw [bringForward_eq_self hb, hkept]
  refine slots_ext (s := s.setSlot i (some _)) ?_ fun k => ?_
  · rw [htest, length_bringForward, horiginate, List.length_set, State.setSlot_register, List.length_set]
  · by_cases hk : k = i
    · subst hk
      rw [hrecord, recordAt_setSlot _ _ _ _ hlt, if_pos rfl]
    · rw [hother k hk, recordAt_setSlot_of_ne hk]

/-! ## A slide served -/

theorem standingSlide_isSome {k : Nat} {q : ClosureRecord} (hr : s.recordAt k = some q) (hown : q.own = true)
    (hkind : q.kind = .slide) (hstate : q.state ≠ .lifted) : s.standingSlide.isSome = true := by
  refine List.find?_isSome.mpr ⟨(k, q), mem_records.mpr hr, ?_⟩
  simp [hown, hkind, hstate]

/-- R110: where there is room a SLIDE event leaves an own SLIDE record IN-FORCE, and every record that is not one as it is. -/
theorem carrySlide_stands (hfree : freeIndex 0 s.register.slots ≠ none) :
    Frame (.slots :: .ownSerial :: Part.ofGates) s (carrySlide s)
      ∧ (∃ k q, (carrySlide s).recordAt k = some q ∧ q.own = true ∧ q.kind = .slide ∧ q.state = .inForce)
      ∧ ∀ m x, s.recordAt m = some x → x.kind ≠ .slide → (carrySlide s).recordAt m = some x := by
  have hpresent : ∀ (e : Bulletin) (v : State) (m : Nat), (present e v).recordAt m = v.recordAt m := fun e v m =>
    recordAt_congr ((frame_present e v).slots_eq (by decide)) m
  cases hs : s.standingSlide with
  | none =>
    obtain ⟨i, hi⟩ := Option.ne_none_iff_exists'.mp hfree
    obtain ⟨v, hcarry, hframe, -, hrecord, -⟩ := carrySlide_placed hs hi
    have hstore : carrySlide s = present (.alert (s.ownId s.nextSerial)) (takeSerial s.nextSerial
        (storeRecord i (s.ownRecord .slide s.config.slideHalf .inForce 0).settled s)) := by
      unfold carrySlide
      rw [hs]
      dsimp only
      rw [admitRecord_of_free hi]
      rfl
    refine ⟨?_, ⟨i, s.ownRecord .slide s.config.slideHalf .inForce 0, ?_, rfl, rfl, rfl⟩, fun m x hm hx => ?_⟩
    · rw [hcarry]
      exact hframe.trans ((frame_present _ _).widen rfl)
    · rw [hcarry, hpresent, hrecord]
    · rw [hstore, hpresent, recordAt_takeSerial, recordAt_storeRecord_of_ne (ne_freeIndex hm hi), hm]
  | some p =>
    obtain ⟨i, r⟩ := p
    obtain ⟨hr, hown, hkind, hstate⟩ := standingSlide_spec hs
    have hstore : carrySlide s = present (.alert r.id)
        (storeRecord i { r with revision := r.revision + 1, state := .inForce, lead := 0 } s) := by
      unfold carrySlide
      rw [hs]
    refine ⟨?_, ⟨i, { r with revision := r.revision + 1, state := .inForce, lead := 0 }, ?_, hown, hkind, rfl⟩,
      fun m x hm hx => ?_⟩
    · rw [hstore]
      exact ((frame_storeRecord _ _ s).widen rfl).trans ((frame_present _ _).widen rfl)
    · rw [hstore, hpresent, recordAt_storeRecord_same hr]
    · have hne : m ≠ i := by
        rintro rfl
        rw [hr] at hm
        cases hm
        exact hx hkind
      rw [hstore, hpresent, recordAt_storeRecord_of_ne hne, hm]

/-! ## The removal -/

/-- The state once a record has left, before a pending slide is served. -/
def State.vacated (s : State) (i : Nat) : State := setFull false (vacate i s)

theorem frame_vacated (s : State) (i : Nat) : Frame (.registerFull :: .slots :: Part.ofGates) s (s.vacated i) := by
  exact ((frame_vacate_slots i s).widen rfl).trans ((frame_setFull_parts false _).widen rfl)

theorem slots_vacated {i : Nat} {r : ClosureRecord} (h : s.recordAt i = some r) :
    (s.vacated i).register.slots = s.register.slots.set i none := by
  rw [State.vacated, register_setFull]
  exact slots_vacate h

theorem freeIndex_vacated {i : Nat} {r : ClosureRecord} (h : s.recordAt i = some r) :
    freeIndex 0 (s.vacated i).register.slots ≠ none := by
  refine freeIndex_ne_none (i := i) 0 ?_
  rw [slots_vacated h, List.getElem?_set_self (lt_length_of_recordAt h)]

theorem reported_setFull (b : Bool) (s : State) : Reported s (setFull b s) := by
  unfold setFull
  split
  · exact .refl s
  · exact (Reported.of_frame (frame_full s b) rfl).trans (reported_status _)

/-- R68: no entry of the record that left is queued. -/
theorem queue_vacated {i : Nat} {r : ClosureRecord} (h : s.recordAt i = some r) :
    Bulletin.closure r.id ∉ (s.vacated i).line.queue ∧ Bulletin.alert r.id ∉ (s.vacated i).line.queue := by
  have hreported : Reported (removeEntries i r s) (s.vacated i) := by
    rw [State.vacated, vacate_eq h]
    exact ((reported_keeps _).reportRecords (.refl _)).trans (reported_setFull _ _)
  have hmem : ∀ e ∈ (s.vacated i).line.queue, e = .status ∨ (e ≠ .closure r.id ∧ e ≠ .alert r.id) := fun e he => by
    have hfiltered : e = .status ∨ e ∈ (removeEntries i r s).line.queue := by
      rcases hreported with hq | hq <;> rw [hq] at he
      · exact .inr he
      · exact mem_of_mem_enqueue he
    refine hfiltered.imp_right fun hf => ?_
    rw [queue_removeEntries] at hf
    exact of_decide_eq_true (List.mem_filter.mp hf).2
  refine ⟨fun hc => ?_, fun ha => ?_⟩
  · rcases hmem _ hc with he | ⟨he, -⟩
    · cases he
    · exact he rfl
  · rcases hmem _ ha with he | ⟨-, he⟩
    · cases he
    · exact he rfl

/-- No sign's displayed-since map holds an id. -/
def Undisplayed (id : RecId) (s : State) : Prop := ∀ n : Sign, ∀ e ∈ (s.signs.get n).displayed, e.1 ≠ id

theorem signs_setSign (s : State) (n m : Sign) (x : SignState) :
    (s.setSign n x).signs.get m = if m = n then x else s.signs.get m := by
  cases n <;> cases m <;> rfl

theorem undisplayed_keeps (id : RecId) : SelectorKeeps (Undisplayed id) where
  pages n c b o r h m e he := by
    rw [signs_setSign] at he
    split at he
    · next hm => exact h n e he
    · exact h m e he
  aside hf hd h n e he := by
    have hsigns := hf.keeps hd (p := .signs) (by simp)
    rw [← show _ = _ from hsigns] at he
    exact h n e he

/-- R138: no displayed-since map holds the record that left. -/
theorem undisplayed_vacated {i : Nat} {r : ClosureRecord} (h : s.recordAt i = some r) : Undisplayed r.id (s.vacated i) := by
  have hremoved : Undisplayed r.id (removeEntries i r s) := fun n e he => by
    rw [signs_removeEntries] at he
    exact of_decide_eq_true (List.mem_filter.mp he).2
  rw [State.vacated, vacate_eq h]
  exact (undisplayed_keeps r.id).aside (frame_setFull_parts false _) rfl ((undisplayed_keeps r.id).reportRecords hremoved)

/-- R49: what the test reads of the settings and the hazard unit. -/
theorem called_iff_of_frame {qs : List Part} (hf : Frame qs s t)
    (hd : Part.apart [.settings, .computation, .floor, .hold] qs = true)
    (hrecords : (∀ j r, t.recordAt j = some r → r.own = true → r.kind = .avalanche → r.state = .lifted)
      ↔ ∀ j r, s.recordAt j = some r → r.own = true → r.kind = .avalanche → r.state = .lifted) :
    t.Called ↔ s.Called := by
  have hpart : ∀ p ∈ [Part.settings, .computation, .floor, .hold], p.agree s t := fun p hp => hf.keeps hd hp
  obtain ⟨hphase, hconfig, -⟩ := hf.settings_eq (Part.not_mem_of_apart hd (by simp))
  obtain ⟨-, -, -, -, -, -, hcomputed⟩ := hpart .computation (by simp)
  obtain ⟨hfloor, -⟩ := hpart .floor (by simp)
  have hhold : s.hazard.hold = t.hazard.hold := hpart .hold (by simp)
  unfold State.Called
  rw [hrecords, hphase, hconfig, ← hcomputed, ← hfloor, ← hhold]

theorem recordAt_vacated {i : Nat} {r : ClosureRecord} (h : s.recordAt i = some r) (k : Nat) :
    (s.vacated i).recordAt k = if k = i then none else s.recordAt k := by
  have hset : (s.vacated i).recordAt k = (s.setSlot i none).recordAt k :=
    recordAt_congr (t := s.vacated i) (s := s.setSlot i none) (slots_vacated h) k
  rw [hset, recordAt_setSlot _ _ _ _ (lt_length_of_recordAt h)]

/-- The own AVALANCHE records of a register that a LIFTED record has left are all LIFTED where they were before. -/
theorem called_vacated {i : Nat} {r : ClosureRecord} (h : s.recordAt i = some r) (hstate : r.state = .lifted) :
    (s.vacated i).Called ↔ s.Called := by
  refine called_iff_of_frame (frame_vacated s i) rfl ⟨fun hall j q hq hown hkind => ?_, fun hall j q hq hown hkind => ?_⟩
  · by_cases hj : j = i
    · subst hj
      rw [h] at hq
      cases hq
      exact hstate
    · exact hall j q (by rw [recordAt_vacated h, if_neg hj, hq]) hown hkind
  · rw [recordAt_vacated h] at hq
    split at hq
    · cases hq
    · exact hall j q hq hown hkind

/-- R50: whether the removal of a record is one after which the autoclose test is made. -/
def State.TestedAfter (s : State) (r : ClosureRecord) : Prop :=
  s.register.full = true ∨ (r.own = true ∧ r.kind = .avalanche)

theorem removeRecord_of_tested {r : ClosureRecord} (h : s.TestedAfter r) (i : Nat) :
    removeRecord i r s = autocloseTest (servePendingSlide (s.vacated i)) := by
  refine if_pos ?_
  rcases h with h | ⟨hown, hkind⟩
  · rw [h, Bool.true_or]
  · rw [hown, hkind]
    exact Bool.or_true _

theorem removeRecord_of_untested {r : ClosureRecord} (h : ¬ s.TestedAfter r) (i : Nat) :
    removeRecord i r s = servePendingSlide (s.vacated i) := by
  refine if_neg fun hcond => h ?_
  simpa [State.TestedAfter] using hcond

theorem Frame.slidePending_eq {qs : List Part} (h : Frame qs s t) (hd : Part.apart [.slidePending] qs = true) :
    t.register.slidePending = s.register.slidePending := (h.keeps hd (p := .slidePending) (by simp)).symm

theorem slidePending_vacated (s : State) (i : Nat) : (s.vacated i).register.slidePending = s.register.slidePending :=
  (frame_vacated s i).slidePending_eq rfl

/-- The removal without a pending slide: the vacated register, and the autoclose test where it is made. -/
theorem removeRecord_unpending {i : Nat} {r : ClosureRecord} (hr : s.recordAt i = some r) (hstate : r.state = .lifted)
    (hpending : s.register.slidePending = false) :
    (¬ (s.TestedAfter r ∧ s.Called) → removeRecord i r s = s.vacated i)
      ∧ (s.TestedAfter r ∧ s.Called → removeRecord i r s = autocloseTest (s.vacated i)) := by
  have hserve : servePendingSlide (s.vacated i) = s.vacated i :=
    if_neg (by rw [slidePending_vacated, hpending]; exact nofun)
  refine ⟨fun hnot => ?_, fun hboth => ?_⟩
  · by_cases ht : s.TestedAfter r
    · rw [removeRecord_of_tested ht, hserve,
        autocloseTest_eq_self fun hcalled => hnot ⟨ht, (called_vacated hr hstate).mp hcalled⟩]
    · rw [removeRecord_of_untested ht, hserve]
  · rw [removeRecord_of_tested hboth.1, hserve]

theorem full_vacated (s : State) (i : Nat) : (s.vacated i).register.full = false := full_setFull false _

/-- R107, R116: the removal without a pending slide leaves REGISTER-FULL clear and no slide pending. -/
theorem flags_removeRecord_unpending {i : Nat} {r : ClosureRecord} (hr : s.recordAt i = some r) (hstate : r.state = .lifted)
    (hpending : s.register.slidePending = false) :
    (removeRecord i r s).register.full = false ∧ (removeRecord i r s).register.slidePending = false := by
  obtain ⟨hplain, htested⟩ := removeRecord_unpending hr hstate hpending
  have hclear := (slidePending_vacated s i).trans hpending
  by_cases h : s.TestedAfter r ∧ s.Called
  · rw [htested h, full_autocloseTest (freeIndex_vacated hr)]
    exact ⟨full_vacated s i, ((frame_autocloseTest_parts _).slidePending_eq rfl).trans hclear⟩
  · rw [hplain h]
    exact ⟨full_vacated s i, hclear⟩

/-- R49, R112: where the test holds, the record it originates is beside the removal all that changes in the register. -/
theorem slots_removeRecord_called {i j : Nat} {r : ClosureRecord} (hr : s.recordAt i = some r) (hstate : r.state = .lifted)
    (hpending : s.register.slidePending = false) (hcalled : s.TestedAfter r ∧ s.Called)
    (hj : freeIndex 0 (s.register.slots.set i none) = some j) (hlead : 0 < s.config.announceLead) (hlt : j < 16) :
    (removeRecord i r s).register.slots = (s.register.slots.set i none).set j (some (if s.hazard.computed = 5
      then { (s.vacated i).autocloseRecord with state := .inForce, lead := 0, revision := 1#8 }
      else (s.vacated i).autocloseRecord)) := by
  obtain ⟨-, htested⟩ := removeRecord_unpending hr hstate hpending
  have hslots := slots_vacated hr
  have hconfig := (frame_vacated s i).config_eq rfl
  rw [htested hcalled, slots_autocloseTest_placed ((called_vacated hr hstate).mpr hcalled.2) (by rw [hslots]; exact hj) hlt
    (by rw [hconfig]; exact hlead), hslots, (frame_vacated s i).computed_eq rfl]

/-- The vacated register with the SLIDE event that waited taken up. -/
def State.reopened (s : State) (i : Nat) : State :=
  (s.vacated i).withRegister { (s.vacated i).register with slidePending := false }

theorem frame_reopened (s : State) (i : Nat) :
    Frame (.slidePending :: .registerFull :: .slots :: Part.ofGates) s (s.reopened i) :=
  ((frame_vacated s i).widen rfl).trans ((frame_slidePending _ false).widen rfl)

theorem recordAt_reopened {i : Nat} {r : ClosureRecord} (h : s.recordAt i = some r) (k : Nat) :
    (s.reopened i).recordAt k = if k = i then none else s.recordAt k := recordAt_vacated h k

theorem freeIndex_reopened {i : Nat} {r : ClosureRecord} (h : s.recordAt i = some r) :
    freeIndex 0 (s.reopened i).register.slots ≠ none := freeIndex_vacated h

theorem servePendingSlide_vacated (h : s.register.slidePending = true) (i : Nat) :
    servePendingSlide (s.vacated i) = carrySlide (s.reopened i) := if_pos ((slidePending_vacated s i).trans h)

/-- The conditions of the autoclose test, where they hold after the slide was carried out, held before the removal. -/
theorem called_of_carrySlide {i : Nat} {r : ClosureRecord} (hr : s.recordAt i = some r) (hstate : r.state = .lifted)
    (h : (carrySlide (s.reopened i)).Called) : s.Called := by
  obtain ⟨hframe, -, hothers⟩ := carrySlide_stands (freeIndex_reopened hr)
  have hboth : Frame (.slidePending :: .ownSerial :: .registerFull :: .slots :: Part.ofGates) s (carrySlide (s.reopened i)) :=
    ((frame_reopened s i).widen rfl).trans (hframe.widen rfl)
  obtain ⟨-, -, hlifted, -⟩ := id h
  have hrecords : ∀ j x, s.recordAt j = some x → x.own = true → x.kind = .avalanche → x.state = .lifted :=
    fun j x hx hown hkind => by
      by_cases hj : j = i
      · subst hj
        rw [hr] at hx
        cases hx
        exact hstate
      · have hkept : (s.reopened i).recordAt j = some x := by rw [recordAt_reopened hr, if_neg hj, hx]
        exact hlifted j x (hothers j x hkept (by rw [hkind]; exact nofun)) hown hkind
  exact (called_iff_of_frame hboth rfl ⟨fun _ => hrecords, fun _ => hlifted⟩).mp h

/-- R111: the removal with a slide pending: an own SLIDE record stands, none waits, and the autoclose test may follow. -/
theorem removeRecord_pending {i : Nat} {r : ClosureRecord} (hr : s.recordAt i = some r) (hstate : r.state = .lifted)
    (hpending : s.register.slidePending = true) :
    (removeRecord i r s).register.slidePending = false ∧ (removeRecord i r s).standingSlide.isSome = true
      ∧ (¬ (s.TestedAfter r ∧ s.Called) → (removeRecord i r s).register.full = false) := by
  obtain ⟨hframe, ⟨k, q, hq, hown, hkind, hforce⟩, -⟩ := carrySlide_stands (freeIndex_reopened hr)
  have hclear : (carrySlide (s.reopened i)).register.slidePending = false := hframe.slidePending_eq rfl
  have hfull : (carrySlide (s.reopened i)).register.full = false := (hframe.full_eq rfl).trans (full_vacated s i)
  have hstands : q.state ≠ .lifted := by rw [hforce]; exact nofun
  by_cases ht : s.TestedAfter r
  · rw [removeRecord_of_tested ht, servePendingSlide_vacated hpending]
    have hkept := autocloseTest_keeps_own hq hown (by rw [hforce]; exact nofun)
    refine ⟨((frame_autocloseTest_parts _).slidePending_eq rfl).trans hclear, standingSlide_isSome hkept hown hkind hstands,
      fun hnot => ?_⟩
    rw [autocloseTest_eq_self fun hcalled => hnot ⟨ht, called_of_carrySlide hr hstate hcalled⟩]
    exact hfull
  · rw [removeRecord_of_untested ht, servePendingSlide_vacated hpending]
    exact ⟨hclear, standingSlide_isSome hq hown hkind hstands, fun _ => hfull⟩

/-- Settles O45: without a pending slide the register loses the record and may gain an autoclose one; with one the slide is
carried out first. -/
theorem liftedRecordIsRemoved : Obligations.LiftedRecordIsRemoved := by
  intro s i r hphase hr hstate hzero
  have hout := outcome_liftedDisplayExpiry hphase hr hstate hzero
  refine ⟨fun hpending => completes_iff.mpr ?_, fun hpending => completes_iff.mpr ?_⟩
  · rw [hout]
    obtain ⟨hfull, hclear⟩ := flags_removeRecord_unpending hr hstate hpending
    refine ⟨hfull, hclear, fun hnot => ?_, fun hcalled j hj hlead hlt => ?_⟩
    · rw [(removeRecord_unpending hr hstate hpending).1 hnot]
      obtain ⟨hclosure, halert⟩ := queue_vacated hr
      exact ⟨slots_vacated hr, hclosure, halert, undisplayed_vacated hr⟩
    · have hframe := frame_vacated s i
      refine ⟨_, slots_removeRecord_called hr hstate hpending hcalled hj hlead hlt, ?_⟩
      have hlead' : (s.vacated i).autocloseRecord.lead = s.config.announceLead :=
        congrArg (fun c => c.announceLead) (hframe.config_eq rfl)
      have horigin : (s.vacated i).autocloseRecord.id.origin = s.startup.address := (hframe.settings_eq (by decide)).2.2
      split
      · next h5 => exact ⟨rfl, rfl, horigin, fun hne => absurd h5 hne, fun _ => ⟨rfl, rfl, rfl⟩⟩
      · next h5 => exact ⟨rfl, rfl, horigin, fun _ => ⟨rfl, hlead', rfl⟩, fun he => absurd he h5⟩
  · rw [hout]
    exact removeRecord_pending hr hstate hpending

end Sys2Proof.Machine
end

section
/-! PROOF. The slide contact, its confirmation and re-arming, and the serial of a new own record (O47). -/

namespace Sys2Proof.Machine

open Sys2Proof

variable {s t u : State}

/-- R19: what a change of the contact makes of the supervisor. -/
def Slide.afterChange (x : Slide) (closed : Bool) : Slide :=
  match x.state, closed with
  | .armed, true => { x with state := .confirming, confirm := some 0 }
  | .confirming, false => { x with state := .armed, confirm := none }
  | .tripped, false => { x with rearm := some 0 }
  | .tripped, true => { x with rearm := none }
  | _, _ => x

/-- R19: the pin's change with what the supervisor makes of it. -/
theorem slide_afterChange {v : State} {x : Slide} (h : v.slide = x) (closed : Bool) :
    (match x.state, closed with
      | .armed, true => v.withSlide { x with state := .confirming, confirm := some 0 }
      | .confirming, false => v.withSlide { x with state := .armed, confirm := none }
      | .tripped, false => v.withSlide { x with rearm := some 0 }
      | .tripped, true => v.withSlide { x with rearm := none }
      | _, _ => v) = v.withSlide (x.afterChange closed) := by
  have hself : v = v.withSlide x := by rw [← h]; rfl
  obtain ⟨state, confirm, rearm, deferred⟩ := x
  cases state with
  | armed =>
    cases closed with
    | false => exact hself
    | true => rfl
  | confirming =>
    cases closed with
    | false => rfl
    | true => exact hself
  | tripped => cases closed <;> rfl

theorem outcome_slideContactChange (hphase : s.phase.operating = true) {closed : Bool} (h : s.pins.contact ≠ closed) :
    outcome (.slideContactChange closed) s
      = (s.withPins { s.pins with contact := closed }).withSlide (s.slide.afterChange closed) := by
  have hcond : (s.phase.operating && decide (s.pins.contact ≠ closed)) = true := by
    rw [hphase, decide_eq_true h]
    rfl
  exact (if_pos hcond).trans (slide_afterChange (v := s.withPins { s.pins with contact := closed }) rfl closed)

/-- The state that a confirmed closure leaves before its SLIDE event is delivered. -/
def State.tripped (s : State) : State := s.withSlide { s.slide with state := .tripped, confirm := none, rearm := none }

theorem outcome_slideConfirmationExpiry (hphase : s.phase.operating = true) (hstate : s.slide.state = .confirming)
    (hclosed : s.pins.contact = true) (htime : 20000 ≤ s.slide.confirm.getD 0) :
    outcome .slideConfirmationExpiry s = deliverSlide s.tripped := by
  have hcond : (s.phase.operating && decide (s.slide.state = .confirming ∧ 20000 ≤ s.slide.confirm.getD 0) && s.pins.contact)
      = true := by
    rw [hphase, hclosed, decide_eq_true ⟨hstate, htime⟩]
    rfl
  exact if_pos hcond

theorem deliverSlide_serving (h : s.phase.serving = true) : deliverSlide s = slideEvent s :=
  if_neg fun hj => by rw [hj] at h; cases h

/-- R111: an event while one is pending is merged with it. -/
theorem slideEvent_pending (h : s.register.slidePending = true) : slideEvent s = s := if_pos h

theorem slideEvent_unpending (h : s.register.slidePending = false) : slideEvent s = carrySlide s :=
  if_neg (by rw [h]; exact nofun)

/-- The own SLIDE record that stands is the one at the lowest index. -/
theorem standingSlide_eq {i : Nat} {r : ClosureRecord} (hr : s.recordAt i = some r) (hown : r.own = true)
    (hkind : r.kind = .slide) (hstate : r.state ≠ .lifted)
    (hlowest : ∀ j q, s.recordAt j = some q → q.own = true → q.kind = .slide → q.state ≠ .lifted → i ≤ j) :
    s.standingSlide = some (i, r) := by
  obtain ⟨p, hp⟩ := Option.isSome_iff_exists.mp (standingSlide_isSome hr hown hkind hstate)
  obtain ⟨j, q⟩ := p
  obtain ⟨hq, hqo, hqk, hqs⟩ := standingSlide_spec hp
  have hle := hlowest j q hq hqo hqk hqs
  have hfirst : j ≤ i := by
    by_contra hlt
    obtain ⟨as, bs, hsplit, hnone⟩ := (List.find?_eq_some_iff_append.mp hp).2
    have hmem : (i, r) ∈ as ++ (j, q) :: bs := hsplit ▸ mem_records.mpr hr
    have hsorted := records_sorted s
    rw [hsplit, List.pairwise_append] at hsorted
    obtain ⟨-, hafter, -⟩ := hsorted
    rcases List.mem_append.mp hmem with hm | hm
    · have := hnone (i, r) hm
      simp [hown, hkind, hstate] at this
    · rcases List.mem_cons.mp hm with he | hm
      · exact hlt (congrArg Prod.fst he).ge
      · have := (List.pairwise_cons.mp hafter).1 (i, r) hm
        exact hlt (Nat.le_of_lt this)
  obtain rfl : j = i := Nat.le_antisymm hfirst hle
  rw [hr] at hq
  cases hq
  exact hp

theorem carrySlide_standing {i : Nat} {r : ClosureRecord} (h : s.standingSlide = some (i, r)) :
    carrySlide s = present (.alert r.id)
      (storeRecord i { r with revision := r.revision + 1, state := .inForce, lead := 0 } s) := by
  unfold carrySlide
  rw [h]

/-- R111: a SLIDE event without room waits. -/
theorem carrySlide_full (hnone : s.standingSlide = none) (hfree : freeIndex 0 s.register.slots = none)
    (hevict : s.evictIndex (s.ownRecord .slide s.config.slideHalf .inForce 0) = none) :
    carrySlide s = (setFull true s).withRegister { (setFull true s).register with slidePending := true } := by
  unfold carrySlide
  rw [hnone]
  dsimp only
  rw [admitRecord_of_full hfree hevict]

/-- An ALERT presented after no more than a STATUS joins a queue that has room for both. -/
theorem mem_present_alert (hop : t.phase.operating = true) (hr : Reported s t) (hlength : s.line.queue.length ≤ 9)
    (id : RecId) : Bulletin.alert id ∈ (present (.alert id) t).line.queue := by
  have hroom : t.line.queue.length < 12 := by
    have hle := length_enqueue_le .status s.line.queue
    rcases hr with hq | hq <;> rw [hq] <;> omega
  rw [queue_present_operating _ hop]
  exact mem_enqueue_of_room hroom (.inl rfl)

/-- R116: no ALERT joins the queue with a change of REGISTER-FULL. -/
theorem mem_alert_setFull {id : RecId} {b : Bool} (h : Bulletin.alert id ∈ (setFull b s).line.queue) :
    Bulletin.alert id ∈ s.line.queue := by
  rcases reported_setFull b s with hq | hq <;> rw [hq] at h
  · exact h
  · exact (mem_of_mem_enqueue h).resolve_left nofun

theorem Frame.slide_eq {qs : List Part} (h : Frame qs s t) (hd : Part.apart [.slide] qs = true) : t.slide = s.slide :=
  (h.keeps hd (p := .slide) (by simp)).symm

/-- R19: five seconds with the contact open re-arm the supervisor. -/
theorem exec_rearmTimerExpiry (hphase : s.phase.operating = true) (hstate : s.slide.state = .tripped)
    (hopen : s.pins.contact = false) (htime : 500000 ≤ s.slide.rearm.getD 0) :
    exec .rearmTimerExpiry s = .next (s.withSlide { s.slide with state := .armed, rearm := none }) := by
  have hcond : (s.phase.operating && decide (s.slide.state = .tripped ∧ 5 * ticksPerSecond ≤ s.slide.rearm.getD 0)
      && !s.pins.contact) = true := by
    rw [hphase, hopen, decide_eq_true ⟨hstate, htime⟩]
    rfl
  exact congrArg _ (if_pos hcond)

/-- Settles O47: the contact's table, then the event by the phase, the standing record and the room; the serial is sought
among the sixteen places. -/
theorem slideContactIsConfirmedAndRearmed : Obligations.SlideContactIsConfirmedAndRearmed := by
  refine ⟨fun s hphase => ⟨fun closed _ hne => completes_iff.mpr ?_,
    exec_rearmTimerExpiry hphase, fun hstate hclosed htime => ?_⟩, fun s hlength => ?_⟩
  · rw [outcome_slideContactChange hphase hne]
    exact ⟨rfl, rfl⟩
  · have hout := outcome_slideConfirmationExpiry hphase hstate hclosed htime
    have hevent : s.phase.serving = true → outcome .slideConfirmationExpiry s = slideEvent s.tripped := fun hserving =>
      hout.trans (deliverSlide_serving hserving)
    obtain ⟨hnext, hrecord⟩ := ownRecord_congr (s := s) (t := s.tripped) rfl rfl rfl rfl
    refine ⟨fun hjoining => completes_iff.mpr ?_, fun hserving hpending hnone i hfree => completes_iff.mpr ?_,
      fun hserving hpending i r hr hown hkind hstand hlowest => completes_iff.mpr ?_,
      fun hserving hpending hnone hfree hevict => completes_iff.mpr ?_,
      fun hserving hpending => completes_iff.mpr ?_⟩
    · rw [hout, show deliverSlide s.tripped = _ from if_pos hjoining]
      exact ⟨rfl, rfl, rfl⟩
    · obtain ⟨v, hcarry, hframe, hreported, hplaced, hserial⟩ := carrySlide_placed (s := s.tripped) hnone hfree
      have hpresented := frame_present (.alert (s.tripped.ownId s.tripped.nextSerial)) v
      rw [hevent hserving, slideEvent_unpending (s := s.tripped) hpending, hcarry]
      refine ⟨?_, ?_, ?_, fun hroom => ?_⟩
      · rw [hpresented.slide_eq rfl, hframe.slide_eq rfl]
        rfl
      · rw [recordAt_congr (hpresented.slots_eq (by decide)), hplaced, ← hrecord]
        rfl
      · rw [hpresented.ownSerial_eq rfl, hserial, hnext]
      · rw [← hnext]
        exact mem_present_alert (operating_of_eq (hframe.phase_eq rfl) hphase) hreported hroom _
    · have hstanding := standingSlide_eq (s := s.tripped) hr hown hkind hstand hlowest
      have hframe := frame_storeRecord i { r with revision := r.revision + 1, state := .inForce, lead := 0 } s.tripped
      have hpresented := frame_present (.alert r.id)
        (storeRecord i { r with revision := r.revision + 1, state := .inForce, lead := 0 } s.tripped)
      rw [hevent hserving, slideEvent_unpending (s := s.tripped) hpending, carrySlide_standing hstanding]
      refine ⟨?_, ?_, ?_, ?_, fun hroom => ?_⟩
      · rw [hpresented.slide_eq rfl, hframe.slide_eq rfl]
        rfl
      · rw [hpresented.slots_eq (by decide), slots_storeRecord]
        rfl
      · rw [hpresented.ownSerial_eq rfl, hframe.ownSerial_eq rfl]
        rfl
      · rw [hpresented.slidePending_eq rfl, hframe.slidePending_eq rfl]
        exact hpending
      · exact mem_present_alert (operating_of_eq (hframe.phase_eq rfl) hphase) (reported_storeRecord _ _ _) hroom _
    · have hevict' : s.tripped.evictIndex (s.tripped.ownRecord .slide s.tripped.config.slideHalf .inForce 0) = none := by
        rw [hrecord]
        exact hevict
      rw [hevent hserving, slideEvent_unpending (s := s.tripped) hpending, carrySlide_full (s := s.tripped) hnone hfree hevict']
      have hframe := frame_setFull_parts true s.tripped
      refine ⟨?_, ?_, ?_, fun id hid => mem_alert_setFull (s := s.tripped) hid⟩
      · show (setFull true s.tripped).slide.state = _
        rw [hframe.slide_eq rfl]
        rfl
      · show { (setFull true s.tripped).register with slidePending := true } = _
        rw [register_setFull]
        rfl
      · exact hframe.ownSerial_eq rfl
    · rw [hevent hserving, slideEvent_pending (s := s.tripped) hpending]
      exact ⟨rfl, rfl, rfl⟩
  · obtain ⟨k, hk, heq, hpass, hstop⟩ := nextSerial_spec hlength.le
    refine ⟨k, hk, heq, fun ⟨i, r, hr, hid⟩ => ?_, fun n hn => findRecord_isSome_iff.mp (hpass n hn), rfl⟩
    have hsome := findRecord_isSome_iff.mpr ⟨i, r, hr, hid⟩
    rw [show s.findRecord ⟨s.startup.address, s.retained.ownSerial + BitVec.ofNat 8 k⟩ = none from hstop] at hsome
    cases hsome

end Sys2Proof.Machine
end

section
/-! PROOF. The candidates of a sign in their order, and the arbiter's choice (O48). -/

namespace Sys2Proof.Machine

open Sys2Proof

variable {s t u : State}

/-! ## The order of candidates (R128) -/

/-- R128: the tie of candidates of one class and distance, by register index or by channel number. -/
def Candidate.Tie (a b : Candidate) : Prop :=
  match a.source, b.source with
  | .record i _, .record j _ => i < j
  | .alert x, .alert y => Chan.order.idxOf x < Chan.order.idxOf y
  | _, _ => False

/-- R128: class, then distance, then the tie. -/
def Candidate.Precedes (a b : Candidate) : Prop :=
  a.cls < b.cls ∨ (a.cls = b.cls ∧ (a.distance < b.distance ∨ (a.distance = b.distance ∧ a.Tie b)))

/-- Two candidates that rank alike stand in the order of their tie. -/
def Candidate.Settled (a b : Candidate) : Prop := a.cls = b.cls → a.distance = b.distance → a.Tie b

theorem before_iff (a b : Candidate) : a.before b = true ↔ a.cls < b.cls ∨ (a.cls = b.cls ∧ a.distance < b.distance) :=
  decide_eq_true_iff

theorem precedes_of_before {a b c : Candidate} (h : a.before b = true) (hbc : b.Precedes c) : a.Precedes c := by
  rw [before_iff] at h
  unfold Candidate.Precedes at hbc ⊢
  omega

theorem precedes_of_not_before {a b : Candidate} (h : ¬ a.before b = true) (hs : b.Settled a) : b.Precedes a := by
  rw [before_iff] at h
  unfold Candidate.Precedes
  by_cases hc : b.cls = a.cls
  · by_cases hd : b.distance = a.distance
    · exact .inr ⟨hc, .inr ⟨hd, hs hc hd⟩⟩
    · exact .inr ⟨hc, .inl (by omega)⟩
  · exact .inl (by omega)

theorem insertCandidate_perm (a : Candidate) : ∀ l, (insertCandidate a l).Perm (a :: l)
  | [] => List.Perm.refl _
  | b :: rest => by
    unfold insertCandidate
    split
    · exact List.Perm.refl _
    · exact ((insertCandidate_perm a rest).cons b).trans (List.Perm.swap a b rest)

theorem insertCandidate_sorted {a : Candidate} : ∀ {l : List Candidate}, l.Pairwise Candidate.Precedes →
    (∀ b ∈ l, b.Settled a) → (insertCandidate a l).Pairwise Candidate.Precedes
  | [], _, _ => List.pairwise_singleton _ _
  | b :: rest, hl, ha => by
    obtain ⟨hb, hrest⟩ := List.pairwise_cons.mp hl
    unfold insertCandidate
    split
    · next hbefore =>
      refine List.pairwise_cons.mpr ⟨fun c hc => ?_, hl⟩
      rcases List.mem_cons.mp hc with rfl | hc
      · rw [before_iff] at hbefore
        exact hbefore.imp_right fun h => ⟨h.1, .inl h.2⟩
      · exact precedes_of_before hbefore (hb c hc)
    · next hbefore =>
      refine List.pairwise_cons.mpr ⟨fun c hc => ?_,
        insertCandidate_sorted hrest fun c hc => ha c (List.mem_cons_of_mem _ hc)⟩
      rcases List.mem_cons.mp ((insertCandidate_perm a rest).mem_iff.mp hc) with rfl | hc
      · exact precedes_of_not_before hbefore (ha b List.mem_cons_self)
      · exact hb c hc

theorem foldl_insertCandidate_perm : ∀ (cs acc : List Candidate),
    (cs.foldl (fun acc c => insertCandidate c acc) acc).Perm (cs ++ acc)
  | [], acc => List.Perm.refl _
  | c :: cs, acc => by
    refine (foldl_insertCandidate_perm cs _).trans ?_
    exact ((insertCandidate_perm c acc).append_left cs).trans List.perm_middle

theorem mem_orderCandidates {x : Candidate} {cs : List Candidate} : x ∈ orderCandidates cs ↔ x ∈ cs := by
  have h := (foldl_insertCandidate_perm cs []).mem_iff (a := x)
  rw [List.append_nil] at h
  exact h

theorem foldl_insertCandidate_sorted : ∀ (cs acc : List Candidate), acc.Pairwise Candidate.Precedes →
    cs.Pairwise Candidate.Settled → (∀ b ∈ acc, ∀ c ∈ cs, b.Settled c) →
    (cs.foldl (fun acc c => insertCandidate c acc) acc).Pairwise Candidate.Precedes
  | [], _, hacc, _, _ => hacc
  | c :: cs, acc, hacc, hcs, hboth => by
    obtain ⟨hc, hcs⟩ := List.pairwise_cons.mp hcs
    refine foldl_insertCandidate_sorted cs _
      (insertCandidate_sorted hacc fun b hb => hboth b hb c List.mem_cons_self) hcs fun b hb d hd => ?_
    rcases List.mem_cons.mp ((insertCandidate_perm c acc).mem_iff.mp hb) with rfl | hb
    · exact hc d hd
    · exact hboth b hb d (List.mem_cons_of_mem _ hd)

/-- R128: candidates entered in the order of their ties come out in strict order. -/
theorem orderCandidates_sorted {cs : List Candidate} (h : cs.Pairwise Candidate.Settled) :
    (orderCandidates cs).Pairwise Candidate.Precedes :=
  foldl_insertCandidate_sorted cs [] List.Pairwise.nil h (by simp)

/-! ## The candidates (R126, R127) -/

theorem recordClass_eq_some_iff {r : ClosureRecord} {k : Nat} : recordClass r = some k ↔
    (r.state = .inForce ∧ k = (if r.kind = .slide then 1 else 2)) ∨ (r.state = .announced ∧ k = 3) := by
  unfold recordClass
  cases r.state with
  | announced => simp [eq_comm]
  | lifted => simp
  | inForce =>
    by_cases hk : r.kind = .slide
    · simp [hk, eq_comm]
    · simp [hk, eq_comm]

theorem recordDistance_eq_some_iff {c look d : Nat} {role : SignRole} {r : ClosureRecord} :
    recordDistance c role look r = some d ↔
      (role = .eastApproach ∧ c ≤ r.scopeHi ∧ r.scopeLo ≤ c + look ∧ d = r.scopeLo - c)
        ∨ (role = .westApproach ∧ r.scopeLo ≤ c ∧ c ≤ r.scopeHi + look ∧ d = c - r.scopeHi)
        ∨ (role = .panel ∧ r.scopeLo ≤ c ∧ c ≤ r.scopeHi ∧ d = 0) := by
  have hif : ∀ (p : Prop) [Decidable p] (x : Nat), (if decide p = true then some x else none) = some d ↔ p ∧ d = x :=
    fun p _ x => by by_cases hp : p <;> simp [hp, eq_comm (b := d)]
  cases role with
  | notFitted => simp [recordDistance]
  | eastApproach => exact (hif _ _).trans (by simp [ClosureRecord.distanceEast, and_assoc])
  | westApproach => exact (hif _ _).trans (by simp [ClosureRecord.distanceWest, and_assoc])
  | panel => exact (hif _ _).trans (by simp [and_assoc])

/-- R126: the candidate of a record, if it is one. -/
def recordCandidate (c : Nat) (role : SignRole) (look : Nat) (p : Nat × ClosureRecord) : Option Candidate :=
  match recordClass p.2, recordDistance c role look p.2 with
  | some k, some d => some ⟨k, d, .record p.1 p.2.id⟩
  | _, _ => none

theorem recordCandidate_eq_some_iff {c look : Nat} {role : SignRole} {p : Nat × ClosureRecord} {x : Candidate} :
    recordCandidate c role look p = some x ↔ recordClass p.2 = some x.cls ∧ recordDistance c role look p.2 = some x.distance
      ∧ x.source = .record p.1 p.2.id := by
  unfold recordCandidate
  obtain ⟨k, d, src⟩ := x
  cases hk : recordClass p.2 with
  | none => simp
  | some a =>
    cases hd : recordDistance c role look p.2 with
    | none => simp
    | some b => simp [eq_comm]

theorem mem_recordCandidates {c look : Nat} {role : SignRole} {x : Candidate} : x ∈ recordCandidates c role look s.records ↔
    ∃ i r, s.recordAt i = some r ∧ recordClass r = some x.cls ∧ recordDistance c role look r = some x.distance
      ∧ x.source = .record i r.id := by
  have hmap : recordCandidates c role look s.records = s.records.filterMap (recordCandidate c role look) := rfl
  rw [hmap, List.mem_filterMap]
  constructor
  · rintro ⟨⟨i, r⟩, hmem, hx⟩
    exact ⟨i, r, mem_records.mp hmem, recordCandidate_eq_some_iff.mp hx⟩
  · rintro ⟨i, r, hr, hx⟩
    exact ⟨(i, r), mem_records.mpr hr, recordCandidate_eq_some_iff.mpr hx⟩

theorem mem_chanOrder (c : Chan) : c ∈ Chan.order := by cases c <;> decide

theorem mem_ownCandidates {role : SignRole} {x : Candidate} : x ∈ s.ownCandidates role ↔
    (x = ⟨4, 0, .hazard⟩ ∧ 4 ≤ s.hazard.effective)
      ∨ (∃ ch, x = ⟨5, 0, .alert ch⟩ ∧ (s.channels.get ch).alert = true ∧ (s.channels.get ch).role ≠ .none)
      ∨ (x = ⟨6, 0, .hazard⟩ ∧ s.hazard.effective = 3)
      ∨ (x = ⟨7, 0, .data⟩ ∧ (s.hazard.degraded = true ∨ s.hazard.neighbourSilent = true))
      ∨ (x = ⟨8, 0, .weather⟩ ∧ role = .panel) := by
  have hone : ∀ (p : Prop) [Decidable p] (y : Candidate), x ∈ (if p then [y] else []) ↔ x = y ∧ p := fun p _ y => by
    split <;> simp_all
  have halerts : x ∈ (Chan.order.filter (fun c => (s.channels.get c).alert && decide ((s.channels.get c).role ≠ .none))).map
      (fun c => (⟨5, 0, .alert c⟩ : Candidate))
      ↔ ∃ ch, x = ⟨5, 0, .alert ch⟩ ∧ (s.channels.get ch).alert = true ∧ (s.channels.get ch).role ≠ .none := by
    rw [List.mem_map]
    refine exists_congr fun ch => ?_
    rw [List.mem_filter, Bool.and_eq_true_iff, decide_eq_true_iff, and_iff_right (mem_chanOrder ch), and_comm, eq_comm]
  unfold State.ownCandidates
  rw [List.mem_append, List.mem_append, List.mem_append, List.mem_append, hone, hone, hone, hone, halerts,
    Bool.or_eq_true_iff, or_assoc, or_assoc, or_assoc]

theorem recordClass_le {r : ClosureRecord} {k : Nat} (h : recordClass r = some k) : k ≤ 3 := by
  rcases recordClass_eq_some_iff.mp h with ⟨-, hk⟩ | ⟨-, hk⟩
  · rw [hk]
    split <;> omega
  · omega

/-- Record candidates stand in the order of their indices. -/
theorem recordCandidates_settled (c : Nat) (role : SignRole) (look : Nat) (s : State) :
    (recordCandidates c role look s.records).Pairwise Candidate.Settled := by
  refine List.Pairwise.filterMap (recordCandidate c role look) (fun p q hpq a ha b hb => ?_) (records_sorted s)
  obtain ⟨-, -, hsa⟩ := recordCandidate_eq_some_iff.mp ha
  obtain ⟨-, -, hsb⟩ := recordCandidate_eq_some_iff.mp hb
  intro _ _
  unfold Candidate.Tie
  rw [hsa, hsb]
  exact hpq

theorem chanOrder_sorted : Chan.order.Pairwise (fun a b => Chan.order.idxOf a < Chan.order.idxOf b) := by decide

/-- Candidates of different classes are settled. -/
theorem settled_of_cls {l m : List Candidate} {a b : Nat} (hl : ∀ x ∈ l, x.cls ≤ a) (hm : ∀ y ∈ m, b ≤ y.cls) (h : a < b) :
    ∀ x ∈ l, ∀ y ∈ m, x.Settled y := fun x hx y hy hc => by
  have := hl x hx
  have := hm y hy
  omega

theorem pairwise_guarded (p : Prop) [Decidable p] (y : Candidate) :
    (if p then [y] else []).Pairwise Candidate.Settled := by
  split
  · exact List.pairwise_singleton _ _
  · exact List.Pairwise.nil

theorem cls_of_mem_guarded {p : Prop} [Decidable p] {x y : Candidate} (h : x ∈ (if p then [y] else [])) : x.cls = y.cls := by
  split at h
  · rw [List.mem_singleton.mp h]
  · cases h

/-- R127: the station's own candidates come in the order of their classes, its alerts in channel order. -/
theorem ownCandidates_settled (role : SignRole) (s : State) : (s.ownCandidates role).Pairwise Candidate.Settled := by
  obtain ⟨alerts, halerts⟩ : ∃ l, l = (Chan.order.filter (fun c => (s.channels.get c).alert
      && decide ((s.channels.get c).role ≠ .none))).map (fun c => (⟨5, 0, .alert c⟩ : Candidate)) := ⟨_, rfl⟩
  have hcls : ∀ x ∈ alerts, x.cls = 5 := fun x hx => by
    rw [halerts] at hx
    obtain ⟨c, -, rfl⟩ := List.mem_map.mp hx
    rfl
  have hsettled : alerts.Pairwise Candidate.Settled := by
    rw [halerts]
    exact List.Pairwise.map _ (fun a b hab _ _ => hab) (chanOrder_sorted.filter _)
  unfold State.ownCandidates
  rw [← halerts]
  refine List.pairwise_append.mpr ⟨List.pairwise_append.mpr ⟨List.pairwise_append.mpr ⟨List.pairwise_append.mpr
    ⟨pairwise_guarded _ _, hsettled, ?_⟩, pairwise_guarded _ _, ?_⟩, pairwise_guarded _ _, ?_⟩, pairwise_guarded _ _, ?_⟩
  · exact settled_of_cls (a := 4) (b := 5) (fun x hx => (cls_of_mem_guarded hx).le) (fun y hy => (hcls y hy).ge) (by decide)
  · refine settled_of_cls (a := 5) (b := 6) (fun x hx => ?_) (fun y hy => (cls_of_mem_guarded hy).ge) (by decide)
    rcases List.mem_append.mp hx with hx | hx
    · exact (cls_of_mem_guarded hx).le.trans (by decide)
    · exact (hcls x hx).le
  · refine settled_of_cls (a := 6) (b := 7) (fun x hx => ?_) (fun y hy => (cls_of_mem_guarded hy).ge) (by decide)
    rcases List.mem_append.mp hx with hx | hx
    · rcases List.mem_append.mp hx with hx | hx
      · exact (cls_of_mem_guarded hx).le.trans (by decide)
      · exact (hcls x hx).le.trans (by decide)
    · exact (cls_of_mem_guarded hx).le
  · refine settled_of_cls (a := 7) (b := 8) (fun x hx => ?_) (fun y hy => (cls_of_mem_guarded hy).ge) (by decide)
    rcases List.mem_append.mp hx with hx | hx
    · rcases List.mem_append.mp hx with hx | hx
      · rcases List.mem_append.mp hx with hx | hx
        · exact (cls_of_mem_guarded hx).le.trans (by decide)
        · exact (hcls x hx).le.trans (by decide)
      · exact (cls_of_mem_guarded hx).le.trans (by decide)
    · exact (cls_of_mem_guarded hx).le

theorem four_le_ownCandidates {role : SignRole} {x : Candidate} (h : x ∈ s.ownCandidates role) : 4 ≤ x.cls := by
  rcases mem_ownCandidates.mp h with ⟨rfl, -⟩ | ⟨ch, rfl, -⟩ | ⟨rfl, -⟩ | ⟨rfl, -⟩ | ⟨rfl, -⟩
  all_goals simp

/-- R128: the candidates of a sign stand in strict order. -/
theorem candidates_sorted (s : State) (n : Sign) : (s.candidates n).Pairwise Candidate.Precedes := by
  refine orderCandidates_sorted (List.pairwise_append.mpr ⟨recordCandidates_settled _ _ _ s, ownCandidates_settled _ s, ?_⟩)
  refine settled_of_cls (a := 3) (b := 4) (fun x hx => ?_) (fun y hy => four_le_ownCandidates hy) (by decide)
  obtain ⟨i, r, -, hclass, -⟩ := mem_recordCandidates.mp hx
  exact recordClass_le hclass

/-! ## The arbiter (R151, R152) -/

theorem mem_turnOrder (n m : Sign) : n ∈ turnOrder m := by cases n <;> cases m <;> decide

theorem bestSign_eq_none {l : List Sign} (h : bestSign s l = none) : ∀ n ∈ l, s.eligible n = none := by
  induction l with
  | nil => exact nofun
  | cons m rest ih =>
    unfold bestSign at h
    cases hm : s.eligible m with
    | some x =>
      rw [hm] at h
      cases hb : bestSign s rest with
      | none => rw [hb] at h; cases h
      | some y =>
        rw [hb] at h
        dsimp only at h
        split at h <;> cases h
    | none =>
      rw [hm] at h
      intro n hn
      rcases List.mem_cons.mp hn with rfl | hn
      · exact hm
      · exact ih h n hn

/-- R151, R152: the sign chosen has the lowest class of the eligible ones, and is the first of that class. -/
theorem bestSign_least {l : List Sign} {m : Sign} {p : Bool} {ps : PageSet} (h : bestSign s l = some (m, p, ps)) :
    ∀ n ∈ l, ∀ q qs, s.eligible n = some (q, qs) →
      ps.cls ≤ qs.cls ∧ (qs.cls = ps.cls → l.idxOf m ≤ l.idxOf n) := by
  induction l generalizing m p ps with
  | nil => cases h
  | cons a rest ih =>
    intro n hn q qs hq
    have hchosen := bestSign_eligible h
    unfold bestSign at h
    have hself : (a :: rest).idxOf a = 0 := List.idxOf_cons_self
    have hlater : ∀ b, b ≠ a → (a :: rest).idxOf b = rest.idxOf b + 1 := fun b hb => List.idxOf_cons_ne _ hb.symm
    cases ha : s.eligible a with
    | none =>
      rw [ha] at h
      have hne : ∀ b x, s.eligible b = some x → b ≠ a := fun b x hb e => by rw [e, ha] at hb; cases hb
      have hna := hne n _ hq
      obtain ⟨hle, htie⟩ := ih h n ((List.mem_cons.mp hn).resolve_left hna) q qs hq
      rw [hlater m (hne m _ hchosen), hlater n hna]
      exact ⟨hle, fun e => Nat.succ_le_succ (htie e)⟩
    | some x =>
      obtain ⟨p0, ps0⟩ := x
      rw [ha] at h
      cases hb : bestSign s rest with
      | none =>
        rw [hb] at h
        cases h
        rcases List.mem_cons.mp hn with rfl | hn
        · rw [ha] at hq
          cases hq
          exact ⟨le_refl _, fun _ => le_refl _⟩
        · rw [bestSign_eq_none hb n hn] at hq
          cases hq
      | some y =>
        obtain ⟨m1, p1, ps1⟩ := y
        have hrest := ih hb
        rw [hb] at h
        dsimp only at h
        split at h <;> cases h
        · next hlt =>
          have hma : m ≠ a := fun e => by
            rw [e, ha] at hchosen
            cases hchosen
            omega
          by_cases hna : n = a
          · rw [hna, ha] at hq
            cases hq
            exact ⟨hlt.le, fun e => by omega⟩
          · obtain ⟨hle, htie⟩ := hrest n ((List.mem_cons.mp hn).resolve_left hna) q qs hq
            rw [hlater m hma, hlater n hna]
            exact ⟨hle, fun e => Nat.succ_le_succ (htie e)⟩
        · next hge =>
          rw [hself]
          refine ⟨?_, fun _ => Nat.zero_le _⟩
          by_cases hna : n = a
          · rw [hna, ha] at hq
            cases hq
            exact le_refl _
          · obtain ⟨hle, -⟩ := hrest n ((List.mem_cons.mp hn).resolve_left hna) q qs hq
            omega

/-- R151: a sign is eligible with its pending page set, or in FAULT for a probe that is due with its offered one. -/
theorem eligible_eq_some_iff {n : Sign} {p : Bool} {ps : PageSet} : s.eligible n = some (p, ps) ↔
    (p = false ∧ (s.health n = .untried ∨ s.health n = .ok) ∧ (s.link.signs.get n).waiting = some ps)
      ∨ (p = true ∧ s.health n = .fault ∧ (s.link.signs.get n).probe = .due ∧ (s.signs.get n).offered = some ps) := by
  have hmap : ∀ (o : Option PageSet) (b : Bool), o.map (fun x => (b, x)) = some (p, ps) ↔ p = b ∧ o = some ps := fun o b => by
    cases o <;> simp [eq_comm (b := p)]
  unfold State.eligible State.health
  dsimp only
  cases (s.link.signs.get n).health with
  | notFitted => simp
  | untried => simp [hmap]
  | ok => simp [hmap]
  | fault =>
    by_cases hd : (s.link.signs.get n).probe = .due
    · simp [hd, hmap]
    · simp [hd]

theorem arbitrate_eq_self (h : s.phase.serving = false ∨ s.link.state ≠ .idle
    ∨ bestSign s (turnOrder s.link.lastServed) = none) : arbitrate s = s := by
  unfold arbitrate
  split
  · next hcond =>
    obtain ⟨hserving, hidle⟩ := Bool.and_eq_true_iff.mp hcond
    rcases h with h | h | h
    · rw [hserving] at h
      cases h
    · exact absurd (of_decide_eq_true hidle) h
    · rw [h]
  · rfl

/-- R142: on an idle link the transfer to the sign chosen begins. -/
theorem arbitrate_of_best {m : Sign} {p : Bool} {ps : PageSet} (h : bestSign s (turnOrder s.link.lastServed) = some (m, p, ps))
    (hserving : s.phase.serving = true) (hidle : s.link.state = .idle) : arbitrate s = beginTransfer s m p ps := by
  unfold arbitrate
  rw [hserving, hidle, h]
  rfl

theorem signLinks_set (x : PerSign SignLink) (n m : Sign) (k : SignLink) : (x.set n k).get m = if m = n then k else x.get m := by
  cases n <;> cases m <;> rfl

/-- Settles O48. -/
theorem bestContentGoesFirst : Obligations.BestContentGoesFirst := by
  intro s n
  refine ⟨fun _ x => ?_, candidates_sorted s n, fun m p ps h => ⟨bestSign_eligible h, fun q qs hq =>
    bestSign_least h n (mem_turnOrder n _) q qs hq⟩, fun h => bestSign_eq_none h n (mem_turnOrder n _), ⟨rfl, rfl, rfl⟩,
    fun p ps => eligible_eq_some_iff, arbitrate_eq_self, fun m p ps h hserving hidle => ?_⟩
  · show x ∈ orderCandidates _ ↔ _
    rw [mem_orderCandidates, List.mem_append, mem_recordCandidates, mem_ownCandidates]
    refine or_congr (exists_congr fun i => exists_congr fun r => and_congr_right fun _ => ?_) Iff.rfl
    rw [recordClass_eq_some_iff, recordDistance_eq_some_iff]
    tauto
  · rw [arbitrate_of_best h hserving hidle]
    refine ⟨rfl, rfl, ?_, fun k hk => ?_⟩
    · exact (signLinks_set _ m m _).trans (if_pos rfl)
    · exact (signLinks_set _ m k _).trans (if_neg hk)

end Sys2Proof.Machine
end

section
/-! PROOF. The pages built for a sign (R129 to R132). -/

namespace Sys2Proof.Machine

open Sys2Proof

variable {s t u : State}

/-! ## The template of a page (R132) -/

theorem chooseTemplate_own {own default : Byte} {refused : List Byte} (h0 : own ≠ 0#8) (hr : own ∉ refused) :
    chooseTemplate own default refused = own := by
  unfold chooseTemplate
  dsimp only
  rw [if_neg h0, if_pos ⟨h0, hr⟩]

theorem chooseTemplate_default {own default : Byte} {refused : List Byte} (h : own = 0#8 ∨ own ∈ refused)
    (hd : default ∉ refused) : chooseTemplate own default refused = default := by
  unfold chooseTemplate
  dsimp only
  rcases h with rfl | h
  · rw [if_pos rfl, if_neg hd]
    split <;> rfl
  · by_cases h0 : own = 0#8
    · rw [if_pos h0, if_neg hd]
      split <;> rfl
    · rw [if_neg h0, if_neg fun e => e.2 h, if_neg hd]

theorem chooseTemplate_none {own default : Byte} {refused : List Byte} (h : own = 0#8 ∨ own ∈ refused)
    (hd : default ∈ refused) : chooseTemplate own default refused = 0#8 := by
  unfold chooseTemplate
  dsimp only
  by_cases h0 : own = 0#8
  · rw [if_pos h0, if_neg fun e => e.2 hd, if_pos hd]
  · rw [if_neg h0, if_neg fun e => e.2 (h.resolve_left h0), if_pos hd]

/-- R132: the notice template of a candidate's record, 0 where it has none. -/
def State.ownTemplate (s : State) (c : Candidate) : Byte :=
  match c.source with
  | .record i _ => ((s.recordAt i).map ClosureRecord.template).getD 0#8
  | _ => 0#8

/-- The record of a closure candidate is held. -/
def State.Holds (s : State) (c : Candidate) : Prop := ∀ i id, c.source = .record i id → s.recordAt i ≠ none

/-- The template chosen for a candidate's page. -/
def State.templateFor (s : State) (refused : List Byte) (c : Candidate) : Byte :=
  chooseTemplate (s.ownTemplate c) (s.config.templates.forClass c.cls) refused

/-- R130: a candidate's page with a template. -/
def State.pageWith (s : State) (c : Candidate) (t : Byte) : Page :=
  match c.source with
  | .record i _ =>
    match s.recordAt i with
    | some r => closurePage t c.distance r
    | none => blankPage
  | .hazard => { template := t, p1 := (s.hazard.effective : Nat), p2 := 0, p3 := 0, p4 := 0, carries := none }
  | .alert ch => { template := t, p1 := valueNumber (s.channels.get ch).latest, p2 := (alertCode (s.channels.get ch).role : Nat),
                   p3 := (s.channelConfig ch).limit, p4 := 0, carries := none }
  | .data => { template := t, p1 := (s.hazard.effective : Nat), p2 := if s.hazard.degraded then 1 else 0,
               p3 := if s.hazard.neighbourSilent then 1 else 0, p4 := 0, carries := none }
  | .weather => { template := t, p1 := valueNumber (s.latestOf .wind), p2 := valueNumber (s.peakOf .wind),
                  p3 := valueNumber (s.latestOf .temp), p4 := valueNumber (s.latestOf .depth), carries := none }

/-- R130 to R132: the page of a candidate is blank, or its content with the template chosen. -/
theorem pageOf_eq (s : State) (refused : List Byte) (c : Candidate) :
    (s.Holds c → s.pageOf refused c = if s.templateFor refused c = 0#8 then blankPage
        else s.pageWith c (s.templateFor refused c))
      ∧ (¬ s.Holds c → s.pageOf refused c = blankPage) := by
  unfold State.Holds State.pageOf State.templateFor State.ownTemplate State.pageWith
  obtain ⟨cls, distance, source⟩ := c
  cases source with
  | record i id =>
    cases hr : s.recordAt i with
    | none => exact ⟨fun h => absurd hr (h i id rfl), fun _ => by simp [hr]⟩
    | some r =>
      refine ⟨fun _ => by simp only [hr, Option.map_some, Option.getD_some], fun h => absurd (fun j id' e => ?_) h⟩
      cases e
      rw [hr]
      exact nofun
  | hazard => exact ⟨fun _ => rfl, fun h => absurd nofun h⟩
  | alert ch => exact ⟨fun _ => rfl, fun h => absurd nofun h⟩
  | data => exact ⟨fun _ => rfl, fun h => absurd nofun h⟩
  | weather => exact ⟨fun _ => rfl, fun h => absurd nofun h⟩

theorem template_pageWith {c : Candidate} (h : s.Holds c) (x : Byte) : (s.pageWith c x).template = x := by
  unfold State.pageWith
  obtain ⟨cls, distance, source⟩ := c
  cases source with
  | record i id =>
    cases hr : s.recordAt i with
    | none => exact absurd hr (h i id rfl)
    | some r => simp only [hr, closurePage]
  | _ => rfl

/-- R132: the template of a candidate's page. -/
theorem template_pageOf {c : Candidate} (h : s.Holds c) (refused : List Byte) :
    (s.pageOf refused c).template = s.templateFor refused c := by
  rw [(pageOf_eq s refused c).1 h]
  split
  · next h0 => exact h0.symm
  · exact template_pageWith h _

theorem pageOf_of_blank {refused : List Byte} {c : Candidate} (h : (s.pageOf refused c).template = 0#8) :
    s.pageOf refused c = blankPage := by
  by_cases hh : s.Holds c
  · rw [template_pageOf hh] at h
    rw [(pageOf_eq s refused c).1 hh, if_pos h]
  · exact (pageOf_eq s refused c).2 hh

theorem pageOf_of_shown {refused : List Byte} {c : Candidate} (h : (s.pageOf refused c).template ≠ 0#8) :
    s.pageOf refused c = s.pageWith c (s.pageOf refused c).template := by
  have hh : s.Holds c := by
    by_contra hno
    exact h (by rw [(pageOf_eq s refused c).2 hno]; rfl)
  rw [template_pageOf hh] at h ⊢
  rw [(pageOf_eq s refused c).1 hh, if_neg h]

theorem valueNumber_eq (v : Value) : valueNumber v = v.getD (-32768) := by cases v <;> rfl

theorem closureKindCode_eq (k : ClosureKind) : ((closureKindCode k : Nat) : Int) = (match k with
    | .slide => 1
    | .avalanche => 2
    | .operator => 3
    | .season => 4) := by cases k <;> rfl

theorem alertCode_eq (r : Role) : ((alertCode r : Nat) : Int) = (match r with
    | .wind => 1
    | .temp => 2
    | .depth => 3
    | .precip => 4
    | .none => 0) := by cases r <;> rfl

/-! ## The page set (R129) -/

theorem buildPageSet_of_blank {n : Sign} (h : s.startup.quiet = true ∨ s.candidates n = []) : s.buildPageSet n = .blank := by
  unfold State.buildPageSet
  split
  · rfl
  · next hq =>
    rw [h.resolve_left hq]
    rfl

theorem buildPageSet_cons {n : Sign} {a : Candidate} {rest : List Candidate} (hq : s.startup.quiet = false)
    (h : s.candidates n = a :: rest) :
    (s.buildPageSet n).cls = a.cls ∧ (s.buildPageSet n).pageA = s.pageOf (s.signs.get n).refused a
      ∧ (rest = [] → (s.buildPageSet n).pageB = none)
      ∧ (∀ b, rest.head? = some b → 5 < b.cls → (s.buildPageSet n).pageB = none)
      ∧ (∀ b, rest.head? = some b → b.cls ≤ 5 → (s.buildPageSet n).pageB =
          (if (s.buildPageSet n).pageA = blankPage ∧ s.pageOf (s.signs.get n).refused b = blankPage then none
            else some (s.pageOf (s.signs.get n).refused b))) := by
  have hbuilt : s.buildPageSet n = s.pageSetOf (s.signs.get n).refused (a :: rest) := by
    unfold State.buildPageSet
    rw [hq, h]
    rfl
  rw [hbuilt]
  cases rest with
  | nil =>
    refine ⟨rfl, rfl, fun _ => ?_, nofun, nofun⟩
    exact if_neg fun e => by cases e.2
  | cons b bs =>
    refine ⟨rfl, rfl, nofun, fun x hx hlt => ?_, fun x hx hle => ?_⟩
    · cases hx
      have hno : ¬ b.cls ≤ 5 := by omega
      simp [State.pageSetOf, hno]
    · cases hx
      simp [State.pageSetOf, hle]

end Sys2Proof.Machine
end

section
/-! PROOF. Evaluations, refreshes and QUIET's entry hand the page sets built (O49). -/

namespace Sys2Proof.Machine

open Sys2Proof

variable {s t u : State}

/-! ## A page set handed (R134, R150) -/

theorem signs_arbitrate (s : State) : (arbitrate s).signs = s.signs := (frame_arbitrate s .signs (by decide)).symm

/-- R134: the sign handed a page set, and the others as they were. -/
theorem signs_handPageSet (n : Sign) (ps : PageSet) (s : State) (m : Sign) : ((handPageSet n ps s).signs.get m)
    = if m = n then { s.signs.get n with offered := some ps, refresh := s.refreshStart n } else s.signs.get m := by
  rw [handPageSet_eq, signs_arbitrate]
  exact signs_setSign s n m _

theorem signs_rebuildSign (n : Sign) (s : State) (m : Sign) : ((rebuildSign n s).signs.get m)
    = if m = n then { s.signs.get n with candidates := s.candidates n, built := some (s.buildPageSet n) }
      else s.signs.get m := signs_setSign s n m _

/-- R150: a page set handed is pending, or its transfer has begun. -/
theorem waiting_handPageSet (n : Sign) (ps : PageSet) (s : State) :
    ((handPageSet n ps s).link.signs.get n).waiting = some ps
      ∨ ∃ x, (handPageSet n ps s).link.transfer = some x ∧ x.sign = n ∧ x.pages = ps := by
  rw [handPageSet_eq]
  obtain ⟨v, hv⟩ : ∃ v, v = offer n ps s := ⟨_, rfl⟩
  have hwaiting : (v.link.signs.get n).waiting = some ps := by
    rw [hv]
    exact congrArg SignLink.waiting ((signLinks_set _ n n _).trans (if_pos rfl))
  have hoffered : (v.signs.get n).offered = some ps := by
    rw [hv]
    exact congrArg SignState.offered ((signs_setSign s n n _).trans (if_pos rfl))
  rw [← hv]
  by_cases hself : v.phase.serving = false ∨ v.link.state ≠ .idle ∨ bestSign v (turnOrder v.link.lastServed) = none
  · rw [arbitrate_eq_self hself]
    exact .inl hwaiting
  · push Not at hself
    obtain ⟨hserving, hidle, hbest⟩ := hself
    obtain ⟨⟨m, p, x⟩, hb⟩ := Option.ne_none_iff_exists'.mp hbest
    rw [arbitrate_of_best hb (by simpa using hserving) hidle]
    by_cases hm : n = m
    · subst hm
      refine .inr ⟨⟨n, x, p, 0, 0, 0⟩, rfl, rfl, ?_⟩
      rcases eligible_eq_some_iff.mp (bestSign_eligible hb) with ⟨-, -, hw⟩ | ⟨-, -, -, ho⟩
      · exact Option.some.inj (hw.symm.trans hwaiting)
      · exact Option.some.inj (ho.symm.trans hoffered)
    · refine .inl ?_
      rw [show ((beginTransfer v m p x).link.signs.get n) = v.link.signs.get n from
        (signLinks_set _ m n _).trans (if_neg hm)]
      exact hwaiting

/-! ## One sign evaluated -/

/-- R134: whether an evaluation of a sign hands the page set built for it. -/
def State.hands (s : State) (n : Sign) : Bool :=
  differsFrom (s.buildPageSet n) (s.signs.get n).offered && s.mayHand (s.buildPageSet n)

theorem evaluateSign_off {n : Sign} (h : s.phase.serving = false ∨ (s.signs.get n).role = .notFitted) :
    evaluateSign n s = s := by
  refine if_neg fun hcond => ?_
  obtain ⟨hserving, hfitted⟩ := Bool.and_eq_true_iff.mp hcond
  rcases h with h | h
  · rw [hserving] at h
    cases h
  · exact of_decide_eq_true hfitted h

theorem evaluateSign_on {n : Sign} (hserving : s.phase.serving = true) (hfitted : (s.signs.get n).role ≠ .notFitted) :
    evaluateSign n s = if s.hands n then handPageSet n (s.buildPageSet n) (rebuildSign n s) else rebuildSign n s :=
  if_pos (Bool.and_eq_true_iff.mpr ⟨hserving, decide_eq_true hfitted⟩)

theorem mayHand_iff (h : s.phase.serving = true) (ps : PageSet) :
    s.mayHand ps = true ↔ s.phase = .running ∨ ps.cls = 1 ∨ ps.cls = 2 := by
  unfold State.mayHand
  cases hp : s.phase with
  | running => simp
  | settling => simp
  | configRead => rw [hp] at h; cases h
  | configFault => rw [hp] at h; cases h
  | joining => rw [hp] at h; cases h

theorem differsFrom_iff (ps : PageSet) (o : Option PageSet) :
    differsFrom ps o = true ↔ ∀ x, o = some x → ps.pageA ≠ x.pageA ∨ ps.pageB ≠ x.pageB := by
  cases o with
  | none => simp [differsFrom]
  | some x =>
    simp only [differsFrom, PageSet.same, Option.some.injEq, forall_eq', Bool.not_eq_true', decide_eq_false_iff_not, not_and_or,
      ne_eq]

theorem hands_iff (h : s.phase.serving = true) (n : Sign) : s.hands n = true ↔
    (∀ o : PageSet, (s.signs.get n).offered = some o →
      (s.buildPageSet n).pageA ≠ o.pageA ∨ (s.buildPageSet n).pageB ≠ o.pageB)
    ∧ (s.phase = .running ∨ (s.buildPageSet n).cls = 1 ∨ (s.buildPageSet n).cls = 2) := by
  unfold State.hands
  rw [Bool.and_eq_true_iff, differsFrom_iff, mayHand_iff h]

theorem refreshStart_eq (s : State) (n : Sign) :
    s.refreshStart n = if s.startup.quiet = true ∨ s.health n = .fault then none else some 0 := by
  unfold State.refreshStart
  simp only [Bool.or_eq_true, decide_eq_true_eq]

/-- R134: the sign's part after its evaluation. -/
theorem sign_evaluateSign {n : Sign} (hserving : s.phase.serving = true) (hfitted : (s.signs.get n).role ≠ .notFitted) :
    (evaluateSign n s).signs.get n = if s.hands n
      then { s.signs.get n with candidates := s.candidates n, built := some (s.buildPageSet n),
                                offered := some (s.buildPageSet n), refresh := s.refreshStart n }
      else { s.signs.get n with candidates := s.candidates n, built := some (s.buildPageSet n) } := by
  rw [evaluateSign_on hserving hfitted]
  split
  · rw [signs_handPageSet, if_pos rfl, signs_rebuildSign, if_pos rfl]
    rfl
  · rw [signs_rebuildSign, if_pos rfl]

/-- The evaluation of a sign leaves the other signs' parts. -/
theorem sign_evaluateSign_of_ne {n m : Sign} (h : m ≠ n) (s : State) : (evaluateSign n s).signs.get m = s.signs.get m := by
  by_cases hoff : s.phase.serving = false ∨ (s.signs.get n).role = .notFitted
  · rw [evaluateSign_off hoff]
  · push Not at hoff
    obtain ⟨hserving, hfitted⟩ := hoff
    rw [evaluateSign_on (by simpa using hserving) hfitted]
    split
    · rw [signs_handPageSet, if_neg h, signs_rebuildSign, if_neg h]
    · rw [signs_rebuildSign, if_neg h]

/-! ## What a page set is built from -/

/-- What the page sets of all signs are built from, beside the signs' own parts, and the phase. -/
structure SameSource (s t : State) : Prop where
  phase : t.phase = s.phase
  config : t.config = s.config
  slots : t.register.slots = s.register.slots
  channels : t.channels = s.channels
  effective : t.hazard.effective = s.hazard.effective
  degraded : t.hazard.degraded = s.hazard.degraded
  silent : t.hazard.neighbourSilent = s.hazard.neighbourSilent
  quiet : t.startup.quiet = s.startup.quiet

theorem SameSource.of_frame {qs : List Part} (h : Frame qs s t) (hd : Part.apart [.settings, .slots, .channels, .effective,
    .computation, .neighbours, .quiet] qs = true) : SameSource s t := by
  have hpart : ∀ p ∈ [Part.settings, .slots, .channels, .effective, .computation, .neighbours, .quiet], p.agree s t :=
    fun p hp => h.keeps hd hp
  obtain ⟨hphase, hconfig, -⟩ := h.settings_eq (Part.not_mem_of_apart hd (by simp))
  obtain ⟨-, -, -, -, -, hdegraded, -⟩ := hpart .computation (by simp)
  obtain ⟨-, hsilent⟩ := hpart .neighbours (by simp)
  obtain ⟨hquiet, -⟩ := hpart .quiet (by simp)
  exact ⟨hphase, hconfig, (hpart .slots (by simp)).symm, (hpart .channels (by simp)).symm, (hpart .effective (by simp)).symm,
    hdegraded.symm, hsilent.symm, hquiet.symm⟩

theorem pageOf_congr (h : SameSource s t) (refused : List Byte) (c : Candidate) : t.pageOf refused c = s.pageOf refused c := by
  unfold State.pageOf State.channelConfig State.latestOf State.peakOf State.channelOf
  simp only [h.config, recordAt_congr h.slots, h.channels, h.effective, h.degraded, h.silent]

theorem buildPageSet_congr (h : SameSource s t) {n : Sign} (hrole : (t.signs.get n).role = (s.signs.get n).role)
    (hlook : (t.signs.get n).lookAhead = (s.signs.get n).lookAhead)
    (hrefused : (t.signs.get n).refused = (s.signs.get n).refused) : t.buildPageSet n = s.buildPageSet n := by
  have hrecords : t.records = s.records := congrArg (indexed 0) h.slots
  have hcandidates : t.candidates n = s.candidates n := by
    unfold State.candidates State.ownCandidates
    simp only [h.config, hrecords, h.channels, h.effective, h.degraded, h.silent, hrole, hlook]
  have hpages : t.pageSetOf (t.signs.get n).refused (t.candidates n) = s.pageSetOf (s.signs.get n).refused (s.candidates n) := by
    rw [hcandidates, hrefused]
    unfold State.pageSetOf
    simp only [pageOf_congr h]
  unfold State.buildPageSet
  rw [h.quiet, hpages]

/-! ## A sign that has been handed what is built for it -/

/-- The page set last handed to a fitted sign has the pages built for it, where the phase lets these be handed. -/
structure Fresh (n : Sign) (t : State) : Prop where
  serving : t.phase.serving = true
  fitted : (t.signs.get n).role ≠ .notFitted
  handed : t.phase = .running ∨ (t.buildPageSet n).cls = 1 ∨ (t.buildPageSet n).cls = 2 →
    ∃ o, (t.signs.get n).offered = some o ∧ o.pageA = (t.buildPageSet n).pageA ∧ o.pageB = (t.buildPageSet n).pageB

theorem Fresh.of_same {n : Sign} (h : Fresh n s) (hsource : SameSource s t) (hsign : t.signs.get n = s.signs.get n) :
    Fresh n t := by
  have hbuilt : t.buildPageSet n = s.buildPageSet n :=
    buildPageSet_congr hsource (by rw [hsign]) (by rw [hsign]) (by rw [hsign])
  refine ⟨by rw [hsource.phase]; exact h.serving, by rw [hsign]; exact h.fitted, fun hmay => ?_⟩
  rw [hsource.phase, hbuilt] at hmay
  rw [hbuilt, hsign]
  exact h.handed hmay

theorem Fresh.of_frame {n : Sign} {qs : List Part} (h : Fresh n s) (hf : Frame qs s t) (hd : Part.apart [.signs, .settings,
    .slots, .channels, .effective, .computation, .neighbours, .quiet] qs = true) : Fresh n t :=
  h.of_same (.of_frame hf (Part.apart_tail hd)) (congrArg (PerSign.get · n) (hf.keeps hd (p := .signs) (by simp)).symm)

/-- R134: an evaluation leaves its sign handed. -/
theorem fresh_evaluateSign {n : Sign} (hserving : s.phase.serving = true) (hfitted : (s.signs.get n).role ≠ .notFitted) :
    Fresh n (evaluateSign n s) := by
  have hsource : SameSource s (evaluateSign n s) := .of_frame (frame_evaluateSign n s) rfl
  have hsign := sign_evaluateSign hserving hfitted
  have hkept : ((evaluateSign n s).signs.get n).role = (s.signs.get n).role
      ∧ ((evaluateSign n s).signs.get n).lookAhead = (s.signs.get n).lookAhead
      ∧ ((evaluateSign n s).signs.get n).refused = (s.signs.get n).refused := by
    rw [hsign]
    split <;> exact ⟨rfl, rfl, rfl⟩
  obtain ⟨hrole, hlook, hrefused⟩ := hkept
  have hbuilt := buildPageSet_congr hsource hrole hlook hrefused
  refine ⟨by rw [hsource.phase]; exact hserving, by rw [hrole]; exact hfitted, fun hmay => ?_⟩
  rw [hsource.phase, hbuilt] at hmay
  rw [hbuilt, hsign]
  split
  · exact ⟨_, rfl, rfl, rfl⟩
  · next hno =>
    have hsame : ¬ ∀ o : PageSet, (s.signs.get n).offered = some o →
        (s.buildPageSet n).pageA ≠ o.pageA ∨ (s.buildPageSet n).pageB ≠ o.pageB := fun hd =>
      hno ((hands_iff hserving n).mpr ⟨hd, hmay⟩)
    push Not at hsame
    obtain ⟨o, ho, ha, hb⟩ := hsame
    exact ⟨o, ho, ha.symm, hb.symm⟩

theorem Fresh.evaluateSign {n : Sign} (h : Fresh n s) (m : Sign) : Fresh n (Machine.evaluateSign m s) := by
  by_cases hm : n = m
  · subst hm
    exact fresh_evaluateSign h.serving h.fitted
  · exact h.of_same (.of_frame (frame_evaluateSign m s) rfl) (sign_evaluateSign_of_ne hm s)

theorem fitted_keeps (n : Sign) : SelectorKeeps (fun t => (t.signs.get n).role ≠ .notFitted) where
  pages m c b o r h := by
    rw [signs_setSign]
    split
    · next hm =>
      subst hm
      exact h
    · exact h
  aside hf hd h := by
    rw [← show _ = _ from hf.keeps hd (p := .signs) (by simp)]
    exact h

/-- R125: every fitted sign is handed what is built for it. -/
theorem fresh_evaluateSigns {n : Sign} (hserving : s.phase.serving = true) (hfitted : (s.signs.get n).role ≠ .notFitted) :
    Fresh n (evaluateSigns s) := by
  have hphase : ∀ m t, t.phase.serving = true → (Machine.evaluateSign m t).phase.serving = true := fun m t ht => by
    rw [(frame_evaluateSign m t).phase_eq rfl]
    exact ht
  have hkept : ∀ m t, (t.signs.get n).role ≠ .notFitted → ((Machine.evaluateSign m t).signs.get n).role ≠ .notFitted :=
    fun m t => (fitted_keeps n).evaluateSign m
  show Fresh n (evaluateSign .s3 (evaluateSign .s2 (evaluateSign .s1 s)))
  cases n with
  | s1 => exact ((fresh_evaluateSign hserving hfitted).evaluateSign .s2).evaluateSign .s3
  | s2 => exact (fresh_evaluateSign (hphase .s1 s hserving) (hkept .s1 s hfitted)).evaluateSign .s3
  | s3 => exact fresh_evaluateSign (hphase .s2 _ (hphase .s1 s hserving)) (hkept .s2 _ (hkept .s1 s hfitted))

/-- R176: leaving QUIET evaluates every sign. -/
theorem fresh_leaveQuiet {n : Sign} (hserving : s.phase.serving = true) (hfitted : (s.signs.get n).role ≠ .notFitted) :
    Fresh n (leaveQuiet s) := by
  obtain ⟨v, hv⟩ : ∃ v, v = Machine.present .status (s.withStartup { s.startup with quiet := false, entryTimer := none }) :=
    ⟨_, rfl⟩
  have hframe : Frame (.quiet :: Part.ofPresent) s v := by
    rw [hv]
    exact ((frame_quiet s _ _).widen rfl).trans ((frame_present _ _).widen rfl)
  have hrestart : Frame Part.ofQuiet v (restartRefresh v) := (frame_restartRefresh v).widen rfl
  have heq : leaveQuiet s = evaluateSigns (restartRefresh v) := by rw [hv]; rfl
  rw [heq]
  refine fresh_evaluateSigns ?_ ?_
  · rw [hrestart.phase_eq rfl, hframe.phase_eq rfl]
    exact hserving
  · refine SelectorKeeps.forSigns (law := fun t => (t.signs.get n).role ≠ .notFitted) (fun m t ht => ?_)
      ((fitted_keeps n).aside hframe rfl hfitted)
    dsimp only
    split
    · exact ht
    · exact (fitted_keeps n).pages m (t.signs.get m).candidates (t.signs.get m).built (t.signs.get m).offered _ ht

theorem Fresh.judgeQuiet {n : Sign} (h : Fresh n s) : Fresh n (Machine.judgeQuiet s) := by
  have htimer : ∀ e, Fresh n (s.withStartup { s.startup with entryTimer := e }) := fun e =>
    h.of_same ⟨rfl, rfl, rfl, rfl, rfl, rfl, rfl, rfl⟩ rfl
  unfold Machine.judgeQuiet
  split
  · split
    · split
      · exact h
      · exact fresh_leaveQuiet h.serving h.fitted
    · split
      · split
        · exact h
        · exact htimer _
      · exact htimer _
  · exact h

theorem fresh_putKeeps (n : Sign) : PutKeeps (Fresh n) where
  put {g x s} hs := by
    have hset : Fresh n (s.setGate g x) := hs.of_frame (frame_withGates_units s g x) rfl
    have hstatus : Fresh n (if x.state ≠ (s.gates.units.get g).state ∨ x.slow ≠ (s.gates.units.get g).slow
        then present .status (s.setGate g x) else s.setGate g x) := by
      split
      · exact hset.of_frame (frame_present _ _) rfl
      · exact hset
    unfold putGate
    dsimp only
    split
    · exact hstatus.judgeQuiet
    · exact hstatus
  same _ hs := hs.of_frame (frame_withGates_units _ _ _) rfl

/-- R119: a report of the records leaves every fitted sign handed. -/
theorem fresh_reportRecords {n : Sign} (hserving : s.phase.serving = true) (hfitted : (s.signs.get n).role ≠ .notFitted) :
    Fresh n (reportRecords s) := ((fresh_putKeeps n).evaluateGates (fresh_evaluateSigns hserving hfitted)).judgeQuiet

theorem fresh_storeRecord {n : Sign} (hserving : s.phase.serving = true) (hfitted : (s.signs.get n).role ≠ .notFitted)
    (i : Nat) (r : ClosureRecord) : Fresh n (storeRecord i r s) := fresh_reportRecords hserving hfitted

theorem Fresh.storeRecord {n : Sign} (h : Fresh n s) (i : Nat) (r : ClosureRecord) : Fresh n (Machine.storeRecord i r s) :=
  fresh_storeRecord h.serving h.fitted i r

theorem Fresh.queueOwn {n : Sign} (h : Fresh n s) (r : ClosureRecord) : Fresh n (Machine.queueOwn r s) :=
  h.of_frame (frame_queueOwn r s) rfl

theorem Fresh.vacate {n : Sign} (h : Fresh n s) (i : Nat) : Fresh n (Machine.vacate i s) := by
  cases hr : s.recordAt i with
  | none =>
    unfold Machine.vacate
    rw [hr]
    exact h
  | some r =>
    rw [vacate_eq hr]
    refine fresh_reportRecords ?_ ?_
    · rw [(frame_removeEntries i r s).phase_eq rfl]
      exact h.serving
    · rw [signs_removeEntries]
      exact h.fitted

theorem Fresh.admitRecord {n : Sign} (h : Fresh n s) (r : ClosureRecord) : Fresh n (Machine.admitRecord r s).1 := by
  unfold Machine.admitRecord
  split
  · exact h.storeRecord _ _
  · split
    · exact (h.vacate _).storeRecord _ _
    · exact h.of_frame (frame_setFull_parts true s) rfl

theorem Fresh.bringForward {n : Sign} (h : Fresh n s) : Fresh n (Machine.bringForward s) := by
  have hat : ∀ j t, Fresh n t → Fresh n (bringForwardAt j t) := fun j t ht => by
    unfold bringForwardAt
    split
    · split
      · exact (ht.queueOwn _).storeRecord _ _
      · exact ht
    · exact ht
  unfold Machine.bringForward
  split
  · exact forIndices_keeps hat h
  · exact h

theorem Fresh.autocloseTest {n : Sign} (h : Fresh n s) : Fresh n (Machine.autocloseTest s) := by
  by_cases hcalled : s.Called
  · have horiginate : Fresh n (originate s).1 := by
      have hadmit := h.admitRecord s.autocloseRecord
      unfold originate
      dsimp only
      split
      · next e =>
        rw [State.autocloseRecord, e] at hadmit
        exact (hadmit.of_frame (frame_takeSerial _ _) rfl).queueOwn _
      · next e =>
        rw [State.autocloseRecord, e] at hadmit
        exact hadmit
    rw [autocloseTest_of_called hcalled]
    split
    · exact horiginate.bringForward
    · exact horiginate
  · rw [autocloseTest_eq_self hcalled]
    exact h

end Sys2Proof.Machine
end

section
/-! PROOF. Refresh, QUIET's entry, and the commands that evaluate the signs (O49). -/

namespace Sys2Proof.Machine

open Sys2Proof

variable {s t u : State}

/-! ## The role of a sign stays -/

theorem role_setSign {n m : Sign} {x : SignState} {role : SignRole} (hx : x.role = (s.signs.get m).role)
    (h : (s.signs.get n).role = role) : ((s.setSign m x).signs.get n).role = role := by
  rw [signs_setSign]
  split
  · next hm =>
    subst hm
    exact hx.trans h
  · exact h

theorem Frame.sign_eq {qs : List Part} (h : Frame qs s t) (hd : Part.apart [.signs] qs = true) (n : Sign) :
    t.signs.get n = s.signs.get n := congrArg (PerSign.get · n) (h.keeps hd (p := .signs) (by simp)).symm

theorem role_of_turn {n : Sign} {role : SignRole} (s t : State) (h : Turn [] s t) (hs : (s.signs.get n).role = role) :
    (t.signs.get n).role = role := by
  cases h with
  | aside h => rw [h.sign_eq rfl]; exact hs
  | @present e => rw [(frame_present e s).sign_eq rfl]; exact hs
  | follow => rw [(frame_followQueue s).sign_eq rfl]; exact hs
  | endFrame => rw [(frame_endFrame s).sign_eq rfl]; exact hs
  | @remove i r => rw [signs_removeEntries]; exact hs
  | rebuild => exact role_setSign rfl hs
  | @offer m x =>
    have hset : ((s.setSign m { s.signs.get m with offered := some x, refresh := s.refreshStart m }).signs.get n).role = role :=
      role_setSign rfl hs
    exact hset
  | refresh => exact role_setSign rfl hs
  | acknowledge => exact role_setSign rfl hs
  | forget => exact role_setSign rfl hs
  | refuse => exact role_setSign rfl hs
  | _ => exact hs

theorem role_of_turns (h : Turns [] s t) (n : Sign) : (t.signs.get n).role = (s.signs.get n).role :=
  Turns.keep (law := fun v => (v.signs.get n).role = (s.signs.get n).role) role_of_turn h rfl

/-! ## The content of each page (R130, R131) -/

section

variable {c : Candidate}

theorem pageWith_record {i : Nat} {id : RecId} {r : ClosureRecord} (hc : c.source = .record i id) (hr : s.recordAt i = some r)
    (x : Byte) : s.pageWith c x = ⟨x, ((c.distance + 99) / 100 : Nat),
      if r.state = .announced then ((r.lead + 59) / 60 : Nat) else 0,
      (match r.kind with
        | .slide => 1
        | .avalanche => 2
        | .operator => 3
        | .season => 4), if r.stale then 1 else 0, some r.id⟩ := by
  have hpage : s.pageWith c x = closurePage x c.distance r := by
    unfold State.pageWith
    rw [hc]
    dsimp only
    rw [hr]
  exact hpage.trans (congrArg (fun k : Int => (⟨x, ((c.distance + 99) / 100 : Nat),
    if r.state = .announced then ((r.lead + 59) / 60 : Nat) else 0, k, if r.stale then 1 else 0, some r.id⟩ : Page))
    (closureKindCode_eq r.kind))

theorem pageWith_hazard (hc : c.source = .hazard) (x : Byte) : s.pageWith c x = ⟨x, s.hazard.effective, 0, 0, 0, none⟩ := by
  unfold State.pageWith
  rw [hc]

theorem pageWith_alert {ch : Chan} (hc : c.source = .alert ch) (x : Byte) :
    s.pageWith c x = ⟨x, (s.channels.get ch).latest.getD (-32768),
      (match (s.channels.get ch).role with
        | .wind => 1
        | .temp => 2
        | .depth => 3
        | .precip => 4
        | .none => 0), (s.channelConfig ch).limit, 0, none⟩ := by
  have hpage : s.pageWith c x = ⟨x, valueNumber (s.channels.get ch).latest, (alertCode (s.channels.get ch).role : Nat),
      (s.channelConfig ch).limit, 0, none⟩ := by
    unfold State.pageWith
    rw [hc]
  rw [hpage, valueNumber_eq]
  exact congrArg (fun k : Int => (⟨x, (s.channels.get ch).latest.getD (-32768), k, (s.channelConfig ch).limit, 0, none⟩ : Page))
    (alertCode_eq _)

theorem pageWith_data (hc : c.source = .data) (x : Byte) : s.pageWith c x = ⟨x, s.hazard.effective,
    if s.hazard.degraded then 1 else 0, if s.hazard.neighbourSilent then 1 else 0, 0, none⟩ := by
  unfold State.pageWith
  rw [hc]

theorem pageWith_weather (hc : c.source = .weather) (x : Byte) : s.pageWith c x = ⟨x, (s.latestOf .wind).getD (-32768),
    (s.peakOf .wind).getD (-32768), (s.latestOf .temp).getD (-32768), (s.latestOf .depth).getD (-32768), none⟩ := by
  unfold State.pageWith
  rw [hc, ← valueNumber_eq, ← valueNumber_eq, ← valueNumber_eq, ← valueNumber_eq]

end

/-! ## A refresh (R135) -/

theorem refreshSign_on {n : Sign} (hserving : s.phase.serving = true) (hfitted : (s.signs.get n).role ≠ .notFitted)
    (hmay : s.mayHand (s.buildPageSet n) = true) : refreshSign n s = handPageSet n (s.buildPageSet n) (rebuildSign n s) := by
  unfold refreshSign
  rw [if_pos (Bool.and_eq_true_iff.mpr ⟨hserving, decide_eq_true hfitted⟩)]
  exact if_pos hmay

/-- R135: the sign's part after a refresh that the phase allows. -/
theorem sign_refreshSign {n : Sign} (hserving : s.phase.serving = true) (hfitted : (s.signs.get n).role ≠ .notFitted)
    (hmay : s.mayHand (s.buildPageSet n) = true) :
    (refreshSign n s).signs.get n = { s.signs.get n with
      candidates := s.candidates n
      built := some (s.buildPageSet n)
      offered := some (s.buildPageSet n)
      refresh := s.refreshStart n } := by
  rw [refreshSign_on hserving hfitted hmay, signs_handPageSet, if_pos rfl, signs_rebuildSign, if_pos rfl]
  rfl

theorem sign_refreshSign_of_ne {n m : Sign} (h : m ≠ n) (s : State) : (refreshSign n s).signs.get m = s.signs.get m := by
  unfold refreshSign
  split
  · dsimp only
    split
    · rw [signs_handPageSet, if_neg h, signs_rebuildSign, if_neg h]
    · rw [signs_setSign, if_neg h, signs_rebuildSign, if_neg h]
  · rfl

theorem mayHand_running (h : s.phase = .running) (ps : PageSet) : s.mayHand ps = true := by
  unfold State.mayHand
  rw [h]

/-- R136: in QUIET a refresh hands the blank page set and stops the timer. -/
theorem sign_refreshSign_quiet {n : Sign} (hrun : s.phase = .running) (hquiet : s.startup.quiet = true) (hfitted : (s.signs.get n).role ≠ .notFitted) :
    ((refreshSign n s).signs.get n).offered = some .blank ∧ ((refreshSign n s).signs.get n).refresh = none := by
  have hstart : s.refreshStart n = none := (refreshStart_eq s n).trans (if_pos (.inl hquiet))
  rw [sign_refreshSign (by rw [hrun]; rfl) hfitted (mayHand_running hrun _), buildPageSet_of_blank (.inl hquiet)]
  exact ⟨rfl, hstart⟩

/-- In RUNNING and QUIET, a sign fitted. -/
def DarkFitted (n : Sign) (t : State) : Prop :=
  t.phase = .running ∧ t.startup.quiet = true ∧ (t.signs.get n).role ≠ .notFitted

theorem darkFitted_refreshSign {n : Sign} (m : Sign) (h : DarkFitted n s) : DarkFitted n (refreshSign m s) := by
  obtain ⟨hphase, hquiet, hfitted⟩ := h
  have hframe := frame_refreshSign m s
  refine ⟨(hframe.phase_eq rfl).trans hphase, (hframe .quiet (by decide)).1.symm.trans hquiet, ?_⟩
  rw [role_of_turns (turns_refreshSign m s)]
  exact hfitted

/-- The state as QUIET begins, before the signs are refreshed. -/
def State.dimmed (s : State) : State := present .status (s.withStartup { s.startup with quiet := true, entryTimer := none })

theorem frame_dimmed (s : State) :
    Frame Part.ofPresent (s.withStartup { s.startup with quiet := true, entryTimer := none }) s.dimmed := frame_present _ _

theorem enterQuiet_eq (s : State) : enterQuiet s = forSigns refreshSign s.dimmed := rfl

theorem role_enterQuiet (s : State) (n : Sign) : ((enterQuiet s).signs.get n).role = (s.signs.get n).role := by
  have hdimmed : s.dimmed.signs.get n = s.signs.get n := (frame_dimmed s).sign_eq rfl n
  rw [enterQuiet_eq, role_of_turns (turns_forSigns turns_refreshSign s.dimmed), hdimmed]

/-- R136, R175: QUIET's entry hands every fitted sign the blank page set. -/
theorem signs_enterQuiet {n : Sign} (hrun : s.phase = .running) (hfitted : (s.signs.get n).role ≠ .notFitted) :
    ((enterQuiet s).signs.get n).offered = some .blank ∧ ((enterQuiet s).signs.get n).refresh = none := by
  have hframe := frame_dimmed s
  have hsign : s.dimmed.signs.get n = s.signs.get n := hframe.sign_eq rfl n
  have hdark : DarkFitted n s.dimmed :=
    ⟨(hframe.phase_eq rfl).trans hrun, (hframe .quiet (by decide)).1.symm, by rw [hsign]; exact hfitted⟩
  have hblank : ∀ v, DarkFitted n v →
      ((refreshSign n v).signs.get n).offered = some .blank ∧ ((refreshSign n v).signs.get n).refresh = none :=
    fun v ⟨hp, hq, hf⟩ => sign_refreshSign_quiet hp hq hf
  have h1 := darkFitted_refreshSign .s1 hdark
  have h2 := darkFitted_refreshSign .s2 h1
  rw [enterQuiet_eq]
  unfold forSigns
  cases n with
  | s1 =>
    rw [sign_refreshSign_of_ne (by decide), sign_refreshSign_of_ne (by decide)]
    exact hblank _ hdark
  | s2 =>
    rw [sign_refreshSign_of_ne (by decide)]
    exact hblank _ h1
  | s3 => exact hblank _ h2

/-! ## The eight conditions (R173) -/

theorem mem_gateOrder (g : Gate) : g ∈ Gate.order := by cases g <;> decide

/-- R173: the eight conditions, one by one. -/
theorem favourable_iff (s : State) : s.favourable = true ↔ s.hazard.effective = 0
    ∧ (∀ ch : Chan, (s.channels.get ch).alert = false)
    ∧ (∀ i r, s.recordAt i = some r → r.state = .lifted ∨ s.relevant r = false)
    ∧ (∀ i r, s.recordAt i = some r → r.state = .lifted ∨ r.own = false)
    ∧ (∀ g : Gate, s.config.fitted.get g = true → (s.gates.units.get g).state = .opened)
    ∧ (∀ m : Sign, s.health m ≠ .fault)
    ∧ (∀ p ∈ s.peers.entries, s.isNeighbour p = true → p.presence = .heard)
    ∧ s.hazard.degraded = false := by
  have halert : s.noAlert = true ↔ ∀ ch : Chan, (s.channels.get ch).alert = false := by
    simp [State.noAlert, mem_chanOrder]
  have hrelevant : s.noRelevantClosure = true ↔ ∀ i r, s.recordAt i = some r → r.state = .lifted ∨ s.relevant r = false := by
    simp [State.noRelevantClosure, mem_records]
  have hown : s.noOwnClosure = true ↔ ∀ i r, s.recordAt i = some r → r.state = .lifted ∨ r.own = false := by
    simp [State.noOwnClosure, mem_records]
  have hgates : s.gatesOpen = true ↔ ∀ g : Gate, s.config.fitted.get g = true → (s.gates.units.get g).state = .opened := by
    simp [State.gatesOpen, mem_gateOrder, ← Bool.not_eq_true, imp_iff_not_or]
  have hfault : s.noSignFault = true ↔ ∀ m : Sign, s.health m ≠ .fault := by
    simp [State.noSignFault, mem_signOrder]
  have hheard : s.neighboursHeard = true ↔ ∀ p ∈ s.peers.entries, s.isNeighbour p = true → p.presence = .heard := by
    simp [State.neighboursHeard, ← Bool.not_eq_true, imp_iff_not_or]
  unfold State.favourable
  simp only [Bool.and_eq_true, decide_eq_true_eq, Bool.not_eq_true', halert, hrelevant, hown, hgates, hfault, hheard, and_assoc]

theorem outcome_quietEntry (hrun : s.phase = .running) (hquiet : s.startup.quiet = false)
    (htimer : s.startup.entryTimer = some 300) :
    (s.favourable = true → outcome .quietEntry s = enterQuiet s)
      ∧ (s.favourable = false → outcome .quietEntry s = s.withStartup { s.startup with entryTimer := none }) := by
  have hcond : outcome .quietEntry s = if s.favourable = true then enterQuiet s else judgeQuiet s :=
    if_pos ⟨hrun, hquiet, htimer⟩
  rw [hcond]
  refine ⟨fun h => if_pos h, fun h => ?_⟩
  rw [h]
  unfold judgeQuiet
  rw [if_pos hrun, hquiet, h]
  rfl

/-- A record stored behind its CLOSURE leaves every fitted sign handed. -/
theorem stored_fresh {n : Sign} (hserving : s.phase.serving = true) (hfitted : (s.signs.get n).role ≠ .notFitted) (i : Nat)
    (r q : ClosureRecord) : Fresh n (storeRecord i r (queueOwn q s)) := by
  have hframe := frame_queueOwn q s
  refine fresh_storeRecord ?_ ?_ i r
  · rw [hframe.phase_eq rfl]
    exact hserving
  · rw [hframe.sign_eq rfl]
    exact hfitted

/-- Settles O49: pages and page sets as they are built; then each command's last evaluation of the signs. -/
theorem refreshAndQuietEntryHandPages : Obligations.RefreshAndQuietEntryHandPages := by
  refine ⟨fun s n hrun => ⟨fun hfitted hrefresh => completes_iff.mpr ?_, fun hquiet htimer => completes_iff.mpr ?_⟩,
    fun s n => ⟨fun h => buildPageSet_of_blank (.inl h), fun h => buildPageSet_of_blank (.inr h),
      fun a rest hq h => buildPageSet_cons hq h⟩, fun s refused c => ?_, fun s n => ⟨evaluateSign_off, fun hserving hfitted => ?_⟩,
    fun s n hserving hfitted => ⟨fun h => completes_iff.mpr ?_, fun hp hn => completes_iff.mpr ?_,
      fun i r hr => ⟨fun hstate hlead => completes_iff.mpr ?_, fun hstate hzero => completes_iff.mpr ?_,
        fun hown hstale hage => completes_iff.mpr ?_⟩⟩⟩
  · have hserving : s.phase.serving = true := by rw [hrun]; rfl
    have hmay := mayHand_running hrun (s.buildPageSet n)
    have hout : outcome (.refreshTimerExpiry n) s = refreshSign n s := if_pos hrefresh
    rw [hout, sign_refreshSign hserving hfitted hmay]
    refine ⟨rfl, rfl, rfl, ?_⟩
    rw [refreshSign_on hserving hfitted hmay]
    refine (waiting_handPageSet n _ _).imp_right fun ⟨x, hx, hsign, _⟩ => ?_
    rw [hx, ← hsign]
    rfl
  · obtain ⟨hentered, hstopped⟩ := outcome_quietEntry hrun hquiet htimer
    have hiff := favourable_iff s
    cases hf : s.favourable with
    | true =>
      have hframe := frame_enterQuiet_signs s
      have hq := hframe .quiet (by decide)
      rw [hentered hf]
      refine ⟨hq.2.symm, fun _ => ⟨hq.1.symm, ?_, fun hrole => signs_enterQuiet hrun (by rwa [role_enterQuiet] at hrole)⟩,
        fun hno => absurd (hiff.mp hf) hno⟩
      have hline := (frame_forSigns frame_refreshSign s.dimmed).queue_eq rfl
      exact hline.trans (queue_present_operating _ (show s.phase.operating = true by rw [hrun]; rfl))
    | false =>
      rw [hstopped hf]
      refine ⟨rfl, fun hclear => ?_, fun _ => ⟨hquiet, rfl, rfl⟩⟩
      rw [hiff.mpr hclear] at hf
      cases hf
  · refine ⟨fun hheld h0 hr => ?_, fun hheld h hd => ?_, fun h hd => ?_, pageOf_of_blank, fun hshown => ?_⟩
    · rw [template_pageOf hheld]
      exact chooseTemplate_own h0 hr
    · rw [template_pageOf hheld]
      exact chooseTemplate_default h hd
    · by_cases hheld : s.Holds c
      · rw [template_pageOf hheld]
        exact chooseTemplate_none h hd
      · rw [(pageOf_eq s refused c).2 hheld]
        rfl
    · have hpage := pageOf_of_shown hshown
      refine ⟨fun i id r hc hr => ?_, fun hc => ?_, fun ch hc => ?_, fun hc => ?_, fun hc => ?_⟩
      · exact hpage.trans (pageWith_record hc hr _)
      · exact hpage.trans (pageWith_hazard hc _)
      · exact hpage.trans (pageWith_alert hc _)
      · exact hpage.trans (pageWith_data hc _)
      · exact hpage.trans (pageWith_weather hc _)
  · have hsign := sign_evaluateSign hserving hfitted
    have hiff := hands_iff hserving n
    rw [hsign, ← refreshStart_eq]
    refine ⟨?_, ?_, fun hhands => ?_, fun hno => ?_⟩
    · split <;> rfl
    · split <;> rfl
    · have hh := hiff.mpr hhands
      rw [if_pos hh, evaluateSign_on hserving hfitted, if_pos hh]
      exact ⟨rfl, rfl, waiting_handPageSet n _ _⟩
    · have hh : ¬ s.hands n = true := fun h => hno (hiff.mp h)
      rw [if_neg hh, evaluateSign_on hserving hfitted, if_neg hh]
      exact ⟨rfl, rfl, rfl⟩
  · rw [minuteClose_eq h]
    refine (fresh_evaluateSigns (n := n) ?_ ?_).handed
    · have hphase : (forChannels closeMinute s).phase = s.phase := (frame_forChannels frame_closeMinute s).phase_eq rfl
      exact (congrArg Phase.serving hphase).trans hserving
    · have hrole := role_of_turns (turns_forChannels turns_closeMinute s) n
      exact fun e => hfitted (hrole.symm.trans e)
  · have hsettled : Fresh n (evaluateSigns (bringForward (autocloseTest (restartWalker (raiseSerial
        (s.withStartup { s.startup with phase := .running })))))) := by
      have hbefore : Turns [] (s.withStartup { s.startup with phase := .running }) (bringForward (autocloseTest (restartWalker
          (raiseSerial (s.withStartup { s.startup with phase := .running }))))) :=
        (Turns.aside (frame_raiseSerial _) rfl).trans
          ((turns_restartWalker _).trans ((turns_autocloseTest _).trans (turns_bringForward _)))
      refine fresh_evaluateSigns ?_ ?_
      · rw [(frame_runningReports _).phase_eq rfl, (frame_restartWalker _).phase_eq rfl, (frame_raiseSerial _).phase_eq rfl]
        rfl
      · rw [role_of_turns hbefore n]
        exact hfitted
    rw [runningEntry_eq ⟨hp, hn⟩]
    exact ((fresh_putKeeps n).evaluateGates hsettled).judgeQuiet.handed
  · rw [outcome_leadExpiry (operating_of_serving hserving) hr hstate hlead]
    exact (stored_fresh hserving hfitted i _ _).handed
  · rw [outcome_durationExpiry (operating_of_serving hserving) hr hstate hzero]
    have hstored := stored_fresh hserving hfitted i { r with state := .lifted, duration := none, display := 600 }
      { r with state := .lifted, duration := none, display := 600 }
    unfold tellHazard
    split
    · exact hstored.autocloseTest.handed
    · exact hstored.handed
  · rw [outcome_recordStale (operating_of_serving hserving) hr hown hstale hage]
    exact (fresh_storeRecord hserving hfitted i _).handed

end Sys2Proof.Machine
end

section
/-! PROOF. What one tick of station time moves (R56 to R174, log entries 1 and 51): the tick in its two halves, each timer after it, and
O2. -/

namespace Sys2Proof.Machine

open Sys2Proof

variable {s t : State}

/-! ## The tick's two halves -/

/-- The timers finer than a second move the line, the reply pair, the channels, the contact, the gates and the link alone. -/
theorem advanceTick_eq (s : State) : ∃ pending line pair channels slide gates link,
    advanceTick s = { s with
      pending := pending, line := line, replyPair := pair, channels := channels, slide := slide, gates := gates, link := link } := by
  obtain ⟨p, more, h, -⟩ := hearReplyPair_eq (s.withLine (s.line.advance (lineRate s.startup.rateCode)))
  unfold advanceTick
  dsimp only
  rw [h]
  split <;> exact ⟨_, _, _, _, _, _, _, rfl⟩

/-- R174: QUIET's judgement at the whole second moves the entry timer alone. -/
theorem secondQuiet_eq (s : State) : ∃ e, secondQuiet s = s.withStartup { s.startup with entryTimer := e } := by
  unfold secondQuiet
  split
  · next hquiet htimer =>
    have hjudge : ∀ x, ∃ e, judgeQuiet (s.withStartup { s.startup with entryTimer := some x })
        = s.withStartup { s.startup with entryTimer := e } := fun x => by
      unfold judgeQuiet
      split
      · rw [show (s.withStartup { s.startup with entryTimer := some x }).startup.quiet = false from hquiet, if_neg (by simp)]
        split <;> exact ⟨_, rfl⟩
      · exact ⟨_, rfl⟩
    dsimp only
    split
    · exact hjudge _
    · exact ⟨_, rfl⟩
  · exact ⟨s.startup.entryTimer, rfl⟩

/-- The timers that count seconds move station time, the peer table, the hazard unit, the register and the signs alone. -/
theorem secondTimers_eq (s : State) : ∃ clock peers hazard register signs,
    secondTimers s = { s with
      clock := clock, peers := peers, hazard := hazard, register := register, signs := signs } := by
  unfold secondTimers secondServing
  dsimp only
  split <;> split <;> exact ⟨_, _, _, _, _, rfl⟩

/-- After the timers finer than a second a tick moves the parts that count seconds alone. -/
theorem advance_eq (h : s.phase ≠ .configRead) : ∃ clock peers hazard register signs timer,
    advance s = { advanceTick s with
      clock := clock, peers := peers, hazard := hazard, register := register, signs := signs,
      startup := { (advanceTick s).startup with entryTimer := timer } } := by
  unfold advance
  rw [if_neg h]
  dsimp only
  split
  · exact ⟨_, _, _, _, _, (advanceTick s).startup.entryTimer, rfl⟩
  · obtain ⟨c, p, z, r, g, hsecond⟩ := secondTimers_eq (advanceTick s)
    obtain ⟨e, hquiet⟩ := secondQuiet_eq (secondTimers (advanceTick s))
    rw [advanceSecond_eq]
    split
    · rw [hquiet, hsecond]
      exact ⟨_, _, _, _, _, _, rfl⟩
    · rw [hsecond]
      exact ⟨_, _, _, _, _, (advanceTick s).startup.entryTimer, rfl⟩

/-- R179: in CONFIG-READ no time runs. -/
theorem advance_of_configRead (h : s.phase = .configRead) : advance s = s := if_pos h

theorem advance_of_second (h : s.phase ≠ .configRead) (htick : s.clock.tick = 99999) :
    advance s = if s.phase.serving then secondQuiet (secondTimers (advanceTick s)) else secondTimers (advanceTick s) := by
  obtain ⟨_, _, _, _, _, _, _, hfine⟩ := advanceTick_eq s
  unfold advance
  rw [if_neg h]
  dsimp only
  rw [if_neg (show ¬s.clock.tick + 1 < ticksPerSecond by rw [htick]; decide), advanceSecond_eq,
    show (advanceTick s).phase = s.phase by rw [hfine]; rfl]

theorem clock_advance (h : s.phase ≠ .configRead) (htick : s.clock.tick < 99999) :
    (advance s).clock = { s.clock with tick := s.clock.tick + 1 } := by
  unfold advance
  rw [if_neg h]
  dsimp only
  rw [if_pos (show s.clock.tick + 1 < ticksPerSecond by unfold ticksPerSecond; omega)]
  rfl

/-! ## The timers finer than a second -/

theorem line_advance (h : s.phase ≠ .configRead) : (advance s).line = s.line.advance (lineRate s.startup.rateCode) := by
  obtain ⟨_, _, _, _, _, _, he⟩ := advance_eq h
  rw [he, ← line_advanceTick]

theorem gates_advance (h : s.phase ≠ .configRead) : (advance s).gates = (advanceTick s).gates := by
  obtain ⟨_, _, _, _, _, _, he⟩ := advance_eq h
  rw [he]

theorem link_advance (h : s.phase ≠ .configRead) : (advance s).link = (advanceTick s).link := by
  obtain ⟨_, _, _, _, _, _, he⟩ := advance_eq h
  rw [he]

theorem channels_advance (h : s.phase ≠ .configRead) : (advance s).channels = (advanceTick s).channels := by
  obtain ⟨_, _, _, _, _, _, he⟩ := advance_eq h
  rw [he]

theorem slide_advanceTick (s : State) : (advanceTick s).slide = if s.phase.operating then
    { s.slide with confirm := tickUp s.slide.confirm, rearm := tickUp s.slide.rearm } else s.slide := by
  obtain ⟨_, _, h, -⟩ := hearReplyPair_eq (s.withLine (s.line.advance (lineRate s.startup.rateCode)))
  unfold advanceTick
  dsimp only
  split
  · rfl
  · rw [h]
    rfl

theorem slide_advance (h : s.phase ≠ .configRead) : (advance s).slide = (advanceTick s).slide := by
  obtain ⟨_, _, _, _, _, _, he⟩ := advance_eq h
  rw [he]

theorem configRead_of_operating (h : s.phase.operating = true) : s.phase ≠ .configRead := fun hp => by
  rw [hp] at h
  cases h

/-- O2's line: R56, R69, R70, R72. -/
theorem line_advance_eq (h : s.phase ≠ .configRead) : (advance s).line = { s.line with
    idle := s.line.idle + lineRate s.startup.rateCode,
    wait := (match s.line.wait with
      | some (.counting cls extension draw x) => some (.counting cls extension draw (x + lineRate s.startup.rateCode))
      | w => w),
    sending := s.line.sending.map (fun x => { x with elapsed := x.elapsed + lineRate s.startup.rateCode }) } := by
  rw [line_advance h]
  unfold Line.advance
  cases s.line.wait with
  | none => rfl
  | some w => cases w <;> rfl

theorem channels_advance_inert (h : s.phase ≠ .configRead) (ho : s.phase.operating = false) :
    (advance s).channels = s.channels := by
  rw [channels_advance h]
  unfold advanceTick
  obtain ⟨_, _, he, -⟩ := hearReplyPair_eq (s.withLine (s.line.advance (lineRate s.startup.rateCode)))
  dsimp only
  rw [ho, if_neg (by simp), he]
  rfl

/-! ## The timers that count seconds -/

theorem advance_second_eq (h : s.phase ≠ .configRead) (htick : s.clock.tick = 99999) : ∃ timer,
    advance s = (secondTimers (advanceTick s)).withStartup { s.startup with entryTimer := timer }
      ∧ (s.phase.serving = false → timer = s.startup.entryTimer) := by
  obtain ⟨_, _, _, _, _, _, _, hfine⟩ := advanceTick_eq s
  obtain ⟨_, _, _, _, _, hsecond⟩ := secondTimers_eq (advanceTick s)
  obtain ⟨e, hquiet⟩ := secondQuiet_eq (secondTimers (advanceTick s))
  have hstartup : (secondTimers (advanceTick s)).startup = s.startup := by rw [hsecond, hfine]
  rw [advance_of_second h htick]
  split
  · next hserving =>
    refine ⟨e, by rw [hquiet, hstartup], fun hno => ?_⟩
    rw [hserving] at hno
    cases hno
  · refine ⟨s.startup.entryTimer, ?_, fun _ => rfl⟩
    rw [← hstartup]
    rfl

theorem peers_secondTimers (s : State) : (secondTimers s).peers = s.peers.second := by
  unfold secondTimers secondServing
  cases s.phase.operating <;> cases s.phase.serving <;> rfl

theorem clock_secondTimers (s : State) : (secondTimers s).clock = { s.clock with time := s.clock.time + 1, tick := 0 } := by
  unfold secondTimers secondServing
  cases s.phase.operating <;> cases s.phase.serving <;> rfl

theorem hazard_secondTimers (s : State) :
    (secondTimers s).hazard = if s.phase.operating then s.hazard.second else s.hazard := by
  unfold secondTimers secondServing
  cases s.phase.operating <;> cases s.phase.serving <;> rfl

theorem register_secondTimers (s : State) : (secondTimers s).register = if s.phase.operating then { s.register with
    slots := s.register.slots.map (Option.map ClosureRecord.second),
    walkerTimer := s.register.walkerTimer.map (· - 1) } else s.register := by
  unfold secondTimers secondServing
  cases s.phase.operating <;> cases s.phase.serving <;> rfl

theorem findPeer_map_second (a : Byte) (ps : List Peer) :
    findPeer a (ps.map Peer.second) = (findPeer a ps).map Peer.second := by
  unfold findPeer
  rw [List.find?_map]
  rfl

/-- R174: none of the conditions of QUIET turns on a timer. -/
theorem favourable_secondTick (s : State) : (secondTimers (advanceTick s)).favourable = s.favourable := by
  obtain ⟨_, _, _, _, _, _, _, heq⟩ := advanceTick_eq s
  obtain ⟨_, _, _, _, _, heq2⟩ := secondTimers_eq (advanceTick s)
  have hconfig : (secondTimers (advanceTick s)).config = s.config := by rw [heq2, heq]; rfl
  have hhazard : (secondTimers (advanceTick s)).hazard.effective = s.hazard.effective
      ∧ (secondTimers (advanceTick s)).hazard.degraded = s.hazard.degraded := by
    rw [hazard_secondTimers, show (advanceTick s).hazard = s.hazard by rw [heq]]
    split <;> exact ⟨rfl, rfl⟩
  have halert : ∀ c, ((secondTimers (advanceTick s)).channels.get c).alert = (s.channels.get c).alert := fun c => by
    rw [heq2]
    dsimp only
    rw [channels_advanceTick]
    split <;> rfl
  have hgate : ∀ g, ((secondTimers (advanceTick s)).gates.units.get g).state = (s.gates.units.get g).state := fun g => by
    rw [heq2]
    dsimp only
    rw [gate_advanceTick]
    split <;> rfl
  have hhealth : ∀ n, (secondTimers (advanceTick s)).health n = s.health n := fun n => by
    rw [← health_advanceTick s n]
    unfold State.health
    rw [link_secondTimers]
  have hrecords : ∀ (P : ClosureRecord → Prop), (∀ r, P r.second ↔ P r) →
      ((∀ i r, (secondTimers (advanceTick s)).recordAt i = some r → P r) ↔ ∀ i r, s.recordAt i = some r → P r) := by
    intro P hP
    have hat : ∀ i, (secondTimers (advanceTick s)).recordAt i = (s.recordAt i).map ClosureRecord.second
        ∨ (secondTimers (advanceTick s)).recordAt i = s.recordAt i := fun i => by
      rw [recordAt_secondTimers, show (advanceTick s).recordAt i = s.recordAt i by rw [heq]; rfl]
      split
      · exact .inl rfl
      · exact .inr rfl
    refine ⟨fun hall i r hr => ?_, fun hall i r hr => ?_⟩
    · rcases hat i with he | he
      · exact (hP r).mp (hall i _ (by rw [he, hr]; rfl))
      · exact hall i r (he.trans hr)
    · rcases hat i with he | he
      · obtain ⟨q, hq, rfl⟩ := Option.map_eq_some_iff.mp (he.symm.trans hr)
        exact (hP q).mpr (hall i q hq)
      · exact hall i r (he.symm.trans hr)
  have hpeers : (∀ p ∈ (secondTimers (advanceTick s)).peers.entries,
      (secondTimers (advanceTick s)).isNeighbour p = true → p.presence = .heard)
      ↔ ∀ p ∈ s.peers.entries, s.isNeighbour p = true → p.presence = .heard := by
    rw [entries_secondTimers, show (advanceTick s).peers = s.peers by rw [heq], List.forall_mem_map]
    refine forall₂_congr fun p _ => imp_congr (Eq.congr_left ?_) Iff.rfl
    unfold State.isNeighbour
    rw [hconfig]
    rfl
  rw [Bool.eq_iff_iff, favourable_iff, favourable_iff, hconfig, hhazard.1, hhazard.2, hpeers,
    hrecords _ fun r => by rw [relevant_congr hconfig, relevant_congr hconfig]; exact Iff.rfl,
    hrecords (fun r => r.state = .lifted ∨ r.own = false) fun _ => Iff.rfl]
  simp only [halert, hgate, hhealth, relevant_congr hconfig]

/-- R174: in RUNNING the entry timer counts on, or stops where the conditions fail before its end. -/
theorem entryTimer_secondQuiet (hrun : s.phase = .running) (hq : s.startup.quiet = false) :
    (secondQuiet s).startup.entryTimer = (match s.startup.entryTimer with
      | some x => if x + 1 < 300 ∧ s.favourable = false then none else some (min (x + 1) 300)
      | none => none) := by
  unfold secondQuiet
  rw [hq]
  cases ht : s.startup.entryTimer with
  | none => exact ht
  | some x =>
    have hjudge : judgeQuiet (s.withStartup { s.startup with entryTimer := some (min (x + 1) 300) })
        = if s.favourable then s.withStartup { s.startup with entryTimer := some (min (x + 1) 300) }
          else s.withStartup { s.startup with entryTimer := none } := by
      unfold judgeQuiet
      rw [if_pos (show (s.withStartup { s.startup with entryTimer := some (min (x + 1) 300) }).phase = .running from hrun),
        if_neg (show ¬(s.withStartup { s.startup with entryTimer := some (min (x + 1) 300) }).startup.quiet = true by
          rw [show (s.withStartup { s.startup with entryTimer := some (min (x + 1) 300) }).startup.quiet = false from hq]
          simp)]
      rfl
    dsimp only
    rw [hjudge]
    by_cases hlt : x + 1 < 300
    · rw [if_pos hlt]
      cases s.favourable with
      | true => simp
      | false => simp [hlt]
    · rw [if_neg hlt]
      simp [hlt]

/-! ## An idle step -/

theorem step_of_idle (h : s.pending = []) : step s = .next (idle s) := by
  unfold step
  rw [h]

theorem idle_of_due (h : due s ≠ []) : idle s = s.withPending (due s) := by
  unfold idle
  split
  · next hnone => exact absurd hnone h
  · rfl

theorem idle_of_none (h : due s = []) : idle s = advance s := by
  unfold idle
  rw [h]

/-- R6 to R8, R13, R19, R160, R162, R163: the timers of channels, contact and gates after a tick. -/
theorem operating_tick (h : s.phase.operating = true) :
    (∀ ch, (advance s).channels.get ch = (s.channels.get ch).advance (s.pins.sense.get ch))
      ∧ (advance s).slide = { s.slide with confirm := tickUp s.slide.confirm, rearm := tickUp s.slide.rearm }
      ∧ (advance s).gates.keyLocal = s.gates.keyLocal ∧ (advance s).gates.localDemand = s.gates.localDemand
      ∧ ∀ g, (advance s).gates.units.get g = (s.gates.units.get g).advance := by
  have hp := configRead_of_operating h
  refine ⟨fun ch => ?_, ?_, ?_, ?_, fun g => ?_⟩
  · rw [channels_advance hp, channels_advanceTick, if_pos h]
  · rw [slide_advance hp, slide_advanceTick, if_pos h]
  · rw [gates_advance hp, gates_advanceTick, if_pos h]
  · rw [gates_advance hp, gates_advanceTick, if_pos h]
  · rw [gates_advance hp, gate_advanceTick, if_pos h]

theorem inert_tick (hp : s.phase ≠ .configRead) (h : s.phase.operating = false) :
    (advance s).channels = s.channels ∧ (advance s).slide = s.slide ∧ (advance s).gates = s.gates := by
  have hn : ¬s.phase.operating = true := by simp [h]
  refine ⟨channels_advance_inert hp h, ?_, ?_⟩
  · rw [slide_advance hp, slide_advanceTick, if_neg hn]
  · rw [gates_advance hp, gates_advanceTick, if_neg hn]

/-- R45, R53, R105 to R108, R117: the hazard unit and the register at the end of a second. -/
theorem operating_second (h : s.phase.operating = true) (htick : s.clock.tick = 99999) :
    (advance s).hazard = s.hazard.second
      ∧ (advance s).register.walkerTimer = s.register.walkerTimer.map (fun x => x - 1)
      ∧ ∀ i r, s.recordAt i = some r → (advance s).recordAt i = some r.second := by
  obtain ⟨_, he, -⟩ := advance_second_eq (configRead_of_operating h) htick
  obtain ⟨_, _, _, _, _, _, _, hfine⟩ := advanceTick_eq s
  have hphase : (advanceTick s).phase.operating = true := by rw [hfine]; exact h
  refine ⟨?_, ?_, fun i r hr => ?_⟩
  · rw [show (advance s).hazard = (secondTimers (advanceTick s)).hazard by rw [he]; rfl, hazard_secondTimers, if_pos hphase,
      show (advanceTick s).hazard = s.hazard by rw [hfine]]
  · rw [show (advance s).register = (secondTimers (advanceTick s)).register by rw [he]; rfl, register_secondTimers,
      if_pos hphase, show (advanceTick s).register = s.register by rw [hfine]]
  · rw [show (advance s).recordAt i = (secondTimers (advanceTick s)).recordAt i by rw [he]; rfl, recordAt_secondTimers,
      if_pos hphase, show (advanceTick s).recordAt i = s.recordAt i by rw [hfine]; rfl, hr]
    rfl

theorem inert_second (hp : s.phase ≠ .configRead) (h : s.phase.operating = false) (htick : s.clock.tick = 99999) :
    (advance s).hazard = s.hazard ∧ (advance s).register = s.register := by
  obtain ⟨_, he, -⟩ := advance_second_eq hp htick
  obtain ⟨_, _, _, _, _, _, _, hfine⟩ := advanceTick_eq s
  have hphase : ¬(advanceTick s).phase.operating = true := by
    rw [show (advanceTick s).phase = s.phase by rw [hfine]; rfl, h]
    simp
  constructor
  · rw [show (advance s).hazard = (secondTimers (advanceTick s)).hazard by rw [he]; rfl, hazard_secondTimers, if_neg hphase,
      hfine]
  · rw [show (advance s).register = (secondTimers (advanceTick s)).register by rw [he]; rfl, register_secondTimers,
      if_neg hphase, hfine]

theorem signs_second (hp : s.phase ≠ .configRead) (htick : s.clock.tick = 99999) (n : Sign) :
    (advance s).signs.get n = if s.phase.serving then (s.signs.get n).second else s.signs.get n := by
  obtain ⟨_, he, -⟩ := advance_second_eq hp htick
  obtain ⟨_, _, _, _, _, _, _, hfine⟩ := advanceTick_eq s
  rw [show (advance s).signs = (secondTimers (advanceTick s)).signs by rw [he]; rfl, sign_secondTimers, hfine]
  rfl

theorem unserved_second (hp : s.phase ≠ .configRead) (htick : s.clock.tick = 99999) (h : s.phase.serving = false) :
    (advance s).signs = s.signs ∧ (advance s).startup = s.startup := by
  obtain ⟨_, he, htimer⟩ := advance_second_eq hp htick
  refine ⟨PerSign.ext_get fun n => ?_, ?_⟩
  · rw [signs_second hp htick, if_neg (by simp [h])]
  · rw [he, htimer h]
    rfl

/-- R174: QUIET and its entry timer at the end of a second of RUNNING. -/
theorem running_second (hrun : s.phase = .running) (htick : s.clock.tick = 99999) (hq : s.startup.quiet = false) :
    (advance s).startup.quiet = false ∧ (advance s).startup.entryTimer = (match s.startup.entryTimer with
      | some x => if x + 1 < 300 ∧ s.favourable = false then none else some (min (x + 1) 300)
      | none => none) := by
  have hp : s.phase ≠ .configRead := fun hp => by rw [hrun] at hp; cases hp
  obtain ⟨_, he, -⟩ := advance_second_eq hp htick
  obtain ⟨_, _, _, _, _, _, _, hfine⟩ := advanceTick_eq s
  obtain ⟨_, _, _, _, _, hsecond⟩ := secondTimers_eq (advanceTick s)
  have hstartup : (secondTimers (advanceTick s)).startup = s.startup := by rw [hsecond, hfine]
  refine ⟨by rw [he]; exact hq, ?_⟩
  rw [advance_of_second hp htick, if_pos (by rw [hrun]; rfl), entryTimer_secondQuiet, hstartup, favourable_secondTick]
  · exact (congrArg Startup.phase hstartup).trans hrun
  · exact (congrArg Startup.quiet hstartup).trans hq

/-- Settles O2: an idle step queues what is due or lets a tick pass; the tick moves the timers finer than a second, and the one
that ends a second those that count seconds. -/
theorem stepIdlesWhenNothingWaits : Obligations.StepIdlesWhenNothingWaits := by
  intro s hnone
  refine ⟨fun h => ?_, fun h => ?_, advance_of_configRead, clock_advance, fun hp => ⟨line_advance_eq hp, inert_tick hp,
    operating_tick⟩, fun hp htick => ?_⟩
  · rw [step_of_idle hnone, idle_of_due h]
  · rw [step_of_idle hnone, idle_of_none h]
  · obtain ⟨_, he, -⟩ := advance_second_eq hp htick
    obtain ⟨_, _, _, _, _, _, _, hfine⟩ := advanceTick_eq s
    have hpeers : (advance s).peers = s.peers.second := by
      rw [show (advance s).peers = (secondTimers (advanceTick s)).peers by rw [he]; rfl, peers_secondTimers, hfine]
    have hclock : (advance s).clock = { s.clock with time := s.clock.time + 1, tick := 0 } := by
      rw [show (advance s).clock = (secondTimers (advanceTick s)).clock by rw [he]; rfl, clock_secondTimers, hfine]
    refine ⟨hclock, fun a p hf => ?_, by rw [hpeers]; rfl, by rw [hpeers]; rfl, fun h => inert_second hp h htick,
      fun h => operating_second h htick, unserved_second hp htick, fun hserving hq => ⟨fun n => ?_, fun hrun =>
        running_second hrun htick hq⟩⟩
    · unfold State.findPeer
      rw [hpeers]
      exact (findPeer_map_second a _).trans (congrArg (Option.map Peer.second) hf)
    · rw [signs_second hp htick, if_pos hserving]
      rfl

end Sys2Proof.Machine
end

section
/-! PROOF. The sign link's sending, pausing and reply pair (R141, R142, R144), and its probe timer (R149): O50 and O54. -/

namespace Sys2Proof.Machine

open Sys2Proof

variable {s t : State}

/-! ## The link's commands and its tick (R142, R144) -/

theorem exec_pageSetSent {x : Transfer} (hx : s.link.transfer = some x) (hstate : s.link.state = .sending)
    (hsent : messageLength x.pages * 1000000 ≤ x.progress) :
    exec .pageSetSent s = .next (s.withLink { s.link with
      state := (if s.link.held then .pausedAwaiting else .awaiting), transfer := some { x with reply := 200000 } }) := by
  show execPageSetSent s = _
  unfold execPageSetSent
  rw [hx]
  exact congrArg _ (if_pos ⟨hstate, hsent⟩)

theorem exec_xoffReceived (h : s.phase.operating = true) :
    exec .xoffReceived s = .next (s.withLink { s.link with held := true, state := s.link.state.hold }) :=
  congrArg _ (if_pos h)

theorem exec_xonReceived (h : s.phase.operating = true) :
    exec .xonReceived s = .next (s.withLink { s.link with held := false, state := s.link.state.resume }) :=
  congrArg _ (if_pos h)

theorem LinkState.hold_of_ne {k : LinkState} (h : k ≠ .awaiting) : k.hold = k := by
  cases k with
  | awaiting => exact absurd rfl h
  | idle => rfl
  | sending => rfl
  | pausedSending => rfl
  | pausedAwaiting => rfl

theorem LinkState.resume_of_ne {k : LinkState} (h1 : k ≠ .pausedSending) (h2 : k ≠ .pausedAwaiting) : k.resume = k := by
  cases k with
  | pausedSending => exact absurd rfl h1
  | pausedAwaiting => exact absurd rfl h2
  | idle => rfl
  | sending => rfl
  | awaiting => rfl

variable {x : Transfer} {k : Link}

theorem Link.advance_sending (hx : k.transfer = some x) (hstate : k.state = .sending)
    (h : k.held = false ∨ (x.progress + 9600) / 1000000 = x.progress / 1000000
      ∨ messageLength x.pages ≤ (x.progress + 9600) / 1000000) :
    k.advance.state = .sending ∧ k.advance.transfer = some { x with progress := x.progress + 9600 } := by
  have hends : (k.held && x.endsChar (x.progress + 9600)) = false := by
    unfold Transfer.endsChar
    rw [Bool.and_eq_false_iff, decide_eq_false_iff_not]
    rcases h with h | h | h
    · exact .inl h
    · exact .inr fun hc => absurd hc.1 (by rw [show charUnits = 1000000 from rfl, h]; exact Nat.lt_irrefl _)
    · exact .inr fun hc => absurd hc.2 (Nat.not_lt.mpr h)
  unfold Link.advance
  rw [hx, hstate]
  dsimp only [signLinkRate]
  rw [hends]
  exact ⟨rfl, rfl⟩

theorem Link.advance_holds (hx : k.transfer = some x) (hstate : k.state = .sending) (hheld : k.held = true)
    (hchar : x.progress / 1000000 < (x.progress + 9600) / 1000000)
    (hmore : (x.progress + 9600) / 1000000 < messageLength x.pages) :
    k.advance.state = .pausedSending
      ∧ k.advance.transfer = some { x with progress := (x.progress + 9600) / 1000000 * 1000000 } := by
  have hends : (k.held && x.endsChar (x.progress + 9600)) = true := by
    unfold Transfer.endsChar
    rw [hheld]
    exact decide_eq_true ⟨hchar, hmore⟩
  unfold Link.advance
  rw [hx, hstate]
  dsimp only [signLinkRate]
  rw [hends]
  exact ⟨rfl, rfl⟩

theorem Link.advance_awaiting (hx : k.transfer = some x) (hstate : k.state = .awaiting) :
    k.advance.state = .awaiting ∧ k.advance.transfer = some { x with reply := x.reply - 1 } := by
  unfold Link.advance
  rw [hx, hstate]
  exact ⟨rfl, rfl⟩

theorem Link.advance_paused (hx : k.transfer = some x) (hstate : k.state = .pausedSending ∨ k.state = .pausedAwaiting) :
    k.advance.state = k.state ∧ k.advance.transfer = some { x with pause := x.pause + 1 } := by
  unfold Link.advance
  rw [hx]
  rcases hstate with h | h <;> rw [h] <;> exact ⟨rfl, rfl⟩

/-- The probe timers apart, a tick moves the link as `Link.advance` says. -/
theorem transfer_advance (h : s.phase.operating = true) :
    (advance s).link.state = s.link.advance.state ∧ (advance s).link.transfer = s.link.advance.transfer := by
  rw [link_advance (configRead_of_operating h), link_advanceTick, if_pos h]
  split <;> exact ⟨rfl, rfl⟩

/-! ## The reply pair (R141) -/

variable {p : ReplyPair} {c : ReplyChar}

theorem ReplyPair.nextChar_eq (p : ReplyPair) (e : Nat) :
    p.nextChar e = { p with arriving := p.arriving.tail, onPair := p.arriving.head?, elapsed := e } := by
  unfold ReplyPair.nextChar
  split
  · next h => rw [h]; rfl
  · next h =>
    rw [h]
    cases p
    cases h
    rfl

theorem ReplyPair.tick_received (hc : p.onPair = some c) (he : 1000000 ≤ p.elapsed + 9600) :
    p.tick = (p.nextChar (p.elapsed + 9600 - 1000000)).take c := by
  unfold ReplyPair.tick
  rw [hc]
  exact if_pos he

theorem ReplyPair.tick_ends (hp : p.onPair = none) (ha : p.arriving = []) (he : 2000000 ≤ p.elapsed + 9600)
    (hr : p.reply ≠ []) : p.tick = { p with elapsed := 2000000 }.endReply := by
  unfold ReplyPair.tick
  rw [hp, ha]
  dsimp only
  rw [if_neg (by simp), if_pos (show 2 * charUnits ≤ p.elapsed + signLinkRate from he), if_neg hr]
  rfl

theorem ReplyPair.tick_silent (hp : p.onPair = none) (h : ¬(p.arriving = [] ∧ 2000000 ≤ p.elapsed + 9600)) :
    p.tick.2 = none ∧ p.tick.1.reply = p.reply ∧ p.tick.1.framingError = p.framingError := by
  unfold ReplyPair.tick
  rw [hp]
  dsimp only
  by_cases ha : p.arriving = []
  · rw [if_neg (not_not_intro ha),
      if_neg (show ¬2 * charUnits ≤ p.elapsed + signLinkRate from fun he => h ⟨ha, he⟩)]
    exact ⟨rfl, rfl, rfl⟩
  · rw [if_pos ha, ReplyPair.nextChar_eq]
    exact ⟨rfl, rfl, rfl⟩

theorem ReplyPair.take_flow {i : Instr} (h : c.flow = some i) : p.take c = (p, some i) := by
  unfold ReplyPair.take
  rw [h]

theorem ReplyPair.take_char (h : c.flow = none) : p.take c
    = ({ p with reply := p.reply ++ [c.char], framingError := p.framingError || c.framingError }, none) := by
  unfold ReplyPair.take
  rw [h]

theorem ReplyPair.take_pair (p : ReplyPair) (c : ReplyChar) :
    (p.take c).1.onPair = p.onPair ∧ (p.take c).1.arriving = p.arriving := by
  unfold ReplyPair.take
  split <;> exact ⟨rfl, rfl⟩

theorem ReplyChar.flow_xon (hf : c.framingError = false) (h : c.char = 0x11#8) : c.flow = some .xonReceived := by
  unfold ReplyChar.flow
  rw [hf, h]
  rfl

theorem ReplyChar.flow_xoff (hf : c.framingError = false) (h : c.char = 0x13#8) : c.flow = some .xoffReceived := by
  unfold ReplyChar.flow
  rw [hf, h]
  rfl

theorem ReplyChar.flow_none (h : c.framingError = true ∨ (c.char ≠ 0x11#8 ∧ c.char ≠ 0x13#8)) : c.flow = none := by
  unfold ReplyChar.flow
  rcases h with h | ⟨h1, h2⟩
  · exact if_pos h
  · rw [if_neg h1, if_neg h2, ite_self]

theorem replyPair_advance (h : s.phase.operating = true) :
    (advance s).replyPair = s.replyPair.tick.1 ∧ (advance s).pending = s.pending ++ s.replyPair.tick.2.toList := by
  obtain ⟨_, _, _, _, _, _, he⟩ := advance_eq (configRead_of_operating h)
  have hhear : hearReplyPair (s.withLine (s.line.advance (lineRate s.startup.rateCode)))
      = ((s.withLine (s.line.advance (lineRate s.startup.rateCode))).withReplyPair s.replyPair.tick.1).withPending
        (s.pending ++ s.replyPair.tick.2.toList) := if_pos h
  have htick : (advanceTick s).replyPair = s.replyPair.tick.1
      ∧ (advanceTick s).pending = s.pending ++ s.replyPair.tick.2.toList := by
    unfold advanceTick
    dsimp only
    rw [if_pos h, hhear]
    exact ⟨rfl, rfl⟩
  rw [he]
  exact htick

/-- R140: elsewhere every character is discarded. -/
theorem replyPair_advance_inert (h : s.phase = .configFault) :
    (advance s).replyPair = ReplyPair.reset ∧ (advance s).pending = s.pending := by
  have hp : s.phase ≠ .configRead := by rw [h]; decide
  have ho : ¬s.phase.operating = true := by rw [h]; decide
  obtain ⟨_, _, _, _, _, _, he⟩ := advance_eq hp
  have hhear : hearReplyPair (s.withLine (s.line.advance (lineRate s.startup.rateCode)))
      = (s.withLine (s.line.advance (lineRate s.startup.rateCode))).withReplyPair .reset := if_neg ho
  have htick : (advanceTick s).replyPair = ReplyPair.reset ∧ (advanceTick s).pending = s.pending := by
    unfold advanceTick
    dsimp only
    rw [if_neg ho, hhear]
    exact ⟨rfl, rfl⟩
  rw [he]
  exact htick

/-- R141: a character received on the pair. -/
theorem replyPair_received (h : s.phase.operating = true) (hc : s.replyPair.onPair = some c)
    (he : 1000000 ≤ s.replyPair.elapsed + 9600) :
    (advance s).replyPair.onPair = s.replyPair.arriving.head? ∧ (advance s).replyPair.arriving = s.replyPair.arriving.tail
      ∧ (∀ i, c.flow = some i → (advance s).pending = s.pending ++ [i] ∧ (advance s).replyPair.reply = s.replyPair.reply
        ∧ (advance s).replyPair.framingError = s.replyPair.framingError)
      ∧ (c.flow = none → (advance s).pending = s.pending ∧ (advance s).replyPair.reply = s.replyPair.reply ++ [c.char]
        ∧ (advance s).replyPair.framingError = (s.replyPair.framingError || c.framingError)) := by
  obtain ⟨hpair, hpending⟩ := replyPair_advance h
  rw [ReplyPair.tick_received hc he, ReplyPair.nextChar_eq] at hpair hpending
  rw [hpair, hpending]
  obtain ⟨hon, harriving⟩ := ReplyPair.take_pair { s.replyPair with
    arriving := s.replyPair.arriving.tail, onPair := s.replyPair.arriving.head?,
    elapsed := s.replyPair.elapsed + 9600 - 1000000 } c
  refine ⟨hon, harriving, fun i hi => ?_, fun hn => ?_⟩
  · rw [ReplyPair.take_flow hi]
    exact ⟨rfl, rfl, rfl⟩
  · rw [ReplyPair.take_char hn]
    exact ⟨List.append_nil _, rfl, rfl⟩

/-- Settles O50: the link's commands and its tick by the state of the link, the reply pair's tick by what is on the pair. -/
theorem sendingPausesAndResumes : Obligations.SendingPausesAndResumes := by
  refine ⟨fun s ho => ⟨fun x hx hstate hsent => exec_pageSetSent hx hstate hsent, fun hne => ?_, fun ha => ?_, fun hps => ?_,
    fun hpa => ?_, fun h1 h2 => ?_⟩, fun s x ho hx => ?_, fun s => ?_⟩
  · rw [exec_xoffReceived ho, LinkState.hold_of_ne hne]
  · rw [exec_xoffReceived ho, ha]
    rfl
  · rw [exec_xonReceived ho, hps]
    rfl
  · rw [exec_xonReceived ho, hpa]
    rfl
  · rw [exec_xonReceived ho, LinkState.resume_of_ne h1 h2]
  · obtain ⟨hstate, htransfer⟩ := transfer_advance ho
    dsimp only
    rw [hstate, htransfer]
    exact ⟨Link.advance_sending hx, Link.advance_holds hx, Link.advance_awaiting hx, Link.advance_paused hx⟩
  · refine ⟨advance_of_configRead, replyPair_advance_inert, fun c ho hc he => ?_, fun ho ⟨hp, ha, he⟩ hr => ?_,
      fun ho hp hends => ?_⟩
    · obtain ⟨hon, harriving, hflow, hchar⟩ := replyPair_received ho hc he
      exact ⟨hon, harriving, fun hf h => hflow _ (ReplyChar.flow_xon hf h), fun hf h => hflow _ (ReplyChar.flow_xoff hf h),
        fun h => hchar (ReplyChar.flow_none h)⟩
    · obtain ⟨hpair, hpending⟩ := replyPair_advance ho
      rw [ReplyPair.tick_ends hp ha he hr] at hpair hpending
      rw [hpair, hpending]
      refine ⟨rfl, rfl, congrArg _ ?_⟩
      exact apply_ite Option.toList _ _ _
    · obtain ⟨hpair, hpending⟩ := replyPair_advance ho
      obtain ⟨hnone, hreply, hframing⟩ := ReplyPair.tick_silent hp fun ⟨ha, he⟩ => hends ⟨hp, ha, he⟩
      rw [hpair, hpending, hnone]
      exact ⟨List.append_nil _, hreply, hframing⟩

/-! ## The probe timer (R149) -/

/-- R149: in SETTLING and RUNNING a probe timer that counts takes each tick. -/
theorem probe_advance {n : Sign} {m : Nat} (h : (s.link.signs.get n).probe = .counting m) :
    ((advance s).link.signs.get n).probe = .counting (if s.phase.serving then m + 1 else m) := by
  by_cases hp : s.phase = .configRead
  · rw [advance_of_configRead hp, h, hp]
    rfl
  · rw [link_advance hp, signLink_advanceTick]
    split
    · show (s.link.signs.get n).probe.advance = _
      rw [h]
      rfl
    · exact h

theorem exec_probeDue_early {n : Sign} {m : Nat} (h : (s.link.signs.get n).probe = .counting m) (hm : m < 6000000) :
    exec (.probeDue n) s = .next s := by
  show execProbeDue n s = _
  unfold execProbeDue
  dsimp only
  rw [h]
  exact congrArg _ (if_neg (by
    rw [Bool.and_eq_true, decide_eq_true_eq]
    rintro ⟨-, -, hlate⟩
    exact absurd hlate (Nat.not_le.mpr hm)))

theorem outcome_probeDue {n : Sign} {m : Nat} (hfault : s.health n = .fault)
    (h : (s.link.signs.get n).probe = .counting m) (hserving : s.phase.serving = true) (hm : 6000000 ≤ m) :
    outcome (.probeDue n) s = arbitrate (s.setSignLink n { s.link.signs.get n with probe := .due }) := by
  unfold outcome exec execProbeDue
  dsimp only
  rw [h]
  exact if_pos (by rw [hserving]; exact decide_eq_true ⟨hfault, hm⟩)

/-- R142: the transfer's sign has no page set waiting any more, and a probe's timer stands. -/
theorem signLink_beginTransfer (s : State) (n m : Sign) (probe : Bool) (ps : PageSet) :
    (beginTransfer s n probe ps).link.signs.get m = if m = n then
      { s.link.signs.get n with
        waiting := none, probe := if probe then .stopped else (s.link.signs.get n).probe }
      else s.link.signs.get m :=
  signLinks_set _ _ _ _

/-- R149, R142: a probe that is due begins where the link is idle and no other sign is eligible. -/
theorem probe_begins {n : Sign} {ps : PageSet} (hserving : s.phase.serving = true) (hidle : s.link.state = .idle)
    (hfault : s.health n = .fault) (hdue : (s.link.signs.get n).probe = .due) (hoffered : (s.signs.get n).offered = some ps)
    (hothers : ∀ m, m ≠ n → s.eligible m = none) : arbitrate s = beginTransfer s n true ps := by
  have hn : s.eligible n = some (true, ps) := eligible_eq_some_iff.mpr (.inr ⟨rfl, hfault, hdue, hoffered⟩)
  cases hbest : bestSign s (turnOrder s.link.lastServed) with
  | none =>
    rw [bestSign_eq_none hbest n (mem_turnOrder _ _)] at hn
    cases hn
  | some b =>
    obtain ⟨m, p, qs⟩ := b
    have hm := bestSign_eligible hbest
    have hmn : m = n := by
      by_contra hne
      rw [hothers m hne] at hm
      cases hm
    subst hmn
    rw [hn] at hm
    cases hm
    exact arbitrate_of_best hbest hserving hidle

/-- Settles O54. -/
theorem probeBeginsWhenDue : Obligations.ProbeBeginsWhenDue := by
  intro s n m hfault hprobe
  refine ⟨probe_advance hprobe, fun _ hm => exec_probeDue_early hprobe hm, fun hserving hm hbusy => ?_,
    fun ps hserving hm hoffered hidle hothers => ?_⟩
  · rw [exec_eq_next, outcome_probeDue hfault hprobe hserving hm]
    refine congrArg _ (if_neg ?_)
    rw [Bool.and_eq_true, decide_eq_true_eq]
    exact fun h => hbusy h.2
  · rw [completes_iff, outcome_probeDue hfault hprobe hserving hm]
    have hbegins : arbitrate (s.setSignLink n { s.link.signs.get n with probe := .due })
        = beginTransfer (s.setSignLink n { s.link.signs.get n with probe := .due }) n true ps := by
      refine probe_begins hserving hidle ?_ ?_ hoffered fun k hk => ?_
      · show ((s.link.signs.set n _).get n).health = .fault
        rw [PerSign.get_set_same]
        exact hfault
      · show ((s.link.signs.set n _).get n).probe = .due
        rw [PerSign.get_set_same]
      · have hsame : (s.link.signs.set n { s.link.signs.get n with probe := .due }).get k = s.link.signs.get k :=
          PerSign.get_set_other _ _ _ _ hk
        rw [← hothers k hk]
        unfold State.eligible
        rw [show (s.setSignLink n { s.link.signs.get n with probe := .due }).link.signs.get k = s.link.signs.get k from hsame]
        rfl
    rw [hbegins]
    refine ⟨rfl, ?_, rfl, rfl⟩
    rw [signLink_beginTransfer, if_pos rfl]
    rfl

end Sys2Proof.Machine
end

section
/-! PROOF. How a transfer ends (R137, R143, R146 to R148): what an ending leaves of its sign, in the selector and in the controller. -/

namespace Sys2Proof.Machine

open Sys2Proof

variable {s t u : State} {x : Transfer}

/-! ## What the selector keeps of a sign -/

/-- The displayed-since map, the acknowledged page set and the refused set of a sign. -/
def State.Shown (s : State) (n : Sign) (d : List (RecId × Nat)) (a : Option PageSet) (f : List Byte) : Prop :=
  (s.signs.get n).displayed = d ∧ (s.signs.get n).acknowledged = a ∧ (s.signs.get n).refused = f

variable {d : List (RecId × Nat)} {a : Option PageSet} {f : List Byte} {n : Sign}

theorem shown_self (s : State) (n : Sign) :
    s.Shown n (s.signs.get n).displayed (s.signs.get n).acknowledged (s.signs.get n).refused := ⟨rfl, rfl, rfl⟩

/-- An evaluation, a page set handed and a judgement of QUIET leave all three. -/
theorem selectorKeeps_shown : SelectorKeeps (fun s => s.Shown n d a f) where
  pages {s} m c b o r hs := by
    unfold State.Shown at hs ⊢
    rw [signs_setSign]
    split
    · next h =>
      rw [h] at hs
      exact hs
    · exact hs
  aside h hq hs := by
    have hsigns := h.keeps hq (p := .signs) (by simp)
    unfold State.Shown at hs ⊢
    rwa [← hsigns]

theorem SelectorKeeps.signReport {law : State → Prop} (h : SelectorKeeps law) (n : Sign) (hs : law s) :
    law (Machine.signReport n s) := by
  unfold Machine.signReport
  split
  · exact h.putKeeps.evaluateGates hs
  · exact hs

theorem SelectorKeeps.healthReport {law : State → Prop} (h : SelectorKeeps law) (n : Sign) (hs : law s) :
    law (Machine.judgeQuiet (Machine.present .status (Machine.signReport n s))) :=
  h.judgeQuiet (h.aside (frame_present _ _) rfl (h.signReport n hs))

theorem SelectorKeeps.reportOk {law : State → Prop} (h : SelectorKeeps law) (n : Sign) (b : Bool) (hs : law s) :
    law (Machine.reportOk n b s) := by
  have hreport := h.healthReport n hs
  unfold Machine.reportOk
  dsimp only
  split
  · exact h.pages n ((Machine.judgeQuiet (Machine.present .status (Machine.signReport n s))).signs.get n).candidates
      _ _ _ hreport
  · exact hreport

/-! ## What the controller keeps of a sign -/

/-- R149, R151: a turn leaves the failures of a sign; its probe timer moves only where the probe is due, and then it stops. -/
theorem Turn.signLink_eq (h : Turn [] s t) (n : Sign) : (t.link.signs.get n).failures = (s.link.signs.get n).failures
    ∧ ((s.link.signs.get n).probe ≠ .due → (t.link.signs.get n).probe = (s.link.signs.get n).probe) := by
  have hlink : ∀ {qs : List Part} {a b : State}, Frame qs a b → Part.signLinks ∉ qs →
      (b.link.signs.get n).failures = (a.link.signs.get n).failures
        ∧ ((a.link.signs.get n).probe ≠ .due → (b.link.signs.get n).probe = (a.link.signs.get n).probe) := fun {_ a b} hf hq => by
    have hsigns : a.link.signs = b.link.signs := hf .signLinks hq
    rw [hsigns]
    exact ⟨rfl, fun _ => rfl⟩
  cases h with
  | aside h => exact hlink h (by decide)
  | present => exact hlink (frame_present _ s) (by decide)
  | follow => exact hlink (frame_followQueue s) (by decide)
  | endFrame => exact hlink (frame_endFrame s) (by decide)
  | remove => exact hlink (frame_removeEntries _ _ s) (by decide)
  | rebuild m => exact hlink (frame_rebuildSign m s) (by decide)
  | offer =>
    show (((s.link.signs.set _ _).get n).failures = _) ∧ (_ → ((s.link.signs.set _ _).get n).probe = _)
    rw [signLinks_set]
    split
    · next h => rw [h]; exact ⟨rfl, fun _ => rfl⟩
    · exact ⟨rfl, fun _ => rfl⟩
  | @transfer m p ps _ hidle h =>
    rw [signLink_beginTransfer]
    split
    · next hn =>
      rw [hn]
      refine ⟨rfl, fun hdue => ?_⟩
      rcases eligible_eq_some_iff.mp h with ⟨hp, -⟩ | ⟨-, -, hd, -⟩
      · rw [hp]
        rfl
      · exact absurd hd hdue
    · exact ⟨rfl, fun _ => rfl⟩
  | acknowledge => exact hlink (frame_acknowledge _ _ s) (by decide)
  | forget m => exact hlink (frame_forgetDisplayed m s) (by decide)
  | _ => exact ⟨rfl, fun _ => rfl⟩

theorem Turns.failures_eq (h : Turns [] s t) (n : Sign) :
    (t.link.signs.get n).failures = (s.link.signs.get n).failures :=
  h.keep (law := fun u => (u.link.signs.get n).failures = (s.link.signs.get n).failures)
    (fun _ _ h k => (h.signLink_eq n).1.trans k) rfl

theorem Turns.probe_eq (h : Turns [] s t) (n : Sign) (hd : (s.link.signs.get n).probe ≠ .due) :
    (t.link.signs.get n).probe = (s.link.signs.get n).probe :=
  h.keep (law := fun u => (u.link.signs.get n).probe = (s.link.signs.get n).probe)
    (fun _ _ h k => ((h.signLink_eq n).2 (k ▸ hd)).trans k) rfl

/-- R151: the arbiter leaves a sign as it is, or begins the transfer it is eligible for. -/
theorem signLink_arbitrate (s : State) (n : Sign) : (arbitrate s).link.signs.get n = s.link.signs.get n
    ∨ ∃ p ps, s.eligible n = some (p, ps) ∧ arbitrate s = beginTransfer s n p ps := by
  unfold arbitrate
  split
  · split
    · next m p ps hbest =>
      by_cases hm : n = m
      · subst hm
        exact .inr ⟨p, ps, bestSign_eligible hbest, rfl⟩
      · left
        rw [signLink_beginTransfer, if_neg hm]
    · exact .inl rfl
  · exact .inl rfl

/-! ## The replies that end a transfer -/

theorem awaited_eq {b : BitVec 4} (hx : s.link.transfer = some x)
    (hstate : s.link.state = .awaiting ∨ s.link.state = .pausedAwaiting) (hb : b.toNat = signAddress x.sign) :
    s.awaited b = some x := by
  unfold State.awaited
  rw [hx]
  exact if_pos ⟨hstate, hb⟩

/-! ## A success (R137, R147) -/

/-- The ids a page set carries. -/
theorem mem_carried {ps : PageSet} {id : RecId} :
    id ∈ ps.carried ↔ ps.pageA.carries = some id ∨ ∃ b, ps.pageB = some b ∧ b.carries = some id := by
  have hb : ps.pageB.bind Page.carries = some id ↔ ∃ b, ps.pageB = some b ∧ b.carries = some id := Option.bind_eq_some_iff
  rw [← hb]
  unfold PageSet.carried
  split
  · next ha hb => simp [ha, hb]
  · next ha hb => simp [ha, hb, eq_comm]
  · next ha hb => simp [ha, hb, eq_comm]
  · next i j ha hb =>
    rw [ha, hb]
    split
    · next hij => simp [hij, eq_comm]
    · simp [eq_comm]

theorem find_enteredAt (now : Nat) (id : RecId) : ∀ l : List RecId,
    (l.map (fun i => (i, now))).find? (fun p => p.1 = id) = if id ∈ l then some (id, now) else none
  | [] => rfl
  | i :: rest => by
    have ih := find_enteredAt now id rest
    rw [List.map_cons, List.find?_cons]
    by_cases hi : i = id
    · simp [hi]
    · simp only [hi, decide_false, List.mem_cons, Ne.symm hi, false_or]
      exact ih

theorem find_kept (map : List (RecId × Nat)) (carried : List RecId) (id : RecId) :
    (map.filter (fun e => decide (e.1 ∈ carried))).find? (fun p => p.1 = id)
      = if id ∈ carried then map.find? (fun p => p.1 = id) else none := by
  rw [List.find?_filter]
  split
  · next hc =>
    refine congrArg (fun q => map.find? q) (funext fun e => ?_)
    by_cases he : e.1 = id
    · simp [he, hc]
    · simp [he]
  · next hc =>
    rw [List.find?_eq_none]
    intro e _ he
    simp only [decide_eq_true_eq] at he
    exact hc (he.2 ▸ he.1)

/-- R137: a record keeps its time, or is entered now; the records that the page set does not carry leave the map. -/
theorem find_alignDisplayed (map : List (RecId × Nat)) (carried held : List RecId) (now : Nat) (id : RecId) (k : Nat) :
    ((alignDisplayed map carried held now).find? (fun p => p.1 = id)).map Prod.snd = some k ↔ id ∈ carried
      ∧ ((map.find? (fun p => p.1 = id)).map Prod.snd = some k
        ∨ ((map.find? (fun p => p.1 = id)).map Prod.snd = none ∧ id ∈ held ∧ k = now)) := by
  have hfound : map.find? (fun p => p.1 = id) = none ↔ id ∉ map.map Prod.fst := by
    rw [List.find?_eq_none, List.mem_map]
    simp only [decide_eq_true_eq, not_exists, not_and]
  unfold alignDisplayed
  rw [List.find?_append, find_kept, find_enteredAt]
  simp only [List.mem_filter, decide_eq_true_eq, ← hfound]
  by_cases hc : id ∈ carried
  · cases hm : map.find? (fun p => p.1 = id) with
    | some e => simp [hc]
    | none =>
      by_cases hh : id ∈ held <;> simp [hc, hh, eq_comm]
  · simp [hc]

/-- R147: a sign whose transfer succeeded takes the page set, after the report of its health where that changed. -/
theorem countSuccessful_eq (x : Transfer) (s : State) : countSuccessful x s
    = reportAck x (if s.health x.sign = .ok then succeeded x.sign s
        else reportOk x.sign (decide (s.health x.sign = .fault)) (succeeded x.sign s)) := rfl

theorem reportAck_shown (x : Transfer) (s : State) : (reportAck x s).Shown x.sign
    (alignDisplayed (s.signs.get x.sign).displayed x.pages.carried (s.records.map (fun p => p.2.id)) s.now)
    (some x.pages) (s.signs.get x.sign).refused := by
  have hack : (acknowledge x.sign x.pages s).Shown x.sign
      (alignDisplayed (s.signs.get x.sign).displayed x.pages.carried (s.records.map (fun p => p.2.id)) s.now)
      (some x.pages) (s.signs.get x.sign).refused := by
    unfold State.Shown acknowledge
    rw [signs_setSign, if_pos rfl]
    exact ⟨rfl, rfl, rfl⟩
  unfold reportAck
  dsimp only
  split
  · exact hack
  · exact selectorKeeps_shown.signReport _ hack

/-- R137: the report of a sign's health moves neither its maps nor the records and station time that they are aligned by. -/
theorem reportedOk_eq (n : Sign) (b : Bool) (s : State) :
    (reportOk n b s).Shown n (s.signs.get n).displayed (s.signs.get n).acknowledged (s.signs.get n).refused
      ∧ (reportOk n b s).records = s.records ∧ (reportOk n b s).now = s.now := by
  have hf := frame_reportOk n b s
  have hclock : s.clock = (reportOk n b s).clock := hf .clock (by decide)
  refine ⟨selectorKeeps_shown.reportOk n b (shown_self s n), ?_, ?_⟩
  · exact congrArg (fun r : Register => indexed 0 r.slots) (hf.register_eq (by decide))
  · exact congrArg Clock.time hclock.symm

theorem countSuccessful_shown (x : Transfer) (s : State) : (countSuccessful x s).Shown x.sign
    (alignDisplayed (s.signs.get x.sign).displayed x.pages.carried (s.records.map (fun p => p.2.id)) s.now)
    (some x.pages) (s.signs.get x.sign).refused := by
  rw [countSuccessful_eq]
  split
  · exact reportAck_shown x (succeeded x.sign s)
  · obtain ⟨⟨hd, -, hr⟩, hrecords, hnow⟩ := reportedOk_eq x.sign (decide (s.health x.sign = .fault)) (succeeded x.sign s)
    have h := reportAck_shown x (reportOk x.sign (decide (s.health x.sign = .fault)) (succeeded x.sign s))
    rw [hd, hr, hrecords, hnow] at h
    exact h

/-- Settles O51: the endings of a success, and the map that the acknowledged page set leaves. -/
theorem matchingAckIsASuccess : Obligations.MatchingAckIsASuccess := by
  intro s x b hx hstate hb
  rw [completes_iff]
  have houtcome : outcome (.ackReceived b (checkValue x.sign x.pages)) s
      = arbitrate (countSuccessful x (endTransfer s)) := by
    unfold outcome exec execAckReceived
    dsimp only
    rw [awaited_eq hx hstate hb]
    exact if_pos rfl
  have hturns : Turns [] (succeeded x.sign (endTransfer s)) (arbitrate (countSuccessful x (endTransfer s))) :=
    (countSuccessful_turns x _).trans (turns_arbitrate _)
  have hlink : (succeeded x.sign (endTransfer s)).link.signs.get x.sign
      = { s.link.signs.get x.sign with health := .ok, failures := 0, probe := .stopped } := PerSign.get_set_same _ _ _
  have hshown := selectorKeeps_shown.arbitrate (countSuccessful_shown x (endTransfer s))
  have hregister : (outcome (.ackReceived b (checkValue x.sign x.pages)) s).register = s.register :=
    (frame_outcome _ s).register_eq rfl
  rw [houtcome] at hregister ⊢
  obtain ⟨hdisplayed, hack, -⟩ := hshown
  refine ⟨(hturns.health_eq _).trans (health_succeeded _ _), ?_, ?_, hack, hdisplayed, hregister, fun id k => ?_⟩
  · rw [hturns.failures_eq, hlink]
  · rw [hturns.probe_eq _ (by rw [hlink]; exact nofun), hlink]
  · have hheld : id ∈ s.records.map (fun p => p.2.id) ↔ ∃ i r, s.recordAt i = some r ∧ r.id = id := by
      simp [mem_records]
    unfold State.displayedSince
    rw [hdisplayed, ← mem_carried, ← hheld]
    exact find_alignDisplayed _ _ _ _ _ _

end Sys2Proof.Machine
end

section
/-! PROOF. The failures of a transfer and the refused template (R133, R143, R146, R148): O52 and O53. -/

namespace Sys2Proof.Machine

open Sys2Proof

variable {s t u : State} {x : Transfer} {n : Sign}

/-! ## What a failure makes of the state (R146) -/

theorem countFailure_fault (h : s.health x.sign = .fault) : countFailure x s = probeFailed x.sign s := by
  unfold countFailure
  dsimp only
  split
  · next hn => exact absurd (h.symm.trans hn) (by decide)
  · rfl
  · next hn => exact absurd h hn

theorem countFailure_once (hfit : s.health x.sign ≠ .notFitted) (hok : s.health x.sign ≠ .fault)
    (h : (s.link.signs.get x.sign).failures < 2) : countFailure x s = failedOnce x s := by
  unfold countFailure
  dsimp only
  split
  · next hn => exact absurd hn hfit
  · next hn => exact absurd hn hok
  · exact if_neg (by omega)

theorem countFailure_third (hfit : s.health x.sign ≠ .notFitted) (hok : s.health x.sign ≠ .fault)
    (h : 2 ≤ (s.link.signs.get x.sign).failures) :
    countFailure x s = judgeQuiet (present .status (signReport x.sign (faulted x.sign s))) := by
  unfold countFailure
  dsimp only
  split
  · next hn => exact absurd hn hfit
  · next hn => exact absurd hn hok
  · exact if_pos (by omega)

/-- The page sets that wait, and QUIET clear. -/
def State.LinkAwake (s : State) (k : Link) : Prop := s.startup.quiet = false ∧ s.link = k

variable {k : Link}

theorem linkAwake_of_frame {qs : List Part} (hf : Frame qs s t)
    (hq : Part.quiet ∉ qs) (hl : Part.apart [.linkState, .signLinks] qs = true) (hs : s.LinkAwake k) : t.LinkAwake k := by
  obtain ⟨hquiet, hlink⟩ := hs
  have h := hf .quiet hq
  refine ⟨h.1.symm.trans hquiet, ?_⟩
  rw [← hlink]
  exact hf.link_eq hl

/-- R174, R176: where QUIET is clear, its judgement moves the entry timer at most. -/
theorem linkAwake_judgeQuiet (hs : s.LinkAwake k) : (Machine.judgeQuiet s).LinkAwake k := by
  have hquiet : ¬s.startup.quiet = true := by
    rw [hs.1]
    simp
  unfold Machine.judgeQuiet
  split
  · split
    · split
      · exact hs
      · exact hs
    · exact hs
  · exact hs

theorem putKeeps_linkAwake : PutKeeps (fun s => s.LinkAwake k) where
  put {g x s} hs := by
    have hset : (s.setGate g x).LinkAwake k := hs
    unfold putGate
    dsimp only
    have hstatus : (if x.state ≠ (s.gates.units.get g).state ∨ x.slow ≠ (s.gates.units.get g).slow
        then present .status (s.setGate g x) else s.setGate g x).LinkAwake k := by
      split
      · exact linkAwake_of_frame (frame_present _ _) (by decide) rfl hset
      · exact hset
    split
    · exact linkAwake_judgeQuiet hstatus
    · exact hstatus
  same _ hs := hs

theorem linkAwake_healthReport (n : Sign) (hs : s.LinkAwake k) :
    (judgeQuiet (present .status (signReport n s))).LinkAwake k := by
  have hreport : (signReport n s).LinkAwake k := by
    unfold signReport
    split
    · exact putKeeps_linkAwake.evaluateGates hs
    · exact hs
  exact linkAwake_judgeQuiet (linkAwake_of_frame (frame_present _ _) (by decide) rfl hreport)

/-! ## The three cases of a failed transfer -/

/-- What O52 says of a failed transfer. -/
def FailureCounted (s : State) (x : Transfer) (t : State) : Prop :=
  let k := s.link.signs.get x.sign
  let k' := t.link.signs.get x.sign
  (s.health x.sign ≠ .fault → k'.failures = min (k.failures + 1) 3)
    ∧ (s.health x.sign ≠ .fault → k.failures < 2 →
        t.health x.sign = s.health x.sign ∧ (t.signs.get x.sign).displayed = (s.signs.get x.sign).displayed
          ∧ (t.signs.get x.sign).acknowledged = (s.signs.get x.sign).acknowledged
          ∧ (k'.waiting = some (k.waiting.getD x.pages)
            ∨ ∃ y, t.link.transfer = some y ∧ y.sign = x.sign ∧ y.pages = k.waiting.getD x.pages))
    ∧ (s.health x.sign ≠ .fault → 2 ≤ k.failures →
        t.health x.sign = .fault ∧ k'.probe = .counting 0
          ∧ (t.signs.get x.sign).displayed = [] ∧ (t.signs.get x.sign).acknowledged = none
          ∧ (s.startup.quiet = false → k'.waiting = k.waiting))
    ∧ (s.health x.sign = .fault →
        t.health x.sign = .fault ∧ k'.failures = 3 ∧ k'.probe = .counting 0 ∧ k'.waiting = k.waiting
          ∧ t.signs = s.signs)

/-- R151: a sign in FAULT whose probe is not due is passed over. -/
theorem signLink_arbitrate_of_fault (hfault : s.health n = .fault) (hd : (s.link.signs.get n).probe ≠ .due) :
    (arbitrate s).link.signs.get n = s.link.signs.get n := by
  rcases signLink_arbitrate s n with h | ⟨p, ps, he, -⟩
  · exact h
  · rcases eligible_eq_some_iff.mp he with ⟨-, hh, -⟩ | ⟨-, -, hdue, -⟩
    · rw [hfault] at hh
      exact absurd hh (by decide)
    · exact absurd hdue hd

/-- R149: a failed probe. -/
theorem failTransfer_fault (h : s.health x.sign = .fault) :
    (failTransfer x s).health x.sign = .fault
      ∧ (failTransfer x s).link.signs.get x.sign = { s.link.signs.get x.sign with failures := 3, probe := .counting 0 }
      ∧ (failTransfer x s).signs = s.signs := by
  have hcount : failTransfer x s = arbitrate (probeFailed x.sign (endTransfer s)) := by
    unfold failTransfer
    rw [countFailure_fault (s := endTransfer s) h]
  have hlink : (probeFailed x.sign (endTransfer s)).link.signs.get x.sign
      = { s.link.signs.get x.sign with failures := 3, probe := .counting 0 } := PerSign.get_set_same _ _ _
  have hfault : (probeFailed x.sign (endTransfer s)).health x.sign = .fault := (congrArg SignLink.health hlink).trans h
  have harbitrate := signLink_arbitrate_of_fault hfault (by rw [hlink]; exact nofun)
  rw [hlink] at harbitrate
  rw [hcount]
  exact ⟨(congrArg SignLink.health harbitrate).trans h, harbitrate, signs_arbitrate _⟩

/-- R146: a failure below the third in a row. -/
theorem failTransfer_once (hfit : s.health x.sign ≠ .notFitted) (hok : s.health x.sign ≠ .fault)
    (h : (s.link.signs.get x.sign).failures < 2) :
    (failTransfer x s).health x.sign = s.health x.sign
      ∧ ((failTransfer x s).link.signs.get x.sign).failures = (s.link.signs.get x.sign).failures + 1
      ∧ (failTransfer x s).signs = s.signs
      ∧ (((failTransfer x s).link.signs.get x.sign).waiting = some ((s.link.signs.get x.sign).waiting.getD x.pages)
        ∨ ∃ y, (failTransfer x s).link.transfer = some y ∧ y.sign = x.sign
          ∧ y.pages = (s.link.signs.get x.sign).waiting.getD x.pages) := by
  have hcount : failTransfer x s = arbitrate (failedOnce x (endTransfer s)) := by
    unfold failTransfer
    rw [countFailure_once (s := endTransfer s) hfit hok h]
  have hwaiting : (if (s.link.signs.get x.sign).waiting.isSome then (s.link.signs.get x.sign).waiting else some x.pages)
      = some ((s.link.signs.get x.sign).waiting.getD x.pages) := by
    cases (s.link.signs.get x.sign).waiting <;> rfl
  have hlink : (failedOnce x (endTransfer s)).link.signs.get x.sign = { s.link.signs.get x.sign with
      failures := (s.link.signs.get x.sign).failures + 1,
      waiting := some ((s.link.signs.get x.sign).waiting.getD x.pages) } := by
    rw [← hwaiting, show (s.link.signs.get x.sign).failures + 1 = min ((s.link.signs.get x.sign).failures + 1) 3 by omega]
    exact PerSign.get_set_same _ _ _
  have hhealth : (failedOnce x (endTransfer s)).health x.sign = s.health x.sign := by
    unfold State.health
    rw [hlink]
  rw [hcount]
  refine ⟨((turns_arbitrate _).health_eq _).trans hhealth, ?_, signs_arbitrate _, ?_⟩
  · exact ((turns_arbitrate _).failures_eq _).trans (congrArg SignLink.failures hlink)
  · rcases signLink_arbitrate (failedOnce x (endTransfer s)) x.sign with hsame | ⟨p, ps, he, hbegin⟩
    · left
      rw [hsame, hlink]
    · right
      rw [hbegin]
      refine ⟨_, rfl, rfl, ?_⟩
      rcases eligible_eq_some_iff.mp he with ⟨-, -, hw⟩ | ⟨-, hfault, -⟩
      · rw [hlink] at hw
        exact (Option.some.inj hw).symm
      · exact absurd (hhealth.symm.trans hfault) hok

/-- R146, R138: the third failure in a row. -/
theorem failTransfer_third (hfit : s.health x.sign ≠ .notFitted) (hok : s.health x.sign ≠ .fault)
    (h : 2 ≤ (s.link.signs.get x.sign).failures) :
    (failTransfer x s).health x.sign = .fault
      ∧ ((failTransfer x s).link.signs.get x.sign).failures = 3
      ∧ ((failTransfer x s).link.signs.get x.sign).probe = .counting 0
      ∧ ((failTransfer x s).signs.get x.sign).displayed = [] ∧ ((failTransfer x s).signs.get x.sign).acknowledged = none
      ∧ (s.startup.quiet = false →
        ((failTransfer x s).link.signs.get x.sign).waiting = (s.link.signs.get x.sign).waiting) := by
  have hlink : (faulted x.sign (endTransfer s)).link.signs.get x.sign
      = { s.link.signs.get x.sign with health := .fault, failures := 3, probe := .counting 0 } := PerSign.get_set_same _ _ _
  have hcount : failTransfer x s
      = arbitrate (judgeQuiet (present .status (signReport x.sign (faulted x.sign (endTransfer s))))) := by
    unfold failTransfer
    rw [countFailure_third (s := endTransfer s) hfit hok h]
  have hreports : Turns [] (faulted x.sign (endTransfer s))
      (judgeQuiet (present .status (signReport x.sign (faulted x.sign (endTransfer s))))) :=
    (turns_signReport _ _).trans ((turns_status _).trans (turns_judgeQuiet _))
  have hshown : (faulted x.sign (endTransfer s)).Shown x.sign [] none (s.signs.get x.sign).refused := by
    unfold State.Shown faulted forgetDisplayed
    rw [signs_setSign, if_pos rfl]
    exact ⟨rfl, rfl, rfl⟩
  obtain ⟨hdisplayed, hack, -⟩ := selectorKeeps_shown.arbitrate (selectorKeeps_shown.healthReport x.sign hshown)
  have hturns := hreports.trans (turns_arbitrate _)
  have hfault : (faulted x.sign (endTransfer s)).health x.sign = .fault := congrArg SignLink.health hlink
  have hprobe : ((faulted x.sign (endTransfer s)).link.signs.get x.sign).probe ≠ .due := by
    rw [hlink]
    exact nofun
  rw [hcount]
  refine ⟨(hturns.health_eq _).trans hfault, ?_, ?_, hdisplayed, hack, fun hquiet => ?_⟩
  · exact (hturns.failures_eq _).trans (congrArg SignLink.failures hlink)
  · exact (hturns.probe_eq _ hprobe).trans (congrArg SignLink.probe hlink)
  · rw [signLink_arbitrate_of_fault ((hreports.health_eq _).trans hfault) (by rwa [hreports.probe_eq _ hprobe])]
    have hawake := (linkAwake_healthReport (s := faulted x.sign (endTransfer s)) x.sign
      ⟨(hquiet : (faulted x.sign (endTransfer s)).startup.quiet = false), rfl⟩).2
    rw [hawake, hlink]

theorem failureCounted_failTransfer (hfit : s.health x.sign ≠ .notFitted) : FailureCounted s x (failTransfer x s) := by
  refine ⟨fun hok => ?_, fun hok h => ?_, fun hok h => ?_, fun hfault => ?_⟩
  · rcases Nat.lt_or_ge (s.link.signs.get x.sign).failures 2 with h | h
    · obtain ⟨-, hfailures, -⟩ := failTransfer_once hfit hok h
      omega
    · obtain ⟨-, hfailures, -⟩ := failTransfer_third hfit hok h
      omega
  · obtain ⟨hhealth, -, hsigns, hwaiting⟩ := failTransfer_once hfit hok h
    exact ⟨hhealth, by rw [hsigns], by rw [hsigns], hwaiting⟩
  · obtain ⟨hhealth, -, hprobe, hdisplayed, hack, hwaiting⟩ := failTransfer_third hfit hok h
    exact ⟨hhealth, hprobe, hdisplayed, hack, hwaiting⟩
  · obtain ⟨hhealth, hlink, hsigns⟩ := failTransfer_fault hfault
    rw [hlink]
    exact ⟨hhealth, rfl, rfl, rfl, hsigns⟩

/-- Settles O52: each of the four endings is one failure of the sign. -/
theorem failedTransfersCountTowardFault : Obligations.FailedTransfersCountTowardFault := by
  intro s x a page check hx hfit
  have hclaim : ∀ {c : Instr}, outcome c s = failTransfer x s → Completes c s (FailureCounted s x) := fun {c} h =>
    completes_iff.mpr (by rw [h]; exact failureCounted_failTransfer hfit)
  refine ⟨fun hstate ha => ⟨hclaim ?_, fun hcheck => hclaim ?_⟩, fun hstate hreply => hclaim ?_, fun hstate hpause => hclaim ?_⟩
  · unfold outcome exec execNakBadFormat
    dsimp only
    rw [awaited_eq hx hstate ha]
  · unfold outcome exec execAckReceived
    dsimp only
    rw [awaited_eq hx hstate ha]
    exact if_neg hcheck
  · unfold outcome exec execReplyTimeout
    dsimp only
    rw [hx]
    exact if_pos ⟨hstate, hreply⟩
  · have hpaused : s.link.state.isPaused = true := by
      rcases hstate with h | h <;> rw [h] <;> rfl
    unfold outcome exec execPauseLimit
    dsimp only
    rw [hx]
    exact if_pos ⟨hpaused, hpause⟩

/-! ## A refused template (R133, R148) -/

/-- R133: a template joins the refused set at its end, the oldest of 8 leaving, unless it is 0 or in the set. -/
theorem refuseTemplate_spec (a : Byte) (old : List Byte) :
    (a = 0#8 ∨ a ∈ old → refuseTemplate a old = old)
      ∧ (a ≠ 0#8 → a ∉ old → refuseTemplate a old = (if old.length < 8 then old else old.tail) ++ [a]) := by
  unfold refuseTemplate
  refine ⟨fun h => if_pos h, fun h0 hnew => ?_⟩
  rw [if_neg (not_or.mpr ⟨h0, hnew⟩), List.drop_one]
  split <;> rfl

/-- R148: a refusal grows the sign's refused set, and the evaluation after it leaves the three of them. -/
theorem countRefusal_shown (x : Transfer) (page : BitVec 4) (s : State) : (countRefusal x page s).Shown x.sign
    (s.signs.get x.sign).displayed (s.signs.get x.sign).acknowledged
    (refuseTemplate (refusedTemplate x.pages page) (s.signs.get x.sign).refused) := by
  have hgrown : (s.setSign x.sign { s.signs.get x.sign with
      refused := refuseTemplate (refusedTemplate x.pages page) (s.signs.get x.sign).refused }).Shown x.sign
      (s.signs.get x.sign).displayed (s.signs.get x.sign).acknowledged
      (refuseTemplate (refusedTemplate x.pages page) (s.signs.get x.sign).refused) := by
    unfold State.Shown
    rw [signs_setSign, if_pos rfl]
    exact ⟨rfl, rfl, rfl⟩
  have hevaluated := selectorKeeps_shown.evaluateSign x.sign hgrown
  unfold countRefusal
  dsimp only
  split
  · exact hevaluated
  · exact hevaluated

/-- R148: a refusal counts nothing, and a probe that it ends is due again. -/
theorem countRefusal_link (x : Transfer) (page : BitVec 4) (s : State) :
    (countRefusal x page s).health x.sign = s.health x.sign
      ∧ ((countRefusal x page s).link.signs.get x.sign).failures = (s.link.signs.get x.sign).failures
      ∧ (x.probe = true → s.health x.sign = .fault → ((countRefusal x page s).link.signs.get x.sign).probe = .due) := by
  have hturns : Turns [] s (evaluateSign x.sign (s.setSign x.sign { s.signs.get x.sign with
      refused := refuseTemplate (refusedTemplate x.pages page) (s.signs.get x.sign).refused })) :=
    (Turn.refuse x.sign _ s).turns.trans (turns_evaluateSign x.sign _)
  have hhealth := hturns.health_eq x.sign
  have hfailures := hturns.failures_eq x.sign
  unfold countRefusal
  dsimp only
  split
  · next h =>
    unfold State.setSignLink State.health State.withLink
    dsimp only
    rw [PerSign.get_set_same]
    exact ⟨hhealth, hfailures, fun _ _ => rfl⟩
  · next h => exact ⟨hhealth, hfailures, fun hp hf => absurd ⟨hp, hhealth.trans hf⟩ h⟩

/-- Settles O53: the refusal's evaluation and its probe, then the arbiter's choice. -/
theorem refusedTemplateIsNoFailure : Obligations.RefusedTemplateIsNoFailure := by
  intro s x a page hx hstate ha
  rw [completes_iff]
  have houtcome : outcome (.nakUnknownTemplate a page) s = arbitrate (countRefusal x page (endTransfer s)) := by
    unfold outcome exec execNakUnknownTemplate
    dsimp only
    rw [awaited_eq hx hstate ha]
  obtain ⟨hhealth, hfailures, hdue⟩ := countRefusal_link x page (endTransfer s)
  obtain ⟨hdisplayed, hack, hrefused⟩ := countRefusal_shown x page (endTransfer s)
  have hjoins := fun b => refuseTemplate_spec b (s.signs.get x.sign).refused
  have hgrown : ((arbitrate (countRefusal x page (endTransfer s))).signs.get x.sign).refused
      = refuseTemplate (refusedTemplate x.pages page) (s.signs.get x.sign).refused := by
    rw [signs_arbitrate]
    exact hrefused
  have hnone : refuseTemplate 0#8 (s.signs.get x.sign).refused = (s.signs.get x.sign).refused := (hjoins _).1 (.inl rfl)
  rw [houtcome]
  refine ⟨((turns_arbitrate _).health_eq _).trans hhealth, ((turns_arbitrate _).failures_eq _).trans hfailures, hgrown, ?_, ?_,
    ?_, fun hprobe hfault => ?_⟩
  · rw [signs_arbitrate]
    exact hdisplayed
  · rw [signs_arbitrate]
    exact hack
  · dsimp only
    rw [hgrown]
    refine ⟨fun hp => ?_, fun b hp hb => ?_, fun hp hb => ?_, fun h1 h2 => ?_⟩
    · rw [show refusedTemplate x.pages page = x.pages.pageA.template from if_pos hp]
      exact hjoins _
    · rw [show refusedTemplate x.pages page = b.template by rw [hp]; unfold refusedTemplate; rw [hb]; rfl]
      exact hjoins _
    · rw [show refusedTemplate x.pages page = 0#8 by rw [hp]; unfold refusedTemplate; rw [hb]; rfl]
      exact hnone
    · rw [show refusedTemplate x.pages page = 0#8 by unfold refusedTemplate; rw [if_neg h1, if_neg h2]]
      exact hnone
  · rcases signLink_arbitrate (countRefusal x page (endTransfer s)) x.sign with hsame | ⟨p, ps, he, hbegin⟩
    · left
      rw [hsame]
      exact hdue hprobe hfault
    · right
      have hh : (countRefusal x page (endTransfer s)).health x.sign = .fault := hhealth.trans hfault
      rcases eligible_eq_some_iff.mp he with ⟨-, hok, -⟩ | ⟨hp, -, -, hoffered⟩
      · rw [hh] at hok
        exact absurd hok (by decide)
      · rw [hbegin, hp]
        refine ⟨ps, hoffered, ?_, rfl⟩
        rw [signLink_beginTransfer, if_pos rfl]
        rfl

end Sys2Proof.Machine
end

section
/-! PROOF. O56 fails: at an hour close a record can come in force and be lifted again within the one command (R49, R52, R105), and its
lead, shorter than that of the record which demands the gate before and after, closes the gate. -/

namespace Sys2Proof.Machine

open Sys2Proof

/-- A record over the station's own chainage 0. -/
def recordAtStation (kind : ClosureKind) (origin serial : Byte) (state : ClosureState) (own : Bool) : ClosureRecord :=
  { id := ⟨origin, serial⟩, revision := 0, kind := kind, scopeLo := 0, scopeHi := 100, state := state, lead := 100,
    duration := none, template := 0, age := 0, stale := false, display := 600, own := own }

/-- Station 1 in RUNNING at its first hour close, the second quiet one for the lift (R52): an own AVALANCHE record stands at index 0,
index 1 is free, a SLIDE record of station 5 demands gate EAST, and LIFTED own records fill the register. The announce lead is 0, so a
record that autoclose originates is in force at once (R105); the slide lead is 600 s, the gate lead 120 s. -/
def hourCloseWithShortLead : State :=
  { State.reset with
    startup := { Startup.reset with
      phase := .running
      address := 1
      config := { StationConfig.defaults with
        autoclose := some 2
        announceLead := 0
        fitted := ⟨true, false⟩
        slideLead := 600 } }
    clock := { time := 3600, tick := 0, minutesClosed := 60, hoursClosed := 0 }
    hazard := { Hazard.reset with
      floorLevel := 2
      floorRemaining := 6000
      effective := 2
      liftCounter := 1 }
    register := { Register.reset with
      slots := [some (recordAtStation .avalanche 1 0 .announced true), none, some (recordAtStation .slide 5 0 .inForce false)]
        ++ (List.range 13).map (fun k => some (recordAtStation .slide 1 (BitVec.ofNat 8 (k + 1)) .lifted true)) }
    retained := { Retained.lost with ownSerial := 100 }
    gates := { Gates.reset with
      units := ⟨{ GateUnit.reset with
        state := .closePending
        demand := some .closed
        demanding := some ⟨5, 0⟩
        pendingEntry := some 3300 }, GateUnit.reset⟩ } }

/-- The state is one the register's law allows. -/
theorem registerLaw_shortLead : RegisterLaw hourCloseWithShortLead := ⟨by decide, by decide, by decide⟩

/-- R52, R49, R105, R158: the lift at index 0 makes room for an autoclose record in force at index 1, whose gate lead, doubled, has
long passed since the pending entry: the gate closes, and the lift at index 1 comes after. -/
theorem closes_shortLead :
    ((outcome .hourClose hourCloseWithShortLead).gates.units.get .e).state = .closing
      ∧ (outcome .hourClose hourCloseWithShortLead).gates.keyLocal = false := by
  decide +kernel

/-- Before and after, the SLIDE record alone demands the gate. -/
theorem demanding_shortLead : (hourCloseWithShortLead.demandingRecords .e).map ClosureRecord.id = [⟨5, 0⟩]
    ∧ ((outcome .hourClose hourCloseWithShortLead).demandingRecords .e).map ClosureRecord.id = [⟨5, 0⟩] := by
  decide +kernel

/-- R158: the slide lead applies to it, before and after. -/
theorem leadOf_shortLead (u : GateUnit) (h : u.demanding = some ⟨5, 0⟩) :
    hourCloseWithShortLead.leadOf u = 600 ∧ (outcome .hourClose hourCloseWithShortLead).leadOf u = 600 := by
  have hclosed : hourCloseWithShortLead.leadOf { GateUnit.reset with demanding := some ⟨5, 0⟩ } = 600
      ∧ (outcome .hourClose hourCloseWithShortLead).leadOf { GateUnit.reset with demanding := some ⟨5, 0⟩ } = 600 := by
    decide +kernel
  unfold State.leadOf at hclosed ⊢
  rw [h]
  exact hclosed

/-- Refutes O56: at this hour close gate EAST leaves CLOSE-PENDING for CLOSING in REMOTE, 300 s after its pending entry and with no
facing sign, though each record that demands it before or after asks for twice 600 s. -/
theorem not_leadIsHeldBeforeClosing : ¬ Obligations.LeadIsHeldBeforeClosing := by
  rintro ⟨-, h, -⟩
  obtain ⟨d, x, hx, hd, hheld⟩ := h .hourClose hourCloseWithShortLead (outcome .hourClose hourCloseWithShortLead) .e
    registerLaw_shortLead (by decide) (by decide) (exec_eq_next _ _) rfl closes_shortLead.1 closes_shortLead.2
  have hrecords : ∀ {l : List ClosureRecord} {r : ClosureRecord}, l.map ClosureRecord.id = [⟨5, 0⟩] → r ∈ l → r.id = ⟨5, 0⟩ :=
    fun hl hr => List.mem_singleton.mp (hl ▸ List.mem_map_of_mem hr)
  have hdemanding : d = some ⟨5, 0⟩ := by
    rcases hd with hd | ⟨r, hr | hr, hd⟩
    · exact hd
    · rw [hd, hrecords demanding_shortLead.1 hr]
    · rw [hd, hrecords demanding_shortLead.2 hr]
  have hlead : x.leadOf { hourCloseWithShortLead.gates.units.get .e with demanding := d } = 600 := by
    obtain ⟨hbefore, hafter⟩ :=
      leadOf_shortLead { hourCloseWithShortLead.gates.units.get .e with demanding := d } hdemanding
    rcases hx with hx | hx
    · rw [hx]
      exact hbefore
    · rw [hx]
      exact hafter
  dsimp only at hheld
  rw [hlead] at hheld
  rcases hheld with ⟨n, _, _, hfacing, -⟩ | ⟨-, since, hentry, hwaited⟩
  · exact nomatch (show none = some n from hfacing)
  · cases (show some 3300 = some since from hentry)
    exact absurd hwaited (by decide)

end Sys2Proof.Machine
end

section
/-! PROOF. What an evaluation makes of a gate (R155, R157, R158, R161, R162, R165, R170), said as a function of the gate and of the
ground it stands on. -/

namespace Sys2Proof.Machine

open Sys2Proof

variable {s t u : State} {g : Gate} {x : GateUnit}

/-! ## The ground of an evaluation -/

/-- What an evaluation of a gate looks at beside the gates: an evaluation, and a report, leave it. -/
structure SameGround (s t : State) : Prop where
  phase : t.phase = s.phase
  config : t.config = s.config
  pins : t.pins = s.pins
  clock : t.clock = s.clock
  key : t.gates.keyLocal = s.gates.keyLocal
  localDemand : t.gates.localDemand = s.gates.localDemand
  slots : t.register.slots = s.register.slots
  health : ∀ n, t.health n = s.health n
  role : ∀ n, (t.signs.get n).role = (s.signs.get n).role
  displayed : ∀ n, (t.signs.get n).displayed = (s.signs.get n).displayed

theorem SameGround.refl (s : State) : SameGround s s := ⟨rfl, rfl, rfl, rfl, rfl, rfl, rfl, fun _ => rfl, fun _ => rfl, fun _ => rfl⟩

theorem SameGround.trans (h : SameGround s t) (k : SameGround t u) : SameGround s u where
  phase := k.phase.trans h.phase
  config := k.config.trans h.config
  pins := k.pins.trans h.pins
  clock := k.clock.trans h.clock
  key := k.key.trans h.key
  localDemand := k.localDemand.trans h.localDemand
  slots := k.slots.trans h.slots
  health n := (k.health n).trans (h.health n)
  role n := (k.role n).trans (h.role n)
  displayed n := (k.displayed n).trans (h.displayed n)

/-- Turns that acknowledge no page set and forget none leave the ground, as far as their frame does. -/
theorem SameGround.of_turns {qs : List Part} (hf : Frame qs s t)
    (hd : Part.apart [.settings, .pins, .clock, .slots, .key] qs = true) (h : Turns [] s t)
    (hshown : ∀ n, (t.signs.get n).displayed = (s.signs.get n).displayed) : SameGround s t := by
  obtain ⟨hphase, hconfig, -⟩ := hf.settings_eq (Part.not_mem_of_apart hd (by simp))
  obtain ⟨hkey, hlocal⟩ := hf.keeps hd (p := .key) (by simp)
  exact {
    phase := hphase
    config := hconfig
    pins := (hf.keeps hd (p := .pins) (by simp)).symm
    clock := (hf.keeps hd (p := .clock) (by simp)).symm
    key := hkey.symm
    localDemand := hlocal.symm
    slots := (hf.keeps hd (p := .slots) (by simp)).symm
    health := fun n => h.health_eq n
    role := role_of_turns h
    displayed := hshown }

theorem sameGround_setGate (g : Gate) (x : GateUnit) (s : State) : SameGround s (s.setGate g x) :=
  ⟨rfl, rfl, rfl, rfl, rfl, rfl, rfl, fun _ => rfl, fun _ => rfl, fun _ => rfl⟩

theorem sameGround_status (s : State) : SameGround s (present .status s) := by
  have hf := frame_present .status s
  exact .of_turns hf rfl (turns_status s) fun n =>
    (congrArg (fun v : PerSign SignState => (v.get n).displayed) (hf .signs (by decide))).symm

theorem sameGround_judgeQuiet (s : State) : SameGround s (judgeQuiet s) :=
  .of_turns (frame_judgeQuiet s) rfl (turns_judgeQuiet s) fun n => (selectorKeeps_shown.judgeQuiet (shown_self s n)).1

theorem sameGround_evaluateSigns (s : State) : SameGround s (evaluateSigns s) :=
  .of_turns (frame_evaluateSigns s) rfl (turns_evaluateSigns s) fun n => (selectorKeeps_shown.evaluateSigns (shown_self s n)).1

theorem sameGround_putGate (g : Gate) (x : GateUnit) (s : State) : SameGround s (putGate g x s) := by
  have hset := sameGround_setGate g x s
  unfold putGate
  dsimp only
  have hstatus : SameGround s (if x.state ≠ (s.gates.units.get g).state ∨ x.slow ≠ (s.gates.units.get g).slow
      then present .status (s.setGate g x) else s.setGate g x) := by
    split
    · exact hset.trans (sameGround_status _)
    · exact hset
  split
  · exact hstatus.trans (sameGround_judgeQuiet _)
  · exact hstatus

theorem putKeeps_ground (s : State) : PutKeeps (SameGround s) where
  put h := h.trans (sameGround_putGate _ _ _)
  same _ h := h.trans (sameGround_setGate _ _ _)

/-! ## What the ground decides -/

theorem SameGround.facingSign_eq (h : SameGround s t) (g : Gate) : t.facingSign g = s.facingSign g := by
  unfold State.facingSign
  simp only [h.role]

theorem SameGround.displayedSince_eq (h : SameGround s t) (n : Sign) (id : RecId) :
    t.displayedSince n id = s.displayedSince n id := by
  unfold State.displayedSince
  rw [h.displayed]

theorem SameGround.now_eq (h : SameGround s t) : t.now = s.now := congrArg Clock.time h.clock

theorem SameGround.records_eq (h : SameGround s t) : t.records = s.records := congrArg (indexed 0) h.slots

theorem SameGround.leadOf_eq (h : SameGround s t) (x : GateUnit) : t.leadOf x = s.leadOf x := by
  unfold State.leadOf State.findRecord
  rw [h.config, h.records_eq]

theorem SameGround.demandingRecords_eq (h : SameGround s t) (g : Gate) : t.demandingRecords g = s.demandingRecords g := by
  unfold State.demandingRecords
  rw [h.config, h.records_eq]

theorem SameGround.demandingRecord_eq (h : SameGround s t) (g : Gate) : t.demandingRecord g = s.demandingRecord g := by
  have hfacing : ∀ id, t.displayedFacing g id = s.displayedFacing g id := fun id => by
    unfold State.displayedFacing
    rw [h.facingSign_eq]
    cases s.facingSign g with
    | none => rfl
    | some n => exact h.displayedSince_eq n id
  have hearlier : t.earlierDisplayed g = s.earlierDisplayed g := by
    funext a b
    unfold State.earlierDisplayed
    rw [hfacing, hfacing]
  unfold State.demandingRecord
  rw [h.demandingRecords_eq, hearlier]

theorem SameGround.demandNow_eq (h : SameGround s t) (g : Gate) : t.demandNow g = s.demandNow g := by
  unfold State.demandNow
  rw [h.key, h.localDemand, h.demandingRecords_eq]

theorem SameGround.limitsShow_eq (h : SameGround s t) (g : Gate) : t.limitsShow g = s.limitsShow g := by
  unfold State.limitsShow
  rw [h.pins]

theorem SameGround.targetActive_eq (h : SameGround s t) (g : Gate) (d : Demand) : t.targetActive g d = s.targetActive g d := by
  unfold State.targetActive
  rw [h.pins]

/-- R158: the lead test of a gate as it is given. -/
def State.leadMet (s : State) (g : Gate) (x : GateUnit) : Bool := (s.setGate g x).leadTest g

theorem leadTest_eq (s : State) (g : Gate) : s.leadTest g = s.leadMet g (s.gates.units.get g) := by
  unfold State.leadMet State.setGate
  rw [PerGate.set_get]
  rfl

/-- R158: displayed for the lead on an OK facing sign, or twice the lead after the pending entry without one. -/
theorem leadMet_iff (s : State) (g : Gate) (x : GateUnit) : s.leadMet g x = true ↔
    (∃ n id since, s.facingSign g = some n ∧ s.health n = .ok ∧ x.demanding = some id
        ∧ s.displayedSince n id = some since ∧ since + s.leadOf x ≤ s.now)
      ∨ (∀ n, s.facingSign g = some n → s.health n ≠ .ok)
        ∧ ∃ since, x.pendingEntry = some since ∧ since + 2 * s.leadOf x ≤ s.now := by
  have hshown : ∀ n, s.displayedForLead x n = true
      ↔ ∃ id since, x.demanding = some id ∧ s.displayedSince n id = some since ∧ since + s.leadOf x ≤ s.now := fun n => by
    unfold State.displayedForLead
    cases x.demanding with
    | none => simp
    | some id =>
      cases hs : s.displayedSince n id <;> simp [hs]
  have hwaited : s.waitedDoubleLead x = true
      ↔ ∃ since, x.pendingEntry = some since ∧ since + 2 * s.leadOf x ≤ s.now := by
    unfold State.waitedDoubleLead
    cases x.pendingEntry <;> simp
  have htest : s.leadMet g x = (match s.facingSign g with
      | some n => if s.health n = .ok then s.displayedForLead x n else s.waitedDoubleLead x
      | none => s.waitedDoubleLead x) := by
    have hunit : (s.setGate g x).gates.units.get g = x := PerGate.get_set_same _ _ _
    unfold State.leadMet State.leadTest
    rw [hunit]
    rfl
  rw [htest]
  cases hfacing : s.facingSign g with
  | none => simp [hwaited]
  | some n =>
    dsimp only
    split
    · next hok => simp [hshown, hok]
    · next hok => simp [hwaited, hok]

theorem SameGround.leadMet_eq (h : SameGround s t) (g : Gate) (x : GateUnit) : t.leadMet g x = s.leadMet g x := by
  rw [Bool.eq_iff_iff, leadMet_iff, leadMet_iff]
  simp only [h.facingSign_eq, h.health, h.displayedSince_eq, h.leadOf_eq, h.now_eq]

/-! ## What a gate does about its demand -/

/-- R160: a gate as its travel begins, or as it rests at the limit already active. -/
def State.towards (s : State) (fresh : Bool) (g : Gate) (d : Demand) (x : GateUnit) : GateUnit :=
  if s.targetActive g d then { x.rest d.atRest with stalls := 0 }
  else { x.rest d.moving with travel := some 0, fullTravel := fresh && s.oppositeActive g d }

/-- R157: a gate as it enters CLOSE-PENDING. -/
def GateUnit.pendedAt (x : GateUnit) (now : Nat) : GateUnit := { x.rest .closePending with pendingEntry := some now }

/-- R162: a gate as its travel is reversed. -/
def GateUnit.reversed (x : GateUnit) : GateUnit := { x.rest .reversing with dwell := some 0 }

/-- R157, R158: a gate that lies open and is to be closed. -/
def State.closingFrom (s : State) (g : Gate) (x : GateUnit) : GateUnit :=
  if s.gates.keyLocal then s.towards true g .closed x
  else if s.leadMet g (x.pendedAt s.now) then s.towards true g .closed (x.pendedAt s.now) else x.pendedAt s.now

/-- What a gate does about its demand, by its state. -/
def State.acted (s : State) (g : Gate) (x : GateUnit) : GateUnit :=
  match x.demand with
  | none => x
  | some .closed =>
    match x.state with
    | .opened => s.closingFrom g x
    | .unpositioned => s.closingFrom g x
    | .closePending => if s.leadMet g x then s.towards true g .closed x else x
    | .opening => x.reversed
    | _ => x
  | some .opened =>
    match x.state with
    | .closed => if s.phase = .running then s.towards true g .opened x else x
    | .unpositioned => if s.phase = .running then s.towards true g .opened x else x
    | .closePending => x.rest (if s.pins.openLimit.get g then .opened else .unpositioned)
    | .closing => x.reversed
    | _ => x

theorem SameGround.towards_eq (h : SameGround s t) (fresh : Bool) (g : Gate) (d : Demand) (x : GateUnit) :
    t.towards fresh g d x = s.towards fresh g d x := by
  unfold State.towards State.oppositeActive
  rw [h.targetActive_eq, h.pins]

theorem SameGround.acted_eq (h : SameGround s t) (g : Gate) (x : GateUnit) : t.acted g x = s.acted g x := by
  have hclosing : t.closingFrom g x = s.closingFrom g x := by
    unfold State.closingFrom
    rw [h.key, h.now_eq, h.leadMet_eq, h.towards_eq, h.towards_eq]
  unfold State.acted
  rw [hclosing, h.leadMet_eq, h.towards_eq, h.towards_eq, h.phase, h.pins]

theorem unit_beginTravel (fresh : Bool) (g : Gate) (d : Demand) (s : State) :
    (beginTravel fresh g d s).gates.units.get g = s.towards fresh g d (s.gates.units.get g) := by
  rw [beginTravel_eq, putGate_unit_same]
  rfl

theorem unit_enterClosePending (h : s.gates.keyLocal = false) :
    (enterClosePending g s).gates.units.get g = s.closingFrom g (s.gates.units.get g) := by
  have hground := sameGround_putGate g (s.pended g) s
  have hunit : (putGate g (s.pended g) s).gates.units.get g = (s.gates.units.get g).pendedAt s.now :=
    putGate_unit_same g (s.pended g) s
  unfold State.closingFrom
  rw [enterClosePending_eq, h, leadTest_eq, hground.leadMet_eq, hunit, if_neg (Bool.false_ne_true)]
  split
  · rw [unit_beginTravel, hground.towards_eq, hunit]
  · exact hunit

theorem unit_actOnDemand (g : Gate) (s : State) : (actOnDemand g s).gates.units.get g = s.acted g (s.gates.units.get g) := by
  have hclose : (if s.gates.keyLocal then beginTravel true g .closed s else enterClosePending g s).gates.units.get g
      = s.closingFrom g (s.gates.units.get g) := by
    split
    · next hk =>
      rw [unit_beginTravel]
      unfold State.closingFrom
      rw [if_pos hk]
    · next hk => exact unit_enterClosePending (by simpa using hk)
  have hlead : (if s.leadTest g then beginTravel true g .closed s else s).gates.units.get g
      = if s.leadMet g (s.gates.units.get g) then s.towards true g .closed (s.gates.units.get g) else s.gates.units.get g := by
    rw [leadTest_eq]
    split
    · exact unit_beginTravel _ _ _ _
    · rfl
  have hopen : (if s.mayTravel .opened then beginTravel true g .opened s else s).gates.units.get g
      = if s.phase = .running then s.towards true g .opened (s.gates.units.get g) else s.gates.units.get g := by
    unfold State.mayTravel
    by_cases hrun : s.phase = .running
    · rw [if_pos (decide_eq_true hrun), if_pos hrun, unit_beginTravel]
    · rw [if_neg (by simpa using hrun), if_neg hrun]
  unfold actOnDemand State.acted
  dsimp only
  cases (s.gates.units.get g).demand with
  | none => rfl
  | some d =>
    cases d with
    | closed =>
      cases (s.gates.units.get g).state with
      | opened => exact hclose
      | unpositioned => exact hclose
      | closePending => exact hlead
      | opening => exact putGate_unit_same _ _ _
      | _ => rfl
    | opened =>
      cases (s.gates.units.get g).state with
      | closed => exact hopen
      | unpositioned => exact hopen
      | closePending => exact putGate_unit_same _ _ _
      | closing => exact putGate_unit_same _ _ _
      | _ => rfl

/-! ## What an evaluation makes of a gate -/

/-- R155: a gate with its demand and its demanding record as they now stand. -/
def State.demanded (s : State) (g : Gate) (x : GateUnit) : GateUnit :=
  { x with demand := s.demandNow g, demanding := if s.gates.keyLocal then none else (s.demandingRecord g).map ClosureRecord.id }

theorem SameGround.demanded_eq (h : SameGround s t) (g : Gate) (x : GateUnit) : t.demanded g x = s.demanded g x := by
  unfold State.demanded
  rw [h.demandNow_eq, h.key, h.demandingRecord_eq]

/-- R155: a fitted gate after an evaluation. -/
def State.evaluated (s : State) (g : Gate) (x : GateUnit) : GateUnit := s.acted g (s.demanded g x)

theorem SameGround.evaluated_eq (h : SameGround s t) (g : Gate) (x : GateUnit) : t.evaluated g x = s.evaluated g x := by
  unfold State.evaluated
  rw [h.demanded_eq, h.acted_eq]

theorem sameGround_evaluateGate (g : Gate) (s : State) : SameGround s (evaluateGate g s) :=
  (putKeeps_ground s).evaluateGate g (.refl s)

theorem sameGround_evaluateGates (s : State) : SameGround s (evaluateGates s) := (putKeeps_ground s).evaluateGates (.refl s)

theorem unit_evaluateGate (hserving : s.phase.serving = true) (hfitted : s.config.fitted.get g = true) :
    (evaluateGate g s).gates.units.get g = s.evaluated g (s.gates.units.get g) := by
  have hunit : (refreshDemand g s).gates.units.get g = s.demanded g (s.gates.units.get g) := PerGate.get_set_same _ _ _
  have hground : SameGround s (refreshDemand g s) := sameGround_setGate _ _ _
  unfold evaluateGate
  rw [hserving, hfitted, Bool.and_self, if_pos rfl, unit_actOnDemand, hunit, hground.acted_eq]
  rfl

theorem regated_beginTravel (fresh : Bool) (g : Gate) (d : Demand) (s : State) : ∃ x, Regated g x s (beginTravel fresh g d s) := by
  rw [beginTravel_eq]
  exact ⟨_, regated_putGate _ _ _⟩

theorem regated_actOnDemand (g : Gate) (s : State) : ∃ x, Regated g x s (actOnDemand g s) := by
  have hite : ∀ {p : Prop} [Decidable p] {a b : State}, (∃ x, Regated g x s a) → (∃ x, Regated g x s b) →
      ∃ x, Regated g x s (if p then a else b) := fun ha hb => by
    split
    · exact ha
    · exact hb
  have hself : ∃ x, Regated g x s s := ⟨_, regated_self g s⟩
  have hput : ∀ y, ∃ x, Regated g x s (putGate g y s) := fun y => ⟨y, regated_putGate g y s⟩
  have htravel : ∀ d, ∃ x, Regated g x s (beginTravel true g d s) := fun d => regated_beginTravel true g d s
  have hpending : ∃ x, Regated g x s (enterClosePending g s) := by
    rw [enterClosePending_eq]
    refine hite ?_ (hput _)
    obtain ⟨x, hx⟩ := regated_beginTravel true g .closed (putGate g (s.pended g) s)
    exact ⟨x, (regated_putGate g _ s).trans hx⟩
  unfold actOnDemand
  dsimp only
  split
  · exact hself
  · split
    · exact hite (htravel _) hpending
    · exact hite (htravel _) hpending
    · exact hite (htravel _) hself
    · exact hput _
    · exact hself
  · split
    · exact hite (htravel _) hself
    · exact hite (htravel _) hself
    · exact hput _
    · exact hput _
    · exact hself

/-- An evaluation of one gate leaves the other. -/
theorem unit_evaluateGate_other {k : Gate} (h : k ≠ g) (s : State) :
    (evaluateGate g s).gates.units.get k = s.gates.units.get k := by
  unfold evaluateGate
  split
  · obtain ⟨x, hx⟩ := regated_actOnDemand g (refreshDemand g s)
    exact (hx.other h).trans (PerGate.get_set_other _ _ _ _ h)
  · rfl

theorem unit_evaluateGates (hserving : s.phase.serving = true) (hfitted : s.config.fitted.get g = true) :
    (evaluateGates s).gates.units.get g = s.evaluated g (s.gates.units.get g) := by
  have hground := sameGround_evaluateGate .e s
  cases g with
  | e =>
    show (evaluateGate .w (evaluateGate .e s)).gates.units.get .e = _
    rw [unit_evaluateGate_other (by decide), unit_evaluateGate hserving hfitted]
  | w =>
    show (evaluateGate .w (evaluateGate .e s)).gates.units.get .w = _
    rw [unit_evaluateGate (by rw [hground.phase]; exact hserving) (by rw [hground.config]; exact hfitted),
      hground.evaluated_eq, unit_evaluateGate_other (by decide)]

end Sys2Proof.Machine
end

section
/-! PROOF. The limit inputs (R157, R160, R164 to R167, R172): O55. -/

namespace Sys2Proof.Machine

open Sys2Proof

variable {s t v : State} {g : Gate} {l : Limit} {active : Bool}

/-! ## The level a limit takes -/

theorem limits_takeLimit (g : Gate) (active : Bool) (s : State) :
    (takeLimit g .openLimit active s).pins.openLimit.get g = active
      ∧ (takeLimit g .openLimit active s).pins.closedLimit.get g = s.pins.closedLimit.get g
      ∧ (takeLimit g .closedLimit active s).pins.closedLimit.get g = active
      ∧ (takeLimit g .closedLimit active s).pins.openLimit.get g = s.pins.openLimit.get g :=
  ⟨PerGate.get_set_same _ _ _, rfl, PerGate.get_set_same _ _ _, rfl⟩

/-- R165: a limit of a fitted gate changes in SETTLING or RUNNING. -/
theorem outcome_limitInputChange (hserving : s.phase.serving = true) (hfitted : s.config.fitted.get g = true)
    (hlevel : s.limitLevel g l ≠ active) :
    outcome (.limitInputChange g l active) s = limitEvent g l active (takeLimit g l active s) := by
  have hjoining : s.phase ≠ .joining := fun h => by
    rw [h] at hserving
    cases hserving
  show (if s.limitLevel g l = active then s else _) = _
  rw [if_neg hlevel, if_pos hfitted, if_neg hjoining, if_pos hserving]

theorem outcome_limitInputChange_joining (hphase : s.phase = .joining) (hfitted : s.config.fitted.get g = true)
    (hlevel : s.limitLevel g l ≠ active) :
    outcome (.limitInputChange g l active) s = followLimits g (takeLimit g l active s) := by
  show (if s.limitLevel g l = active then s else _) = _
  rw [if_neg hlevel, if_pos hfitted, if_pos hphase]

/-- Before JOINING and in CONFIG-FAULT, and of a gate that is not fitted, only the pin moves. -/
theorem outcome_limitInputChange_pin (h : s.config.fitted.get g = false ∨ s.phase.operating = false)
    (hlevel : s.limitLevel g l ≠ active) : outcome (.limitInputChange g l active) s = takeLimit g l active s := by
  show (if s.limitLevel g l = active then s else _) = _
  rw [if_neg hlevel]
  rcases h with h | h
  · exact if_neg (by simp [h])
  · have hjoining : s.phase ≠ .joining := fun e => by
      rw [e] at h
      cases h
    have hserving : ¬s.phase.serving = true := fun e => by
      rw [operating_of_serving e] at h
      cases h
    rw [if_neg hjoining, if_neg hserving, ite_self]

/-! ## What a gate does at a limit, by its state -/

theorem limitEvent_lockedOut (h : (s.gates.units.get g).state = .lockedOut) : limitEvent g l active s = s := if_pos h

theorem limitEvent_both (h : (s.gates.units.get g).state ≠ .lockedOut) (ho : s.pins.openLimit.get g = true)
    (hc : s.pins.closedLimit.get g = true) : limitEvent g l active s = lockOut g s := by
  unfold limitEvent
  dsimp only
  rw [if_neg h, ho, hc]
  rfl

theorem limitEvent_closing (h : (s.gates.units.get g).state = .closing) (ho : s.pins.openLimit.get g = false)
    (hc : s.pins.closedLimit.get g = true) : limitEvent g l active s = completeTravel g .closed s := by
  unfold limitEvent
  dsimp only
  rw [h, ho, hc]
  rfl

theorem limitEvent_opening (h : (s.gates.units.get g).state = .opening) (ho : s.pins.openLimit.get g = true)
    (hc : s.pins.closedLimit.get g = false) : limitEvent g l active s = completeTravel g .opened s := by
  unfold limitEvent
  dsimp only
  rw [h, ho, hc]
  rfl

theorem limitEvent_pending (h : (s.gates.units.get g).state = .closePending) (ho : s.pins.openLimit.get g = false)
    (hc : s.pins.closedLimit.get g = true) :
    limitEvent g l active s = putGate g { (s.gates.units.get g).rest .closed with stalls := 0 } s := by
  unfold limitEvent
  dsimp only
  rw [h, ho, hc]
  rfl

/-- The state a gate comes to rest in at a limit. -/
def limitRest : Limit → GateState
  | .openLimit => .opened
  | .closedLimit => .closed

theorem limitEvent_found (h : (s.gates.units.get g).state = .unpositioned ∨ (s.gates.units.get g).state = .stalled)
    (hboth : (s.pins.openLimit.get g && s.pins.closedLimit.get g) = false) : limitEvent g l true s
      = evaluateGate g (putGate g { (s.gates.units.get g).rest (limitRest l) with stalls := 0 } s) := by
  unfold limitEvent
  dsimp only
  rw [hboth]
  rcases h with h | h <;> rw [h] <;> cases l <;> rfl

/-- R165: a gate at rest that loses its limit. -/
theorem limitEvent_opened_lost (h : (s.gates.units.get g).state = .opened) (ho : s.pins.openLimit.get g = false) :
    limitEvent g l active s = if (s.gates.units.get g).demand = some .opened ∧ s.phase = .running
      then beginTravel false g .opened s else putGate g ((s.gates.units.get g).rest .unpositioned) s := by
  unfold limitEvent State.mayTravel
  dsimp only
  rw [h, ho, ← Bool.decide_and]
  simp only [decide_eq_true_eq]
  rfl

theorem limitEvent_closed_lost (h : (s.gates.units.get g).state = .closed) (hc : s.pins.closedLimit.get g = false) :
    limitEvent g l active s = if (s.gates.units.get g).demand = some .closed
      then beginTravel false g .closed s else putGate g ((s.gates.units.get g).rest .unpositioned) s := by
  unfold limitEvent
  dsimp only
  rw [h, hc, Bool.and_false]
  rfl

/-! ## The end of a travel (R160, R166, R167) -/

theorem unit_completeTravel (g : Gate) (d : Demand) (s : State) : (completeTravel g d s).gates.units.get g
    = { (s.gates.units.get g).rest d.atRest with
      stalls := 0
      slow := if (s.gates.units.get g).fullTravel then slowTravel (s.history g d) (s.gates.units.get g).travelTenths
        else (s.gates.units.get g).slow } := by
  unfold completeTravel
  dsimp only
  split <;> exact putGate_unit_same _ _ _

theorem retained_completeTravel (g : Gate) (d : Demand) (s : State) : (completeTravel g d s).retained
    = if (s.gates.units.get g).fullTravel then (recordTravel g d (s.gates.units.get g).travelTenths s).retained
      else s.retained := by
  unfold completeTravel
  dsimp only
  split <;> exact (frame_putGate _ _ _).retained_eq rfl

theorem pins_completeTravel (g : Gate) (d : Demand) (s : State) : (completeTravel g d s).pins = s.pins := by
  unfold completeTravel
  dsimp only
  split <;> exact (sameGround_putGate _ _ _).pins

/-- A travel that has reached its limit, as O55 says it of one direction. -/
theorem completeTravel_spec (g : Gate) (d : Demand) (s : State) :
    ((completeTravel g d s).gates.units.get g).state = d.atRest ∧ ((completeTravel g d s).gates.units.get g).stalls = 0
      ∧ ((completeTravel g d s).gates.units.get g).travel = none
      ∧ ((s.gates.units.get g).fullTravel = true →
        (completeTravel g d s).retained = (recordTravel g d ((s.gates.units.get g).travel.getD 0 / 10000) s).retained
          ∧ ((completeTravel g d s).gates.units.get g).slow = (decide (4 ≤ (s.history g d).length)
            && decide (2 * (s.history g d).sum < (s.gates.units.get g).travel.getD 0 / 10000 * (s.history g d).length)))
      ∧ ((s.gates.units.get g).fullTravel = false → (completeTravel g d s).retained = s.retained
        ∧ ((completeTravel g d s).gates.units.get g).slow = (s.gates.units.get g).slow) := by
  rw [unit_completeTravel, retained_completeTravel]
  refine ⟨rfl, rfl, rfl, fun hfull => ?_, fun hfull => ?_⟩
  · rw [if_pos hfull, if_pos hfull]
    exact ⟨rfl, Bool.decide_and _ _⟩
  · rw [hfull]
    exact ⟨rfl, rfl⟩

/-! ## A gate that finds a limit -/

variable {x : GateUnit}

theorem towards_closed_free (h : s.pins.closedLimit.get g = false) (fresh : Bool) (x : GateUnit) :
    s.towards fresh g .closed x = { x.rest .closing with
      travel := some 0, fullTravel := fresh && s.pins.openLimit.get g } := by
  unfold State.towards State.targetActive
  rw [h]
  rfl

theorem towards_opened_free (h : s.pins.openLimit.get g = false) (fresh : Bool) (x : GateUnit) :
    s.towards fresh g .opened x = { x.rest .opening with
      travel := some 0, fullTravel := fresh && s.pins.closedLimit.get g } := by
  unfold State.towards State.targetActive
  rw [h]
  rfl

theorem towards_at_limit {d : Demand} (h : s.targetActive g d = true) (fresh : Bool) (x : GateUnit) :
    s.towards fresh g d x = { x.rest d.atRest with stalls := 0 } := if_pos h

/-- R157: an OPEN or UNPOSITIONED gate with demand CLOSED, away from its closed limit. -/
theorem closingFrom_free (h : s.pins.closedLimit.get g = false) (x : GateUnit) : (s.closingFrom g x).stalls = x.stalls
    ∧ ((s.closingFrom g x).state = .closing
      ∨ ((s.closingFrom g x).state = .closePending ∧ s.gates.keyLocal = false ∧ (s.closingFrom g x).pendingEntry = some s.now)) := by
  unfold State.closingFrom
  rw [towards_closed_free h, towards_closed_free h]
  split
  · exact ⟨rfl, .inl rfl⟩
  · next hkey =>
    split
    · exact ⟨rfl, .inl rfl⟩
    · exact ⟨rfl, .inr ⟨rfl, by simpa using hkey, rfl⟩⟩

theorem demanded_state (s : State) (g : Gate) (x : GateUnit) : (s.demanded g x).state = x.state
    ∧ (s.demanded g x).stalls = x.stalls ∧ (s.demanded g x).demand = s.demandNow g := ⟨rfl, rfl, rfl⟩

/-- R157: an evaluation of a gate at its open limit. -/
theorem evaluated_opened (hstate : x.state = .opened) (hc : s.pins.closedLimit.get g = false) :
    (s.evaluated g x).stalls = x.stalls
      ∧ (s.demandNow g ≠ some .closed → (s.evaluated g x).state = .opened)
      ∧ (s.demandNow g = some .closed → (s.evaluated g x).state = .closing ∨ ((s.evaluated g x).state = .closePending
        ∧ s.gates.keyLocal = false ∧ (s.evaluated g x).pendingEntry = some s.now)) := by
  have hd : s.evaluated g x = s.acted g (s.demanded g x) := rfl
  have hstate' : (s.demanded g x).state = .opened := hstate
  unfold State.acted at hd
  rw [show (s.demanded g x).demand = s.demandNow g from rfl, hstate'] at hd
  cases hnow : s.demandNow g with
  | none =>
    rw [hnow] at hd
    rw [hd]
    exact ⟨rfl, fun _ => hstate, nofun⟩
  | some d =>
    rw [hnow] at hd
    cases d with
    | closed =>
      rw [hd]
      obtain ⟨hstalls, hcloses⟩ := closingFrom_free hc (s.demanded g x)
      exact ⟨hstalls, fun h => absurd rfl h, fun _ => hcloses⟩
    | opened =>
      rw [hd]
      exact ⟨rfl, fun _ => hstate, nofun⟩

/-- R161: an evaluation of a gate at its closed limit. -/
theorem evaluated_closed (hstate : x.state = .closed) (ho : s.pins.openLimit.get g = false) :
    (s.evaluated g x).stalls = x.stalls
      ∧ (s.evaluated g x).state = (if s.demandNow g = some .opened ∧ s.phase = .running then .opening else .closed) := by
  have hd : s.evaluated g x = s.acted g (s.demanded g x) := rfl
  have hstate' : (s.demanded g x).state = .closed := hstate
  unfold State.acted at hd
  rw [show (s.demanded g x).demand = s.demandNow g from rfl, hstate'] at hd
  rw [hd]
  cases s.demandNow g with
  | none => exact ⟨rfl, hstate⟩
  | some d =>
    cases d with
    | closed => exact ⟨rfl, hstate⟩
    | opened =>
      dsimp only
      rw [towards_opened_free ho]
      by_cases hrun : s.phase = .running
      · rw [if_pos hrun, if_pos ⟨rfl, hrun⟩]
        exact ⟨rfl, rfl⟩
      · rw [if_neg hrun, if_neg fun h => hrun h.2]
        exact ⟨rfl, hstate⟩

/-- R165: an UNPOSITIONED or STALLED gate that finds a limit rests there and is evaluated. -/
theorem unit_limitEvent_found (h : (s.gates.units.get g).state = .unpositioned ∨ (s.gates.units.get g).state = .stalled)
    (hboth : (s.pins.openLimit.get g && s.pins.closedLimit.get g) = false) (hserving : s.phase.serving = true)
    (hfitted : s.config.fitted.get g = true) : (limitEvent g l true s).gates.units.get g
      = s.evaluated g { (s.gates.units.get g).rest (limitRest l) with stalls := 0 } := by
  have hground := sameGround_putGate g { (s.gates.units.get g).rest (limitRest l) with stalls := 0 } s
  rw [limitEvent_found h hboth, unit_evaluateGate (by rw [hground.phase]; exact hserving)
    (by rw [hground.config]; exact hfitted), hground.evaluated_eq, putGate_unit_same]

/-- Settles O55, by the state of the gate that the limit moves. -/
theorem limitInputsMoveTheGates : Obligations.LimitInputsMoveTheGates := by
  refine ⟨fun s g hserving hfitted ho hc => ?_, fun s g active => ?_, fun s g => ?_⟩
  · obtain ⟨hoo, hoc, hcc, hco⟩ := limits_takeLimit g true s
    rw [hc] at hoc
    rw [ho] at hco
    have hopen : outcome (.limitInputChange g .openLimit true) s = limitEvent g .openLimit true (takeLimit g .openLimit true s) :=
      outcome_limitInputChange hserving hfitted (by rw [show s.limitLevel g .openLimit = false from ho]; exact Bool.false_ne_true)
    have hclosed : outcome (.limitInputChange g .closedLimit true) s
        = limitEvent g .closedLimit true (takeLimit g .closedLimit true s) :=
      outcome_limitInputChange hserving hfitted (by rw [show s.limitLevel g .closedLimit = false from hc]; exact Bool.false_ne_true)
    refine ⟨fun hst => completes_iff.mpr ?_, fun hst => completes_iff.mpr ?_, fun hst => ⟨completes_iff.mpr ?_,
      completes_iff.mpr ?_⟩, fun hst => completes_iff.mpr ?_⟩
    · rw [hclosed, limitEvent_closing (s := takeLimit g .closedLimit true s) hst hco hcc]
      obtain ⟨hstate, hstalls, htravel, hfull, hpart⟩ := completeTravel_spec g .closed (takeLimit g .closedLimit true s)
      exact ⟨hstate, hstalls, htravel, by rw [pins_completeTravel]; exact hcc, hfull, hpart⟩
    · rw [hopen, limitEvent_opening (s := takeLimit g .openLimit true s) hst hoo hoc]
      obtain ⟨hstate, hstalls, htravel, hfull, hpart⟩ := completeTravel_spec g .opened (takeLimit g .openLimit true s)
      exact ⟨hstate, hstalls, htravel, by rw [pins_completeTravel]; exact hoo, hfull, hpart⟩
    · rw [hopen, unit_limitEvent_found (s := takeLimit g .openLimit true s) hst (by rw [hoc, Bool.and_false]) hserving hfitted]
      exact evaluated_opened rfl hoc
    · rw [hclosed, unit_limitEvent_found (s := takeLimit g .closedLimit true s) hst (by rw [hco, Bool.false_and]) hserving hfitted]
      exact evaluated_closed rfl hco
    · rw [hclosed, limitEvent_pending (s := takeLimit g .closedLimit true s) hst hco hcc, putGate_unit_same]
      exact ⟨rfl, rfl, rfl, (frame_putGate _ _ _).retained_eq rfl⟩
  · obtain ⟨hoo, hoc, hcc, hco⟩ := limits_takeLimit g active s
    refine ⟨fun h hlevel => ?_, fun hfitted hserving ho hc => completes_iff.mpr ?_, fun hfitted hphase hst hlevel =>
      completes_iff.mpr ?_, fun hfitted hserving hst ho hc => completes_iff.mpr ?_, fun hfitted hserving hst hc ho =>
      completes_iff.mpr ?_⟩
    · rw [exec_eq_next, outcome_limitInputChange_pin (l := .openLimit) h hlevel]
      rfl
    · obtain ⟨hoo, hoc, -⟩ := limits_takeLimit g true s
      rw [outcome_limitInputChange hserving hfitted (by
        rw [show s.limitLevel g .openLimit = false from ho]
        exact Bool.false_ne_true)]
      by_cases hst : (s.gates.units.get g).state = .lockedOut
      · exact .inr hst
      · rw [limitEvent_both (s := takeLimit g .openLimit true s) hst hoo (hoc.trans hc)]
        unfold lockOut
        rw [putGate_unit_same]
        exact .inl ⟨rfl, rfl, rfl, rfl⟩
    · rw [outcome_limitInputChange_joining (l := .openLimit) hphase hfitted hlevel]
      unfold followLimits
      dsimp only
      rw [if_neg (show ¬((takeLimit g .openLimit active s).gates.units.get g).state = .lockedOut from hst), putGate_unit_same]
      show limitsState ((takeLimit g .openLimit active s).pins.openLimit.get g) _ = _
      rw [hoo]
      rfl
    · obtain ⟨hoo, -, -, -⟩ := limits_takeLimit g false s
      rw [outcome_limitInputChange hserving hfitted (by
        rw [show s.limitLevel g .openLimit = true from ho]
        exact nofun), limitEvent_opened_lost (s := takeLimit g .openLimit false s) hst hoo]
      by_cases hd : (s.gates.units.get g).demand = some .opened ∧ s.phase = .running
      · rw [if_pos hd, if_pos (show ((takeLimit g .openLimit false s).gates.units.get g).demand = some .opened
          ∧ (takeLimit g .openLimit false s).phase = .running from hd), unit_beginTravel, towards_opened_free hoo]
        exact ⟨rfl, rfl⟩
      · rw [if_neg hd, if_neg (show ¬(((takeLimit g .openLimit false s).gates.units.get g).demand = some .opened
          ∧ (takeLimit g .openLimit false s).phase = .running) from hd), putGate_unit_same]
        exact ⟨rfl, rfl⟩
    · obtain ⟨-, -, hcc, -⟩ := limits_takeLimit g false s
      rw [outcome_limitInputChange hserving hfitted (by
        rw [show s.limitLevel g .closedLimit = true from hc]
        exact nofun), limitEvent_closed_lost (s := takeLimit g .closedLimit false s) hst hcc]
      by_cases hd : (s.gates.units.get g).demand = some .closed
      · rw [if_pos hd, if_pos (show ((takeLimit g .closedLimit false s).gates.units.get g).demand = some .closed from hd),
          unit_beginTravel, towards_closed_free hcc]
        exact ⟨rfl, rfl⟩
      · rw [if_neg hd, if_neg (show ¬((takeLimit g .closedLimit false s).gates.units.get g).demand = some .closed from hd),
          putGate_unit_same]
        exact ⟨rfl, rfl⟩
  · unfold State.limitsShow limitsState
    cases s.pins.openLimit.get g <;> cases s.pins.closedLimit.get g <;> rfl

end Sys2Proof.Machine
end

section
/-! PROOF. Dwells, stalls and evaluations of the gates (R155, R157, R158, R161 to R163, R165, R170): O57. -/

namespace Sys2Proof.Machine

open Sys2Proof

variable {s t v : State} {g : Gate} {x : GateUnit}

/-! ## The ends of a dwell and of a stall wait (R162, R163) -/

/-- What O57 says of a gate that resumes. -/
theorem resumed_spec (s : State) (g : Gate) :
    ((s.gates.units.get g).demand = some .closed → s.pins.closedLimit.get g = false → (s.resumed g).state = .closing)
      ∧ ((s.gates.units.get g).demand = some .opened → s.pins.openLimit.get g = false → s.phase = .running →
        (s.resumed g).state = .opening)
      ∧ ((s.gates.units.get g).demand = some .opened → s.pins.openLimit.get g = false → s.phase ≠ .running →
        (s.resumed g).state = s.limitsShow g ∧ (s.resumed g).stalls = (s.gates.units.get g).stalls)
      ∧ ((s.gates.units.get g).demand = some .closed → s.pins.closedLimit.get g = true → (s.resumed g).state = .closed)
      ∧ (s.resumed g).fullTravel = false := by
  have hclosed : (s.gates.units.get g).demand = some .closed → s.resumed g = s.towards false g .closed (s.gates.units.get g) :=
    fun hd => by
      unfold State.resumed
      rw [hd]
      exact if_pos (Bool.or_true _)
  have hopened : (s.gates.units.get g).demand = some .opened → s.resumed g
      = if s.targetActive g .opened || s.mayTravel .opened then s.towards false g .opened (s.gates.units.get g)
        else (s.gates.units.get g).rest (s.limitsShow g) := fun hd => by
    unfold State.resumed
    rw [hd]
    rfl
  have hslack : ∀ d, (s.towards false g d (s.gates.units.get g)).fullTravel = false := fun d => by
    unfold State.towards
    split <;> rfl
  refine ⟨fun hd hc => ?_, fun hd ho hrun => ?_, fun hd ho hrun => ?_, fun hd hc => ?_, ?_⟩
  · rw [hclosed hd, towards_closed_free hc]
    rfl
  · rw [hopened hd, if_pos (by rw [State.mayTravel, decide_eq_true hrun, Bool.or_true]), towards_opened_free ho]
    rfl
  · rw [hopened hd, if_neg (by
      rw [show s.targetActive g .opened = false from ho, State.mayTravel, decide_eq_false hrun]
      exact Bool.false_ne_true)]
    exact ⟨rfl, rfl⟩
  · rw [hclosed hd, towards_at_limit (d := .closed) hc]
    rfl
  · cases hd : (s.gates.units.get g).demand with
    | none =>
      unfold State.resumed
      rw [hd]
      rfl
    | some d =>
      cases d with
      | closed => rw [hclosed hd, hslack]
      | opened =>
        rw [hopened hd]
        split
        · exact hslack _
        · rfl

theorem unit_resumeTravel (g : Gate) (s : State) : (resumeTravel g s).gates.units.get g = s.resumed g := by
  rw [resumeTravel_eq, putGate_unit_same]

/-! ## An evaluation, case by case -/

theorem towards_demand (s : State) (fresh : Bool) (g : Gate) (d : Demand) (x : GateUnit) :
    (s.towards fresh g d x).demand = x.demand ∧ (s.towards fresh g d x).demanding = x.demanding := by
  unfold State.towards
  split <;> exact ⟨rfl, rfl⟩

/-- R155: what a gate does about its demand leaves the demand. -/
theorem acted_demand (s : State) (g : Gate) (x : GateUnit) :
    (s.acted g x).demand = x.demand ∧ (s.acted g x).demanding = x.demanding := by
  have hite : ∀ {p : Prop} [Decidable p] {a b : GateUnit}, (a.demand = x.demand ∧ a.demanding = x.demanding) →
      (b.demand = x.demand ∧ b.demanding = x.demanding) →
      (if p then a else b).demand = x.demand ∧ (if p then a else b).demanding = x.demanding := fun ha hb => by
    split
    · exact ha
    · exact hb
  have hclosing : (s.closingFrom g x).demand = x.demand ∧ (s.closingFrom g x).demanding = x.demanding :=
    hite (towards_demand _ _ _ _ _) (hite (towards_demand s true g .closed (x.pendedAt s.now)) ⟨rfl, rfl⟩)
  unfold State.acted
  split
  · exact ⟨rfl, rfl⟩
  · split
    · exact hclosing
    · exact hclosing
    · exact hite (towards_demand _ _ _ _ _) ⟨rfl, rfl⟩
    · exact ⟨rfl, rfl⟩
    · exact ⟨rfl, rfl⟩
  · split
    · exact hite (towards_demand _ _ _ _ _) ⟨rfl, rfl⟩
    · exact hite (towards_demand _ _ _ _ _) ⟨rfl, rfl⟩
    · exact ⟨rfl, rfl⟩
    · exact ⟨rfl, rfl⟩
    · exact ⟨rfl, rfl⟩

theorem acted_none (h : x.demand = none) : s.acted g x = x := by
  unfold State.acted
  rw [h]

theorem acted_closes (h : x.demand = some .closed) (hst : x.state = .opened ∨ x.state = .unpositioned) :
    s.acted g x = s.closingFrom g x := by
  unfold State.acted
  rw [h]
  rcases hst with hst | hst <;> rw [hst]

theorem acted_pending (h : x.demand = some .closed) (hst : x.state = .closePending) :
    s.acted g x = if s.leadMet g x then s.towards true g .closed x else x := by
  unfold State.acted
  rw [h, hst]

theorem acted_reverses (h : x.demand = some .closed ∧ x.state = .opening ∨ x.demand = some .opened ∧ x.state = .closing) :
    s.acted g x = x.reversed := by
  unfold State.acted
  rcases h with ⟨h, hst⟩ | ⟨h, hst⟩ <;> rw [h, hst]

theorem acted_closed_stays (h : x.demand = some .closed) (hst : x.state = .closing ∨ x.state = .closed ∨ x.state = .reversing
    ∨ x.state = .stalled ∨ x.state = .lockedOut) : s.acted g x = x := by
  unfold State.acted
  rw [h]
  rcases hst with hst | hst | hst | hst | hst <;> rw [hst]

theorem acted_opens (h : x.demand = some .opened) (hst : x.state = .closed ∨ x.state = .unpositioned) :
    s.acted g x = if s.phase = .running then s.towards true g .opened x else x := by
  unfold State.acted
  rw [h]
  rcases hst with hst | hst <;> rw [hst]

theorem acted_returns (h : x.demand = some .opened) (hst : x.state = .closePending) :
    s.acted g x = x.rest (if s.pins.openLimit.get g then .opened else .unpositioned) := by
  unfold State.acted
  rw [h, hst]

theorem acted_opened_stays (h : x.demand = some .opened) (hst : x.state = .opened ∨ x.state = .opening ∨ x.state = .reversing
    ∨ x.state = .stalled ∨ x.state = .lockedOut) : s.acted g x = x := by
  unfold State.acted
  rw [h]
  rcases hst with hst | hst | hst | hst | hst <;> rw [hst]

/-- R160: a gate that sets out to close, or rests at its closed limit. -/
theorem towards_closed_spec (s : State) (g : Gate) (x : GateUnit) :
    (s.towards true g .closed x).state = (if s.pins.closedLimit.get g then .closed else .closing)
      ∧ (s.pins.closedLimit.get g = false → (s.towards true g .closed x).travel = some 0
        ∧ (s.towards true g .closed x).fullTravel = s.pins.openLimit.get g) := by
  cases hc : s.pins.closedLimit.get g with
  | true =>
    rw [towards_at_limit (d := .closed) hc]
    exact ⟨rfl, nofun⟩
  | false =>
    rw [towards_closed_free hc]
    exact ⟨rfl, fun _ => ⟨rfl, rfl⟩⟩

theorem towards_opened_spec (s : State) (g : Gate) (x : GateUnit) :
    (s.towards true g .opened x).state = (if s.pins.openLimit.get g then .opened else .opening)
      ∧ (s.pins.openLimit.get g = false → (s.towards true g .opened x).travel = some 0
        ∧ (s.towards true g .opened x).fullTravel = s.pins.closedLimit.get g) := by
  cases ho : s.pins.openLimit.get g with
  | true =>
    rw [towards_at_limit (d := .opened) ho]
    exact ⟨rfl, nofun⟩
  | false =>
    rw [towards_opened_free ho]
    exact ⟨rfl, fun _ => ⟨rfl, rfl⟩⟩

/-! ## The lead of an evaluation (R158) -/

theorem leadOf_congr {a b : GateUnit} (h : a.demanding = b.demanding) (s : State) : s.leadOf a = s.leadOf b := by
  unfold State.leadOf
  rw [h]

theorem leadOf_pos (hgate : 0 < s.config.gateLead) (hslide : 0 < s.config.slideLead) (x : GateUnit) : 0 < s.leadOf x := by
  unfold State.leadOf
  split
  · exact hgate
  · split
    · split
      · exact hslide
      · exact hgate
    · exact hgate

/-- R158: displayed on the facing sign for the lead. -/
def State.ShownForLead (s : State) (g : Gate) (x : GateUnit) : Prop :=
  ∃ n id since, s.facingSign g = some n ∧ s.health n = .ok ∧ x.demanding = some id
    ∧ s.displayedSince n id = some since ∧ since + s.leadOf x ≤ s.now

/-- R158: twice the lead after the pending entry, without an OK facing sign. -/
def State.WaitedWithout (s : State) (g : Gate) (x : GateUnit) : Prop :=
  (∀ n, s.facingSign g = some n → s.health n ≠ .ok) ∧ ∃ since, x.pendingEntry = some since ∧ since + 2 * s.leadOf x ≤ s.now

theorem leadMet_iff_shown (s : State) (g : Gate) (x : GateUnit) :
    s.leadMet g x = true ↔ s.ShownForLead g x ∨ s.WaitedWithout g x := leadMet_iff s g x

/-- R157, R158: at the entry to CLOSE-PENDING only a display can have met the lead. -/
theorem leadMet_pendedAt (hpos : 0 < s.leadOf x) : s.leadMet g (x.pendedAt s.now) = true ↔ s.ShownForLead g x := by
  rw [leadMet_iff_shown]
  refine ⟨fun h => h.resolve_right ?_, .inl⟩
  rintro ⟨-, since, hentry, hle⟩
  cases (Option.some.inj hentry : s.now = since)
  have hlead : s.leadOf (x.pendedAt s.now) = s.leadOf x := rfl
  omega

/-- R157, R158: an OPEN or UNPOSITIONED gate with demand CLOSED. -/
theorem closingFrom_spec (hpos : 0 < s.leadOf x) :
    (s.gates.keyLocal = true ∨ s.ShownForLead g x →
      (s.closingFrom g x).state = (if s.pins.closedLimit.get g then .closed else .closing)
        ∧ (s.pins.closedLimit.get g = false → (s.closingFrom g x).travel = some 0
          ∧ (s.closingFrom g x).fullTravel = s.pins.openLimit.get g))
      ∧ (s.gates.keyLocal = false → ¬s.ShownForLead g x → (s.closingFrom g x).state = .closePending
        ∧ (s.closingFrom g x).pendingEntry = some s.now ∧ (s.closingFrom g x).travel = none) := by
  unfold State.closingFrom
  refine ⟨fun h => ?_, fun hkey hno => ?_⟩
  · split
    · exact towards_closed_spec s g x
    · next hkey =>
      rw [if_pos ((leadMet_pendedAt hpos).mpr (h.resolve_left hkey))]
      exact towards_closed_spec s g _
  · rw [hkey, if_neg Bool.false_ne_true, if_neg fun h => hno ((leadMet_pendedAt hpos).mp h)]
    exact ⟨rfl, rfl, rfl⟩

/-! ## O57's statement of an evaluation -/

/-- R157, R158, R162, R170: a gate with demand CLOSED. -/
theorem acted_closed_spec (h : x.demand = some .closed) (hpos : 0 < s.leadOf x) :
    (x.state = .opened ∨ x.state = .unpositioned →
      (s.gates.keyLocal = true ∨ s.ShownForLead g x →
        (s.acted g x).state = (if s.pins.closedLimit.get g then .closed else .closing)
          ∧ (s.pins.closedLimit.get g = false → (s.acted g x).travel = some 0
            ∧ (s.acted g x).fullTravel = s.pins.openLimit.get g))
        ∧ (s.gates.keyLocal = false → ¬s.ShownForLead g x → (s.acted g x).state = .closePending
          ∧ (s.acted g x).pendingEntry = some s.now ∧ (s.acted g x).travel = none))
      ∧ (x.state = .closePending →
        (s.ShownForLead g x ∨ s.WaitedWithout g x →
          (s.acted g x).state = (if s.pins.closedLimit.get g then .closed else .closing)
            ∧ (s.pins.closedLimit.get g = false → (s.acted g x).travel = some 0
              ∧ (s.acted g x).fullTravel = s.pins.openLimit.get g))
          ∧ (¬s.ShownForLead g x → ¬s.WaitedWithout g x → s.acted g x = x)) := by
  refine ⟨fun hst => ?_, fun hst => ?_⟩
  · rw [acted_closes h hst]
    exact closingFrom_spec hpos
  · rw [acted_pending h hst]
    refine ⟨fun hmet => ?_, fun h1 h2 => ?_⟩
    · rw [if_pos ((leadMet_iff_shown s g x).mpr hmet)]
      exact towards_closed_spec s g x
    · exact if_neg fun hmet => ((leadMet_iff_shown s g x).mp hmet).elim h1 h2

/-- R161, R162: a gate with demand OPEN. -/
theorem acted_opened_spec (h : x.demand = some .opened) :
    (x.state = .closed ∨ x.state = .unpositioned →
      (s.phase = .running → (s.acted g x).state = (if s.pins.openLimit.get g then .opened else .opening)
        ∧ (s.pins.openLimit.get g = false → (s.acted g x).travel = some 0
          ∧ (s.acted g x).fullTravel = s.pins.closedLimit.get g))
        ∧ (s.phase ≠ .running → s.acted g x = x))
      ∧ (x.state = .closePending →
        (s.acted g x).state = (if s.pins.openLimit.get g then .opened else .unpositioned) ∧ (s.acted g x).travel = none) := by
  refine ⟨fun hst => ?_, fun hst => ?_⟩
  · rw [acted_opens h hst]
    refine ⟨fun hrun => ?_, fun hrun => if_neg hrun⟩
    rw [if_pos hrun]
    exact towards_opened_spec s g x
  · rw [acted_returns h hst]
    exact ⟨rfl, rfl⟩

theorem reversed_spec (x : GateUnit) : x.reversed.state = .reversing ∧ x.reversed.dwell = some 0 ∧ x.reversed.travel = none
    ∧ x.reversed.fullTravel = false ∧ x.reversed.stalls = x.stalls := ⟨rfl, rfl, rfl, rfl, rfl⟩

theorem demandNow_remote (hkey : s.gates.keyLocal = false) : (s.demandingRecords g ≠ [] → s.demandNow g = some .closed)
    ∧ (s.demandingRecords g = [] → s.demandNow g = some .opened) := by
  unfold State.demandNow
  rw [hkey, if_neg Bool.false_ne_true]
  refine ⟨fun h => if_neg ?_, fun h => if_pos ?_⟩
  · rwa [List.isEmpty_iff]
  · rw [h]
    rfl

/-! ## The ends of a lead and of a duration, and the entry to RUNNING -/

theorem sameGround_setSlot (h : SameGround s t) (i : Nat) (o : Option ClosureRecord) : SameGround (s.setSlot i o) (t.setSlot i o) where
  phase := h.phase
  config := h.config
  pins := h.pins
  clock := h.clock
  key := h.key
  localDemand := h.localDemand
  slots := congrArg (fun l : List (Option ClosureRecord) => l.set i o) h.slots
  health := h.health
  role := h.role
  displayed := h.displayed

theorem sameGround_queueOwn (r : ClosureRecord) (s : State) : SameGround s (queueOwn r s) := by
  have hf := frame_queueOwn r s
  have hsigns := hf .signs (by decide)
  have hlinks := hf .signLinks (by decide)
  obtain ⟨hphase, hconfig, -⟩ := hf.settings_eq (by decide)
  obtain ⟨hkey, hlocal⟩ := hf .key (by decide)
  exact {
    phase := hphase
    config := hconfig
    pins := (hf .pins (by decide)).symm
    clock := (hf .clock (by decide)).symm
    key := hkey.symm
    localDemand := hlocal.symm
    slots := (hf .slots (by decide)).symm
    health := fun n => congrArg (fun v : PerSign SignLink => (v.get n).health) hlinks.symm
    role := fun n => congrArg (fun v : PerSign SignState => (v.get n).role) hsigns.symm
    displayed := fun n => congrArg (fun v : PerSign SignState => (v.get n).displayed) hsigns.symm }

/-- R119: after a report of the register a gate stands as its evaluation on the records as they now are leaves it. -/
theorem unit_reportRecords (hserving : s.phase.serving = true) (hfitted : s.config.fitted.get g = true) :
    (reportRecords s).gates.units.get g = s.evaluated g (s.gates.units.get g) := by
  have hground := sameGround_evaluateSigns s
  have hgates : (evaluateSigns s).gates = s.gates := (frame_evaluateSigns s).gates_eq rfl
  have hjudged : (reportRecords s).gates = (evaluateGates (evaluateSigns s)).gates := (frame_judgeQuiet _).gates_eq rfl
  rw [hjudged, unit_evaluateGates (by rw [hground.phase]; exact hserving) (by rw [hground.config]; exact hfitted),
    hground.evaluated_eq, hgates]

/-- R105, R106, R155: a record stored after its CLOSURE is queued acts on a gate as it does in the register. -/
theorem unit_storeRecord_queueOwn (hserving : s.phase.serving = true) (hfitted : s.config.fitted.get g = true) (i : Nat)
    (q : ClosureRecord) : (storeRecord i q (queueOwn q s)).gates.units.get g
      = (evaluateGate g (s.setSlot i (some q))).gates.units.get g := by
  have hground := sameGround_setSlot (sameGround_queueOwn q s) i (some q)
  have hgates : (queueOwn q s).gates = s.gates := (frame_queueOwn q s).gates_eq rfl
  have hphase : ((queueOwn q s).setSlot i (some q)).phase = s.phase := hground.phase
  have hconfig : ((queueOwn q s).setSlot i (some q)).config = s.config := hground.config
  rw [show storeRecord i q (queueOwn q s) = reportRecords ((queueOwn q s).setSlot i (some q)) from rfl,
    unit_reportRecords (by rw [hphase]; exact hserving) (by rw [hconfig]; exact hfitted), hground.evaluated_eq,
    unit_evaluateGate (s := s.setSlot i (some q)) hserving hfitted]
  exact congrArg (fun k : Gates => (s.setSlot i (some q)).evaluated g (k.units.get g)) hgates

/-- R113: a record of another station is no concern of the hazard unit. -/
theorem tellHazard_foreign {r : ClosureRecord} (hown : r.own = false) (c : Bool) (q : ClosureRecord) (s : State) :
    tellHazard c r q s = s := by
  have hstanding : r.standingAvalanche = false := by
    unfold ClosureRecord.standingAvalanche
    rw [hown, Bool.false_and]
  unfold tellHazard
  rw [hstanding]
  rfl

/-- R161: a gate that the entry to RUNNING opens: not moved yet, or on its way, or at its open limit. -/
def GateUnit.Opens (active : Bool) (x : GateUnit) : Prop :=
  x.state = .closed ∨ x.state = .unpositioned
    ∨ x.state = (if active then .opened else .opening) ∧ (active = false → x.travel = some 0)

/-- While the entry to RUNNING goes on: where the demand is OPEN, it was so all along. -/
structure WillOpen (pins : Pins) (g : Gate) (s : State) : Prop where
  running : s.phase = .running
  fitted : s.config.fitted.get g = true
  limits : s.pins = pins
  gate : s.demandNow g = some .opened → (s.gates.units.get g).Opens (pins.openLimit.get g)

/-- R155, R161: an evaluation in RUNNING with demand OPEN. -/
theorem evaluated_opens (hrun : s.phase = .running) (hx : x.Opens (s.pins.openLimit.get g)) (hd : s.demandNow g = some .opened) :
    (s.evaluated g x).state = (if s.pins.openLimit.get g then .opened else .opening)
      ∧ (s.pins.openLimit.get g = false → (s.evaluated g x).travel = some 0) := by
  have hmoves : x.state = .closed ∨ x.state = .unpositioned → _ := fun hst =>
    ((acted_opened_spec (s := s) (g := g) (x := s.demanded g x) hd).1 hst).1 hrun
  rcases hx with hst | hst | ⟨hst, htravel⟩
  · exact ⟨(hmoves (.inl hst)).1, fun ho => ((hmoves (.inl hst)).2 ho).1⟩
  · exact ⟨(hmoves (.inr hst)).1, fun ho => ((hmoves (.inr hst)).2 ho).1⟩
  · have hstays : s.evaluated g x = s.demanded g x := by
      refine acted_opened_stays hd ?_
      rw [show (s.demanded g x).state = x.state from rfl, hst]
      split
      · exact .inl rfl
      · exact .inr (.inl rfl)
    rw [hstays]
    exact ⟨hst, htravel⟩

variable {pins : Pins}

theorem WillOpen.aside (h : WillOpen pins g s) {qs : List Part} (hf : Frame qs s t)
    (hd : Part.apart [.settings, .pins, .slots, .gateUnits, .key] qs = true) : WillOpen pins g t := by
  obtain ⟨hphase, hconfig, -⟩ := hf.settings_eq (Part.not_mem_of_apart hd (by simp))
  have hunits : s.gates.units = t.gates.units := hf.keeps hd (p := .gateUnits) (by simp)
  obtain ⟨hkey, hlocal⟩ := hf.keeps hd (p := .key) (by simp)
  have hslots : s.register.slots = t.register.slots := hf.keeps hd (p := .slots) (by simp)
  refine ⟨hphase.trans h.running, by rw [hconfig]; exact h.fitted, (hf.keeps hd (p := .pins) (by simp)).symm.trans h.limits,
    fun hd => ?_⟩
  rw [← hunits]
  refine h.gate ?_
  rw [← hd]
  exact (demandNow_congr g hconfig hkey.symm hlocal.symm fun i => by rw [recordAt_congr hslots.symm]).symm

theorem WillOpen.report (h : WillOpen pins g s) : WillOpen pins g (reportRecords s) := by
  have hground : SameGround s (reportRecords s) :=
    ((sameGround_evaluateSigns s).trans (sameGround_evaluateGates _)).trans (sameGround_judgeQuiet _)
  refine ⟨hground.phase.trans h.running, by rw [hground.config]; exact h.fitted, hground.pins.trans h.limits, fun hd => ?_⟩
  rw [hground.demandNow_eq] at hd
  rw [unit_reportRecords (by rw [h.running]; rfl) h.fitted]
  have hopens := h.gate hd
  rw [← h.limits] at hopens ⊢
  exact .inr (.inr (evaluated_opens h.running hopens hd))

/-- A place whose record is not in force takes another one: a demand that is then OPEN was OPEN before. -/
theorem WillOpen.setSlot (h : WillOpen pins g s) {i : Nat} (hidle : ∀ r, s.recordAt i = some r → r.state ≠ .inForce)
    (o : Option ClosureRecord) : WillOpen pins g (s.setSlot i o) := by
  refine ⟨h.running, h.fitted, h.limits, fun hd => h.gate ?_⟩
  have hempty : ((s.setSlot i o).demandingRecords g).isEmpty = true → (s.demandingRecords g).isEmpty = true := fun he => by
    rw [demandingRecords_isEmpty_iff] at he ⊢
    intro j r hr hforce
    have hj : j ≠ i := fun e => hidle r (e ▸ hr) hforce
    exact he j r ((recordAt_setSlot_of_ne hj _).trans hr) hforce
  unfold State.demandNow at hd ⊢
  split
  · next hkey =>
    rwa [if_pos (show (s.setSlot i o).gates.keyLocal = true from hkey)] at hd
  · next hkey =>
    rw [if_neg (show ¬(s.setSlot i o).gates.keyLocal = true from hkey)] at hd
    split at hd
    · next he => rw [if_pos (hempty he)]
    · cases hd

theorem WillOpen.storeRecord (h : WillOpen pins g s) {i : Nat} (hidle : ∀ r, s.recordAt i = some r → r.state ≠ .inForce)
    (q : ClosureRecord) : WillOpen pins g (Machine.storeRecord i q s) := (h.setSlot hidle (some q)).report

theorem WillOpen.vacate (h : WillOpen pins g s) {i : Nat} (hidle : ∀ r, s.recordAt i = some r → r.state ≠ .inForce) :
    WillOpen pins g (Machine.vacate i s) := by
  unfold Machine.vacate
  split
  · next r _ =>
    have hdropped := (h.setSlot hidle none).aside (frame_dropEntries r.id _) rfl
    exact (hdropped.aside (frame_dropDisplayed r.id _) rfl).report
  · exact h

theorem WillOpen.admitRecord (h : WillOpen pins g s) (r : ClosureRecord) : WillOpen pins g (Machine.admitRecord r s).1 := by
  unfold Machine.admitRecord
  split
  · next i hi =>
    refine h.storeRecord (fun q hq => ?_) _
    rw [recordAt_of_freeIndex hi] at hq
    cases hq
  · split
    · next i hi =>
      obtain ⟨q, hq, hstate⟩ : ∃ q, s.recordAt i = some q ∧ q.state ≠ .inForce := by
        rcases evictIndex_cases hi with ⟨q, ⟨hq, -, hst⟩, -⟩ | ⟨-, -, q, ⟨hq, -, hst, -⟩, -⟩
        · exact ⟨q, hq, by rw [hst]; exact nofun⟩
        · exact ⟨q, hq, by rw [hst]; exact nofun⟩
      refine (h.vacate fun p hp => ?_).storeRecord (fun p hp => ?_) _
      · rw [hq] at hp
        exact Option.some.inj hp ▸ hstate
      · rw [recordAt_of_set (slots_vacate hq) (lt_length_of_recordAt hq), if_pos rfl] at hp
        cases hp
    · exact h.aside (frame_setFull_parts true s) rfl

theorem WillOpen.bringForward (h : WillOpen pins g s) : WillOpen pins g (Machine.bringForward s) := by
  unfold Machine.bringForward
  split
  · refine forIndices_keeps (law := WillOpen pins g) (fun i u hu => ?_) h
    unfold bringForwardAt
    split
    · next r hr =>
      split
      · next hc =>
        refine (hu.aside (frame_queueOwn _ _) rfl).storeRecord (fun q hq => ?_) _
        rw [recordAt_queueOwn, hr] at hq
        rw [← Option.some.inj hq, hc.2.2]
        exact nofun
      · exact hu
    · exact hu
  · exact h

theorem WillOpen.originate (h : WillOpen pins g s) : WillOpen pins g (Machine.originate s).1 := by
  have hadmitted := h.admitRecord (s.ownRecord .avalanche s.config.segmentHalf .announced s.config.announceLead)
  unfold Machine.originate
  dsimp only
  split
  · next u hu =>
    rw [hu] at hadmitted
    exact (hadmitted.aside (frame_takeSerial _ _) rfl).aside (frame_queueOwn _ _) rfl
  · next u hu =>
    rw [hu] at hadmitted
    exact hadmitted

theorem WillOpen.autocloseTest (h : WillOpen pins g s) : WillOpen pins g (Machine.autocloseTest s) := by
  by_cases hc : s.Called
  · rw [autocloseTest_of_called hc]
    split
    · exact h.originate.bringForward
    · exact h.originate
  · rwa [autocloseTest_eq_self hc]

/-- R161, R185: the gates whose demand is OPEN as the entry to RUNNING has been carried out. -/
theorem runningEntry_opens (hfitted : s.config.fitted.get g = true) (hphase : s.phase = .settling ∧ 70 ≤ s.now)
    (hst : (s.gates.units.get g).state = .closed ∨ (s.gates.units.get g).state = .unpositioned)
    (hd : (outcome .runningEntry s).demandNow g = some .opened) :
    ((outcome .runningEntry s).gates.units.get g).state = (if s.pins.openLimit.get g then .opened else .opening)
      ∧ (s.pins.openLimit.get g = false → ((outcome .runningEntry s).gates.units.get g).travel = some 0) := by
  have hstart : WillOpen s.pins g (s.withStartup { s.startup with phase := .running }) :=
    ⟨rfl, hfitted, rfl, fun _ => hst.imp_right .inl⟩
  have hrest := ((hstart.aside (frame_raiseSerial _) rfl).aside (frame_restartWalker _) rfl).autocloseTest.bringForward
  have hreport := runningEntry_eq hphase
  have hground : SameGround (bringForward (autocloseTest (restartWalker (raiseSerial
      (s.withStartup { s.startup with phase := .running }))))) (outcome .runningEntry s) := by
    rw [hreport]
    exact ((sameGround_evaluateSigns _).trans (sameGround_evaluateGates _)).trans (sameGround_judgeQuiet _)
  rw [hground.demandNow_eq] at hd
  have hunit := unit_reportRecords (g := g) (s := bringForward (autocloseTest (restartWalker (raiseSerial
    (s.withStartup { s.startup with phase := .running }))))) (by rw [hrest.running]; rfl) hrest.fitted
  rw [hreport, show judgeQuiet _ = reportRecords _ from rfl, hunit]
  have hopens := hrest.gate hd
  rw [← hrest.limits] at hopens ⊢
  exact evaluated_opens hrest.running hopens hd

/-- Settles O57: the ends of dwell and stall wait, an evaluation case by case, and the commands that bring one about. -/
theorem stallsAndReversalsResume : Obligations.StallsAndReversalsResume := by
  refine ⟨fun s g => ⟨fun hst hdwell => completes_iff.mpr ?_, fun hst hwait => completes_iff.mpr ?_, fun hst hlimit =>
    completes_iff.mpr ?_⟩, fun s g hserving hfitted hgate hslide => ?_, fun s g hserving hfitted =>
    ⟨fun i r hr => ⟨fun hst hlead => completes_iff.mpr ?_, fun hown hst hzero => completes_iff.mpr ?_⟩,
      fun hphase hnow hst => completes_iff.mpr fun hd => runningEntry_opens hfitted ⟨hphase, hnow⟩ hst hd⟩⟩
  · rw [show outcome (.dwellEnd g) s = resumeTravel g s from if_pos ⟨hst, hdwell⟩, unit_resumeTravel]
    exact resumed_spec s g
  · rw [show outcome (.stallRetry g) s = resumeTravel g s from if_pos ⟨hst, hwait⟩, unit_resumeTravel]
    exact resumed_spec s g
  · have hstall : outcome (.travelStall g) s = if (s.gates.units.get g).stalls = 0
        then putGate g { (s.gates.units.get g).rest .stalled with stalls := 1, stallWait := some 0 } s
        else putGate g { (s.gates.units.get g).rest .lockedOut with stalls := 2 } s := if_pos ⟨hst, hlimit⟩
    rw [hstall]
    by_cases h0 : (s.gates.units.get g).stalls = 0
    · rw [if_pos h0, if_pos h0, putGate_unit_same]
      exact ⟨rfl, rfl, rfl, rfl⟩
    · rw [if_neg h0, if_neg h0, putGate_unit_same]
      exact ⟨rfl, rfl⟩
  · intro u key t v first lead displayed waited closes opens turns stays
    have hunit : v = s.acted g (s.demanded g u) := unit_evaluateGate hserving hfitted
    have hother : ∀ k, k ≠ g → t.gates.units.get k = s.gates.units.get k := fun k hk => unit_evaluateGate_other hk s
    have hretained : t.retained = s.retained := (frame_evaluateGate g s).retained_eq rfl
    have hpos : 0 < s.leadOf (s.demanded g u) := leadOf_pos hgate hslide _
    obtain ⟨hdemand, hdemanding⟩ := acted_demand s g (s.demanded g u)
    have hfirst : key = false → (s.demanded g u).demanding = first := fun hkey =>
      if_neg (by rw [show s.gates.keyLocal = false from hkey]; exact Bool.false_ne_true)
    have hlead : key = false → s.leadOf (s.demanded g u) = lead := fun hkey => leadOf_congr (hfirst hkey) s
    have hshown : key = false → (s.ShownForLead g (s.demanded g u) ↔ displayed) := fun hkey => by
      unfold State.ShownForLead
      rw [hfirst hkey, hlead hkey]
    have hwaited : key = false → (s.WaitedWithout g (s.demanded g u) ↔ waited) := fun hkey => by
      unfold State.WaitedWithout
      rw [hlead hkey]
      exact Iff.rfl
    have hstays : s.acted g (s.demanded g u) = s.demanded g u → stays := fun h => by
      show v = { u with demand := v.demand, demanding := v.demanding }
      rw [hunit, h]
      rfl
    have hturns : s.acted g (s.demanded g u) = (s.demanded g u).reversed → turns := fun h => by
      show v.state = .reversing ∧ _
      rw [hunit, h]
      exact reversed_spec _
    have hnow : v.demand = s.demandNow g := by
      rw [hunit]
      exact hdemand
    refine ⟨fun hkey => ?_, fun hkey => ⟨fun h => ?_, fun h => ?_, ?_⟩, hretained, hother, fun hd => ?_, fun hd => ?_, fun hd => ?_⟩
    · rw [hnow]
      exact if_pos hkey
    · rw [hnow]
      exact (demandNow_remote hkey).1 h
    · rw [hnow]
      exact (demandNow_remote hkey).2 h
    · rw [hunit, hdemanding]
      exact hfirst hkey
    · exact hstays (acted_none (hnow.symm.trans hd))
    · have hclosed : (s.demanded g u).demand = some .closed := hnow.symm.trans hd
      obtain ⟨hfree, hpending⟩ := acted_closed_spec (x := s.demanded g u) hclosed hpos
      rw [← hunit] at hfree hpending
      refine ⟨fun hst => ⟨fun h => ?_, fun hkey hno => ?_⟩, fun hst hkey => ⟨fun h => ?_, fun h1 h2 => ?_⟩, fun hst =>
        hturns (acted_reverses (.inl ⟨hclosed, hst⟩)), fun hst => hstays (acted_closed_stays hclosed hst)⟩
      · cases hkey : s.gates.keyLocal with
        | true => exact (hfree hst).1 (.inl hkey)
        | false => exact (hfree hst).1 (.inr ((hshown hkey).mpr (h.resolve_left (by
            rw [show key = false from hkey]
            exact Bool.false_ne_true))))
      · exact (hfree hst).2 hkey (mt (hshown hkey).mp hno)
      · exact (hpending hst).1 (h.imp (hshown hkey).mpr (hwaited hkey).mpr)
      · exact hstays (hunit ▸ (hpending hst).2 (mt (hshown hkey).mp h1) (mt (hwaited hkey).mp h2))
    · have hopened : (s.demanded g u).demand = some .opened := hnow.symm.trans hd
      obtain ⟨hfree, hpending⟩ := acted_opened_spec (s := s) (g := g) (x := s.demanded g u) hopened
      rw [← hunit] at hfree hpending
      exact ⟨fun hst => ⟨(hfree hst).1, fun hrun => hstays (hunit ▸ (hfree hst).2 hrun)⟩, hpending,
        fun hst => hturns (acted_reverses (.inr ⟨hopened, hst⟩)), fun hst => hstays (acted_opened_stays hopened hst)⟩
  · rw [outcome_leadExpiry (operating_of_serving hserving) hr hst hlead]
    exact unit_storeRecord_queueOwn hserving hfitted i _
  · rw [outcome_durationExpiry (operating_of_serving hserving) hr hst hzero, tellHazard_foreign hown]
    exact unit_storeRecord_queueOwn hserving hfitted i _

end Sys2Proof.Machine
end

section
/-! PROOF. The LOCAL key and its buttons (R161, R162, R169 to R171): O58. -/

namespace Sys2Proof.Machine

open Sys2Proof

variable {s t : State} {g : Gate} {x : GateUnit}

/-! ## A gate at a turn of the key -/

/-- R169, R171: in travel, reversing or stalled a gate stops. -/
def State.halted (s : State) (g : Gate) (x : GateUnit) : GateUnit :=
  if x.state.stopping then { x.rest (s.limitsShow g) with stalls := 0 } else x

/-- R169: a gate at the turn to LOCAL. -/
def State.takenLocal (s : State) (g : Gate) (x : GateUnit) : GateUnit :=
  if s.config.fitted.get g then
    if x.state = .closePending then x.rest (if s.pins.openLimit.get g then .opened else .unpositioned) else s.halted g x
  else x

/-- R171: a gate at the turn to REMOTE, before its evaluation. -/
def State.takenRemote (s : State) (g : Gate) (x : GateUnit) : GateUnit :=
  if s.config.fitted.get g then
    if x.state = .lockedOut then { x.rest (s.limitsShow g) with stalls := 0 } else s.halted g x
  else x

theorem SameGround.halted_eq (h : SameGround s t) (g : Gate) (x : GateUnit) : t.halted g x = s.halted g x := by
  unfold State.halted
  rw [h.limitsShow_eq]

theorem regated_stopGate (g : Gate) (s : State) :
    Regated g (s.halted g (s.gates.units.get g)) s (stopGate g s) ∧ SameGround s (stopGate g s) := by
  unfold State.halted
  rw [stopGate_eq]
  split
  · exact ⟨regated_putGate _ _ _, sameGround_putGate _ _ _⟩
  · exact ⟨regated_self _ _, .refl s⟩

theorem regated_gateToLocal (g : Gate) (s : State) :
    Regated g (s.takenLocal g (s.gates.units.get g)) s (gateToLocal g s) ∧ SameGround s (gateToLocal g s) := by
  unfold State.takenLocal gateToLocal
  dsimp only
  split
  · split
    · exact ⟨regated_putGate _ _ _, sameGround_putGate _ _ _⟩
    · exact regated_stopGate g s
  · exact ⟨regated_self _ _, .refl s⟩

theorem regated_gateToRemote (g : Gate) (s : State) :
    Regated g (s.takenRemote g (s.gates.units.get g)) s (gateToRemote g s) ∧ SameGround s (gateToRemote g s) := by
  unfold State.takenRemote gateToRemote
  dsimp only
  split
  · split
    · exact ⟨regated_putGate _ _ _, sameGround_putGate _ _ _⟩
    · exact regated_stopGate g s
  · exact ⟨regated_self _ _, .refl s⟩

/-- An operation on each gate's own unit, which leaves the ground it looks at, done on both. -/
theorem unit_forGates {f : Gate → State → State} {own : State → Gate → GateUnit → GateUnit}
    (hf : ∀ g s, Regated g (own s g (s.gates.units.get g)) s (f g s) ∧ SameGround s (f g s))
    (hown : ∀ {s t} (g : Gate) (x : GateUnit), SameGround s t → own t g x = own s g x) (s : State) (g : Gate) :
    (forGates f s).gates.units.get g = own s g (s.gates.units.get g) ∧ SameGround s (forGates f s) := by
  obtain ⟨heast, hground⟩ := hf .e s
  obtain ⟨hwest, hground'⟩ := hf .w (f .e s)
  refine ⟨?_, hground.trans hground'⟩
  cases g with
  | e => exact (hwest.other (by decide)).trans heast.unit
  | w => exact hwest.unit.trans ((hown .w _ hground).trans (by rw [heast.other (by decide)]))

theorem unit_gatesToLocal (s : State) (g : Gate) :
    (forGates gateToLocal s).gates.units.get g = s.takenLocal g (s.gates.units.get g) ∧ SameGround s (forGates gateToLocal s) :=
  unit_forGates (own := State.takenLocal) regated_gateToLocal (fun {s t} g x h => by
    unfold State.takenLocal
    rw [h.config, h.pins, h.halted_eq]) s g

theorem unit_gatesToRemote (s : State) (g : Gate) :
    (forGates gateToRemote s).gates.units.get g = s.takenRemote g (s.gates.units.get g)
      ∧ SameGround s (forGates gateToRemote s) :=
  unit_forGates (own := State.takenRemote) regated_gateToRemote (fun {s t} g x h => by
    unfold State.takenRemote
    rw [h.config, h.limitsShow_eq, h.halted_eq]) s g

/-- R169: no gate acts once the key is LOCAL. -/
theorem takenLocal_rests (hfitted : s.config.fitted.get g = true) (x : GateUnit) : (s.takenLocal g x).state.acting = false := by
  unfold State.takenLocal State.halted
  rw [if_pos hfitted]
  split
  · rw [GateUnit.rest_state]
    split <;> rfl
  · next hpending =>
    split
    · exact limitsShow_rests s g
    · next hstop =>
      unfold GateState.stopping at hstop
      simpa [hpending] using hstop

/-- R169, R171: the states in which a turn of the key stops a gate. -/
def GateState.Moves (st : GateState) : Prop := st = .closing ∨ st = .opening ∨ st = .reversing ∨ st = .stalled

theorem halted_of_moves (h : x.state.Moves) : s.halted g x = { x.rest (s.limitsShow g) with stalls := 0 } := by
  refine if_pos ?_
  rcases h with h | h | h | h <;> rw [h] <;> rfl

theorem takenLocal_of_moves (hfitted : s.config.fitted.get g = true) (h : x.state.Moves) :
    s.takenLocal g x = { x.rest (s.limitsShow g) with stalls := 0 } := by
  unfold State.takenLocal
  rw [if_pos hfitted, halted_of_moves h, if_neg fun e => ?_]
  rcases h with h | h | h | h <;> exact nomatch (e.symm.trans h)

theorem takenRemote_of_moves (hfitted : s.config.fitted.get g = true) (h : x.state.Moves ∨ x.state = .lockedOut) :
    s.takenRemote g x = { x.rest (s.limitsShow g) with stalls := 0 } := by
  unfold State.takenRemote
  rw [if_pos hfitted]
  split
  · rfl
  · next hno => exact halted_of_moves (h.resolve_right hno)

/-! ## An evaluation of a gate that has been stopped -/

/-- An evaluation leaves a stall count of 0. -/
theorem evaluated_stalls (h : x.stalls = 0) : (s.evaluated g x).stalls = 0 := by
  have hite : ∀ {p : Prop} [Decidable p] {a b : GateUnit}, a.stalls = 0 → b.stalls = 0 → (if p then a else b).stalls = 0 :=
    fun ha hb => by
      split
      · exact ha
      · exact hb
  have htowards : ∀ d (y : GateUnit), y.stalls = 0 → (s.towards true g d y).stalls = 0 := fun d y hy => hite rfl hy
  have hclosing : ∀ y : GateUnit, y.stalls = 0 → (s.closingFrom g y).stalls = 0 := fun y hy =>
    hite (htowards _ _ hy) (hite (htowards _ (y.pendedAt s.now) hy) hy)
  have hx : (s.demanded g x).stalls = 0 := h
  unfold State.evaluated State.acted
  split
  · exact hx
  · split
    · exact hclosing _ hx
    · exact hclosing _ hx
    · exact hite (htowards _ _ hx) hx
    · exact hx
    · exact hx
  · split
    · exact hite (htowards _ _ hx) hx
    · exact hite (htowards _ _ hx) hx
    · exact hx
    · exact hx
    · exact hx

/-- R157, R161: an evaluation of an UNPOSITIONED gate away from both limits, the key in REMOTE. -/
theorem evaluated_unpositioned (hstate : x.state = .unpositioned) (ho : s.pins.openLimit.get g = false)
    (hc : s.pins.closedLimit.get g = false) :
    (s.demandNow g = some .closed → (s.evaluated g x).state = .closing
        ∨ ((s.evaluated g x).state = .closePending ∧ (s.evaluated g x).pendingEntry = some s.now))
      ∧ (s.demandNow g = some .opened →
        (s.evaluated g x).state = (if s.phase = .running then .opening else .unpositioned)) := by
  refine ⟨fun hd => ?_, fun hd => ?_⟩
  · have hacted : s.evaluated g x = s.closingFrom g (s.demanded g x) := acted_closes hd (.inr hstate)
    rw [hacted]
    exact (closingFrom_free hc _).2.imp id fun h => ⟨h.1, h.2.2⟩
  · have hacted : s.evaluated g x = if s.phase = .running then s.towards true g .opened (s.demanded g x) else s.demanded g x :=
      acted_opens hd (.inr hstate)
    rw [hacted, towards_opened_free ho]
    split
    · rfl
    · exact hstate

theorem evaluated_lockedOut (hstate : x.state = .lockedOut) : (s.evaluated g x).state = .lockedOut := by
  have hstays : s.evaluated g x = s.demanded g x := by
    have hst : (s.demanded g x).state = .lockedOut := hstate
    cases hd : (s.demanded g x).demand with
    | none => exact acted_none hd
    | some d =>
      cases d with
      | closed => exact acted_closed_stays hd (.inr (.inr (.inr (.inr hst))))
      | opened => exact acted_opened_stays hd (.inr (.inr (.inr (.inr hst))))
  rw [hstays]
  exact hstate

/-- What a limit state says of the limits. -/
theorem limits_of_limitsShow (s : State) (g : Gate) :
    (s.limitsShow g = .opened → s.pins.closedLimit.get g = false)
      ∧ (s.limitsShow g = .closed → s.pins.openLimit.get g = false)
      ∧ (s.limitsShow g = .unpositioned → s.pins.openLimit.get g = false ∧ s.pins.closedLimit.get g = false) := by
  unfold State.limitsShow
  cases s.pins.openLimit.get g <;> cases s.pins.closedLimit.get g <;> decide

/-- R171: a gate that the turn to REMOTE has stopped, after its evaluation against the register. -/
theorem evaluated_stopped (hx : x.state = s.limitsShow g) (hkey : s.gates.keyLocal = false) :
    (match s.limitsShow g with
      | .opened =>
        if !(s.demandingRecords g).isEmpty then (s.evaluated g x).state = .closing
          ∨ ((s.evaluated g x).state = .closePending ∧ (s.evaluated g x).pendingEntry = some s.now)
        else (s.evaluated g x).state = .opened
      | .closed => (s.evaluated g x).state
          = (if !(s.demandingRecords g).isEmpty then .closed else if s.phase = .running then .opening else .closed)
      | .unpositioned =>
        if !(s.demandingRecords g).isEmpty then (s.evaluated g x).state = .closing
          ∨ ((s.evaluated g x).state = .closePending ∧ (s.evaluated g x).pendingEntry = some s.now)
        else (s.evaluated g x).state = (if s.phase = .running then .opening else .unpositioned)
      | y => (s.evaluated g x).state = y) := by
  obtain ⟨hopened, hclosed, hunpositioned⟩ := limits_of_limitsShow s g
  have hnow : s.demandNow g = if (s.demandingRecords g).isEmpty then some .opened else some .closed := by
    unfold State.demandNow
    rw [hkey, if_neg Bool.false_ne_true]
  rcases limitsShow_cases s g with h | h | h | h
  · rw [h] at hx ⊢
    obtain ⟨-, hstays, hcloses⟩ := evaluated_opened hx (hopened h)
    cases hcalls : (s.demandingRecords g).isEmpty with
    | true => exact hstays (by rw [hnow, hcalls]; exact nofun)
    | false => exact (hcloses (by rw [hnow, hcalls]; rfl)).imp id fun h => ⟨h.1, h.2.2⟩
  · rw [h] at hx ⊢
    obtain ⟨-, hstate⟩ := evaluated_closed hx (hclosed h)
    dsimp only
    rw [hstate, hnow]
    cases (s.demandingRecords g).isEmpty <;> simp
  · rw [h] at hx ⊢
    obtain ⟨ho, hc⟩ := hunpositioned h
    obtain ⟨hcloses, hopens⟩ := evaluated_unpositioned hx ho hc
    cases hcalls : (s.demandingRecords g).isEmpty with
    | true => exact hopens (by rw [hnow, hcalls]; rfl)
    | false => exact hcloses (by rw [hnow, hcalls]; rfl)
  · rw [h] at hx ⊢
    exact evaluated_lockedOut hx

/-! ## The turns of the key -/

/-- R169 to R171: a gate with a demand that no record makes. -/
def GateUnit.under (x : GateUnit) (d : Option Demand) : GateUnit := { x with demand := d, demanding := none }

/-- R169: the turn to LOCAL. -/
theorem keyToLocal_spec (hserving : s.phase.serving = true) (hkey : s.gates.keyLocal = false) :
    ((outcome .keyToLocal s).gates.units.get g
        = s.takenLocal g ((s.gates.units.get g).under none))
      ∧ (outcome .keyToLocal s).gates.keyLocal = true ∧ (outcome .keyToLocal s).gates.localDemand = none := by
  obtain ⟨hunit, hground⟩ := unit_gatesToLocal s.turnedLocal g
  rw [keyToLocal_eq (operating_of_serving hserving) hkey]
  refine ⟨?_, hground.key, hground.localDemand⟩
  rw [hunit, turnedLocal_unit]
  rfl

theorem takenLocal_demand (s : State) (g : Gate) (x : GateUnit) : (s.takenLocal g x).demand = x.demand := by
  unfold State.takenLocal State.halted
  split
  · split
    · rfl
    · split <;> rfl
  · rfl

/-- R171: the turn to REMOTE in SETTLING or RUNNING. -/
theorem keyToRemote_spec (hserving : s.phase.serving = true) (hfitted : s.config.fitted.get g = true)
    (hkey : s.gates.keyLocal = true) :
    ((outcome .keyToRemote s).gates.units.get g = s.turnedRemote.evaluated g
        (s.takenRemote g ((s.gates.units.get g).under (some .opened))))
      ∧ SameGround s.turnedRemote (outcome .keyToRemote s) := by
  obtain ⟨hunit, hground⟩ := unit_gatesToRemote s.turnedRemote g
  rw [keyToRemote_eq (operating_of_serving hserving) hkey]
  refine ⟨?_, hground.trans (sameGround_evaluateGates _)⟩
  rw [unit_evaluateGates (by rw [hground.phase]; exact hserving) (by rw [hground.config]; exact hfitted), hground.evaluated_eq,
    hunit, turnedRemote_unit]
  rfl

/-- R171: in JOINING the gates are not evaluated. -/
theorem keyToRemote_joining (hphase : s.phase = .joining) (hkey : s.gates.keyLocal = true) :
    ((outcome .keyToRemote s).gates.units.get g
        = s.takenRemote g ((s.gates.units.get g).under (some .opened)))
      ∧ (outcome .keyToRemote s).gates.keyLocal = false := by
  obtain ⟨hunit, hground⟩ := unit_gatesToRemote s.turnedRemote g
  have hinert : ∀ v : State, v.phase = .joining → ∀ k, evaluateGate k v = v := fun v hv k => by
    unfold evaluateGate
    rw [hv]
    rfl
  have hjoining : (forGates gateToRemote s.turnedRemote).phase = .joining := hground.phase.trans hphase
  rw [keyToRemote_eq (by rw [hphase]; rfl) hkey, show evaluateGates (forGates gateToRemote s.turnedRemote)
    = evaluateGate .w (evaluateGate .e (forGates gateToRemote s.turnedRemote)) from rfl, hinert _ hjoining, hinert _ hjoining]
  refine ⟨?_, hground.key⟩
  rw [hunit, turnedRemote_unit]
  rfl

/-! ## The buttons (R170) -/

/-- R170: a gate after a button has been pressed in LOCAL. -/
theorem unit_setLocalDemand (hserving : s.phase.serving = true) (hfitted : s.config.fitted.get g = true)
    (hkey : s.gates.keyLocal = true) (d : Demand) :
    ((setLocalDemand d s).gates.units.get g = s.acted g ((s.gates.units.get g).under (some d)))
      ∧ (setLocalDemand d s).gates.localDemand = some d := by
  have hground := sameGround_evaluateGates (s.withGates { s.gates with localDemand := some d })
  refine ⟨?_, hground.localDemand⟩
  have hdemanded : (s.withGates { s.gates with localDemand := some d }).demanded g (s.gates.units.get g)
      = (s.gates.units.get g).under (some d) := by
    unfold State.demanded State.demandNow
    rw [if_pos (show (s.withGates { s.gates with localDemand := some d }).gates.keyLocal = true from hkey),
      if_pos (show (s.withGates { s.gates with localDemand := some d }).gates.keyLocal = true from hkey)]
    rfl
  unfold setLocalDemand
  rw [unit_evaluateGates (s := s.withGates { s.gates with localDemand := some d }) hserving hfitted]
  show State.acted _ g (State.demanded _ g (s.gates.units.get g)) = _
  rw [hdemanded]
  rfl

theorem outcome_closeButton (hserving : s.phase.serving = true) (hkey : s.gates.keyLocal = true) :
    outcome .closeButtonPress s = setLocalDemand .closed s :=
  if_pos (by rw [operating_of_serving hserving, hkey]; rfl)

theorem outcome_openButton (hserving : s.phase.serving = true) (hkey : s.gates.keyLocal = true) :
    outcome (.openButtonPress false) s = setLocalDemand .opened s :=
  if_pos (by rw [operating_of_serving hserving, hkey]; rfl)

/-- R170: CLOSE pressed, in any state of the gate. -/
theorem closeButton_spec (hserving : s.phase.serving = true) (hfitted : s.config.fitted.get g = true)
    (hkey : s.gates.keyLocal = true) :
    ((outcome .closeButtonPress s).gates.units.get g).demand = some .closed
      ∧ ((s.gates.units.get g).state = .opened ∨ (s.gates.units.get g).state = .unpositioned →
        ((outcome .closeButtonPress s).gates.units.get g).state
          = (if s.pins.closedLimit.get g then .closed else .closing))
      ∧ ((s.gates.units.get g).state = .opening → ((outcome .closeButtonPress s).gates.units.get g).state = .reversing
        ∧ ((outcome .closeButtonPress s).gates.units.get g).dwell = some 0
        ∧ ((outcome .closeButtonPress s).gates.units.get g).travel = none)
      ∧ ((s.gates.units.get g).state = .closing ∨ (s.gates.units.get g).state = .closed
          ∨ (s.gates.units.get g).state = .reversing ∨ (s.gates.units.get g).state = .stalled
          ∨ (s.gates.units.get g).state = .lockedOut →
        ((outcome .closeButtonPress s).gates.units.get g).state = (s.gates.units.get g).state) := by
  rw [outcome_closeButton hserving hkey, (unit_setLocalDemand hserving hfitted hkey .closed).1]
  refine ⟨(acted_demand _ _ _).1, fun hst => ?_, fun hst => ?_, fun hst => ?_⟩
  · rw [acted_closes (x := (s.gates.units.get g).under (some .closed)) rfl hst]
    unfold State.closingFrom
    rw [if_pos hkey]
    exact (towards_closed_spec _ _ _).1
  · rw [acted_reverses (x := (s.gates.units.get g).under (some .closed)) (.inl ⟨rfl, hst⟩)]
    exact ⟨rfl, rfl, rfl⟩
  · rw [acted_closed_stays (x := (s.gates.units.get g).under (some .closed)) rfl hst]
    rfl

/-- R170: OPEN pressed, in any state of the gate. -/
theorem openButton_spec (hserving : s.phase.serving = true) (hfitted : s.config.fitted.get g = true)
    (hkey : s.gates.keyLocal = true) :
    ((outcome (.openButtonPress false) s).gates.units.get g).demand = some .opened
      ∧ ((s.gates.units.get g).state = .closed ∨ (s.gates.units.get g).state = .unpositioned →
        ((outcome (.openButtonPress false) s).gates.units.get g).state
          = (if s.phase = .running then (if s.pins.openLimit.get g then .opened else .opening)
            else (s.gates.units.get g).state))
      ∧ ((s.gates.units.get g).state = .closing → ((outcome (.openButtonPress false) s).gates.units.get g).state = .reversing
        ∧ ((outcome (.openButtonPress false) s).gates.units.get g).dwell = some 0
        ∧ ((outcome (.openButtonPress false) s).gates.units.get g).travel = none)
      ∧ ((s.gates.units.get g).state = .opened ∨ (s.gates.units.get g).state = .opening
          ∨ (s.gates.units.get g).state = .reversing ∨ (s.gates.units.get g).state = .stalled
          ∨ (s.gates.units.get g).state = .lockedOut →
        ((outcome (.openButtonPress false) s).gates.units.get g).state = (s.gates.units.get g).state) := by
  rw [outcome_openButton hserving hkey, (unit_setLocalDemand hserving hfitted hkey .opened).1]
  refine ⟨(acted_demand _ _ _).1, fun hst => ?_, fun hst => ?_, fun hst => ?_⟩
  · rw [acted_opens (x := (s.gates.units.get g).under (some .opened)) rfl hst]
    split
    · exact (towards_opened_spec _ _ _).1
    · rfl
  · rw [acted_reverses (x := (s.gates.units.get g).under (some .opened)) (.inr ⟨rfl, hst⟩)]
    exact ⟨rfl, rfl, rfl⟩
  · rw [acted_opened_stays (x := (s.gates.units.get g).under (some .opened)) rfl hst]
    rfl

/-- Settles O58: the turns of the key stop the gates, the buttons set the local demand that an evaluation acts on. -/
theorem keyAndButtonsCommandTheGates : Obligations.KeyAndButtonsCommandTheGates := by
  refine ⟨fun s g hserving hfitted => ⟨fun hkey => completes_iff.mpr ?_, fun hkey => completes_iff.mpr ?_,
    fun hkey hst hc => completes_iff.mpr ?_, fun hkey hst ho => completes_iff.mpr ?_, ?_, fun hkey => ⟨?_, ?_⟩⟩,
    fun s g hphase hfitted hkey => completes_iff.mpr ?_, fun s g hserving hfitted hkey => ⟨completes_iff.mpr ?_,
      completes_iff.mpr ?_⟩⟩
  · obtain ⟨hunit, hlocal, hdemand⟩ := keyToLocal_spec (g := g) hserving hkey
    refine ⟨hlocal, hdemand, ?_, ?_, fun hst => ?_, (frame_outcome .keyToLocal s).retained_eq rfl⟩
    · rw [hunit, takenLocal_demand]
      rfl
    · rw [hunit]
      exact takenLocal_rests hfitted _
    · rw [hunit, takenLocal_of_moves (x := (s.gates.units.get g).under none) hfitted hst]
      exact ⟨rfl, rfl, rfl, rfl, rfl⟩
  · obtain ⟨hunit, hground⟩ := keyToRemote_spec hserving hfitted hkey
    refine ⟨hground.key, hground.localDemand, ?_, (frame_outcome .keyToRemote s).retained_eq rfl, fun hst => ?_⟩
    · rw [hunit, hground.demandNow_eq]
      exact (acted_demand _ _ _).1
    · have hmoves : (s.gates.units.get g).state.Moves ∨ (s.gates.units.get g).state = .lockedOut := by
        unfold GateState.Moves
        tauto
      rw [hunit, takenRemote_of_moves (x := (s.gates.units.get g).under (some .opened)) hfitted hmoves]
      exact ⟨evaluated_stalls rfl, evaluated_stopped (s := s.turnedRemote) rfl rfl⟩
  · obtain ⟨-, hcloses, -⟩ := closeButton_spec hserving hfitted hkey
    refine ⟨?_, (hcloses (.inl hst)).trans (by rw [hc]; rfl)⟩
    rw [outcome_closeButton hserving hkey]
    exact (unit_setLocalDemand hserving hfitted hkey .closed).2
  · obtain ⟨-, hopens, -⟩ := openButton_spec hserving hfitted hkey
    refine ⟨?_, (hopens (.inl hst)).trans (by rw [ho, hst]; rfl)⟩
    rw [outcome_openButton hserving hkey]
    exact (unit_setLocalDemand hserving hfitted hkey .opened).2
  · exact congrArg _ (if_neg (by simp))
  · exact congrArg _ (if_neg (by simp [hkey]))
  · exact congrArg _ (if_neg (by simp [hkey]))
  · obtain ⟨hunit, hremote⟩ := keyToRemote_joining (g := g) hphase hkey
    refine ⟨hremote, fun hst => ?_⟩
    have hmoves : (s.gates.units.get g).state.Moves ∨ (s.gates.units.get g).state = .lockedOut := by
      unfold GateState.Moves
      tauto
    rw [hunit, takenRemote_of_moves (x := (s.gates.units.get g).under (some .opened)) hfitted hmoves]
    rfl
  · refine ⟨?_, closeButton_spec hserving hfitted hkey⟩
    rw [outcome_closeButton hserving hkey]
    exact (unit_setLocalDemand hserving hfitted hkey .closed).2
  · refine ⟨?_, openButton_spec hserving hfitted hkey⟩
    rw [outcome_openButton hserving hkey]
    exact (unit_setLocalDemand hserving hfitted hkey .opened).2

end Sys2Proof.Machine
end

section
/-! PROOF. The byte layouts read back (R61, R188 to R190): O59 and O60. -/

namespace Sys2Proof.Machine

open Sys2Proof

variable {body rest cs : List Byte} {k src seq l : Byte} {h : FrameHeader} {c : Instr}

/-! ## Two-byte values -/

theorem hiByte_joinBytes (a b : Byte) : hiByte (joinBytes a b) = a := by
  unfold joinBytes hiByte
  ext i hi
  simp only [BitVec.getElem_setWidth, BitVec.getLsbD_ushiftRight, BitVec.getLsbD_append]
  rw [if_neg (by omega), Nat.add_sub_cancel_left]
  exact BitVec.getLsbD_eq_getElem hi

theorem loByte_joinBytes (a b : Byte) : loByte (joinBytes a b) = b := by
  unfold joinBytes loByte
  ext i hi
  simp only [BitVec.getElem_setWidth, BitVec.getLsbD_append]
  rw [if_pos hi]
  exact BitVec.getLsbD_eq_getElem hi

theorem joinBytes_eq_iff (x : Word16) (a b : Byte) : x = joinBytes a b ↔ hiByte x = a ∧ loByte x = b := by
  constructor
  · rintro rfl
    exact ⟨hiByte_joinBytes a b, loByte_joinBytes a b⟩
  · rintro ⟨rfl, rfl⟩
    exact (joinBytes_hiByte_loByte x).symm

/-! ## The bodies (R189) -/

theorem parseAnnounce_encode (b : AnnounceBody) : parseAnnounce (encodeAnnounce b) = some b := by
  unfold encodeAnnounce parseAnnounce
  simp only [joinBytes_hiByte_loByte]

theorem parseStatus_encode (b : StatusBody) : parseStatus (encodeStatus b) = some b := by
  unfold encodeStatus parseStatus
  simp only [joinBytes_hiByte_loByte]

theorem parseClosure_encode (b : ClosureBody) : parseClosure (encodeClosure b) = some b := by
  unfold encodeClosure parseClosure
  simp only [joinBytes_hiByte_loByte]

theorem parseFloor_encode (b : FloorBody) : parseFloor (encodeFloor b) = some b := by
  unfold encodeFloor parseFloor
  simp only [joinBytes_hiByte_loByte]

theorem parseAnnounce_isSome (body : List Byte) : (parseAnnounce body).isSome = true ↔ body.length = 7 := by
  constructor
  · intro hs
    unfold parseAnnounce at hs
    split at hs
    · rfl
    · cases hs
  · intro hl
    match body, hl with
    | [_, _, _, _, _, _, _], _ => rfl

theorem parseStatus_isSome (body : List Byte) : (parseStatus body).isSome = true ↔ body.length = 26 := by
  constructor
  · intro hs
    unfold parseStatus at hs
    split at hs
    · rfl
    · cases hs
  · intro hl
    match body, hl with
    | [_, _, _, _, _, _, _, _, _, _, _, _, _, _, _, _, _, _, _, _, _, _, _, _, _, _], _ => rfl

theorem parseClosure_isSome (body : List Byte) : (parseClosure body).isSome = true ↔ body.length = 14 := by
  constructor
  · intro hs
    unfold parseClosure at hs
    split at hs
    · rfl
    · cases hs
  · intro hl
    match body, hl with
    | [_, _, _, _, _, _, _, _, _, _, _, _, _, _], _ => rfl

theorem parseFloor_isSome (body : List Byte) : (parseFloor body).isSome = true ↔ body.length = 4 := by
  constructor
  · intro hs
    unfold parseFloor at hs
    split at hs
    · rfl
    · cases hs
  · intro hl
    match body, hl with
    | [_, _, _, _], _ => rfl

theorem parseTarget_isSome (body : List Byte) : (parseTarget body).isSome = true ↔ body.length = 1 := by
  constructor
  · intro hs
    unfold parseTarget at hs
    split at hs
    · rfl
    · cases hs
  · intro hl
    match body, hl with
    | [_], _ => rfl

/-! ## The kind and the length (R61, R188) -/

/-- The kinds of a frame, each with the length of its body. -/
def KindAndLength (k : Byte) (len : Nat) : Prop :=
  (k = 1#8 ∧ len = 7) ∨ (k = 2#8 ∧ len = 26) ∨ ((k = 3#8 ∨ k = 4#8) ∧ len = 14) ∨ (k = 5#8 ∧ len = 4)
    ∨ ((k = 6#8 ∨ k = 7#8) ∧ len = 1)

theorem bodyCommand_isSome (k : Byte) (h : FrameHeader) (body : List Byte) :
    (bodyCommand k h body).isSome = true ↔ KindAndLength k body.length := by
  unfold bodyCommand KindAndLength
  by_cases h1 : k = 1#8
  · subst h1
    simp [parseAnnounce_isSome]
  by_cases h2 : k = 2#8
  · subst h2
    simp [parseStatus_isSome]
  by_cases h3 : k = 3#8
  · subst h3
    simp [parseClosure_isSome]
  by_cases h4 : k = 4#8
  · subst h4
    simp [parseClosure_isSome]
  by_cases h5 : k = 5#8
  · subst h5
    simp [parseFloor_isSome]
  by_cases h6 : k = 6#8
  · subst h6
    simp [parseTarget_isSome]
  by_cases h7 : k = 7#8
  · subst h7
    simp [parseTarget_isSome]
  simp [h1, h2, h3, h4, h5, h6, h7]

theorem frameHeader_bodyCommand (hc : bodyCommand k h body = some c) : frameHeader c = some h := by
  have hmap : ∀ {β : Type} {o : Option β} {f : β → Instr}, (∀ b, frameHeader (f b) = some h) → o.map f = some c →
      frameHeader c = some h := fun hf ho => by
    obtain ⟨b, -, rfl⟩ := Option.map_eq_some_iff.mp ho
    exact hf b
  unfold bodyCommand at hc
  split at hc
  · exact hmap (fun _ => rfl) hc
  split at hc
  · exact hmap (fun _ => rfl) hc
  split at hc
  · exact hmap (fun _ => rfl) hc
  split at hc
  · exact hmap (fun _ => rfl) hc
  split at hc
  · exact hmap (fun _ => rfl) hc
  split at hc
  · exact hmap (fun _ => rfl) hc
  split at hc
  · exact hmap (fun _ => rfl) hc
  · cases hc

/-! ## The frame (R61, R188) -/

/-- The five checks of a frame, in their order. -/
theorem checkFrame_eq_some (k src seq l : Byte) (rest : List Byte) (c : Instr) :
    checkFrame (k :: src :: seq :: l :: rest) = some c ↔ rest.length = l.toNat + 2
      ∧ [hiByte (crc ((k :: src :: seq :: l :: rest).take (4 + l.toNat))),
          loByte (crc ((k :: src :: seq :: l :: rest).take (4 + l.toNat)))] = rest.drop l.toNat
      ∧ goodSource src = true ∧ bodyCommand k ⟨src, seq⟩ (rest.take l.toNat) = some c := by
  have hlength : (k :: src :: seq :: l :: rest).length = rest.length + 4 := rfl
  unfold checkFrame
  dsimp only
  rw [hlength]
  by_cases hl : rest.length = l.toNat + 2
  · rw [if_neg (by omega), if_neg (by omega)]
    by_cases hcrc : [hiByte (crc ((k :: src :: seq :: l :: rest).take (4 + l.toNat))),
        loByte (crc ((k :: src :: seq :: l :: rest).take (4 + l.toNat)))] = rest.drop l.toNat
    · rw [if_neg (not_not_intro hcrc)]
      cases hs : goodSource src with
      | false => simp
      | true => simp [hl, hcrc]
    · rw [if_pos hcrc]
      simp [hcrc]
  · by_cases hshort : rest.length + 4 < 6
    · rw [if_pos hshort]
      simp [hl]
    · rw [if_neg hshort, if_pos (by omega)]
      simp [hl]

/-- R188: a frame passes the checks, and is what its body gives. -/
theorem checkFrame_encodeFrame (hbody : body.length < 256) (hs : goodSource h.source = true)
    (hc : bodyCommand k h body = some c) : checkFrame (encodeFrame k h.source h.sequence body) = some c := by
  have hlen : (byte body.length).toNat = body.length := Nat.mod_eq_of_lt hbody
  have hcovered : (k :: h.source :: h.sequence :: byte body.length :: (body
      ++ [hiByte (crc (k :: h.source :: h.sequence :: byte body.length :: body)),
        loByte (crc (k :: h.source :: h.sequence :: byte body.length :: body))])).take (4 + body.length)
      = k :: h.source :: h.sequence :: byte body.length :: body := by
    rw [Nat.add_comm]
    simp
  refine (checkFrame_eq_some k h.source h.sequence (byte body.length) (body
    ++ [hiByte (crc (k :: h.source :: h.sequence :: byte body.length :: body)),
      loByte (crc (k :: h.source :: h.sequence :: byte body.length :: body))]) c).mpr ?_
  rw [hlen, hcovered, List.drop_left, List.take_left]
  exact ⟨by simp, rfl, hs, hc⟩

/-- The characters of a frame that is long enough for its header. -/
theorem checkFrame_short (h : cs.length < 4) : checkFrame cs = none := by
  match cs, h with
  | [], _ => rfl
  | [_], _ => rfl
  | [_, _], _ => rfl
  | [_, _, _], _ => rfl

/-- R61: the CRC of a frame is the two characters after its body. -/
theorem crc_check_iff {len : Nat} (x : Word16) (hl : rest.length = len + 2) :
    [hiByte x, loByte x] = rest.drop len ↔ x = joinBytes (rest.getD len 0#8) (rest.getD (len + 1) 0#8) := by
  have htail : rest.drop len = [rest.getD len 0#8, rest.getD (len + 1) 0#8] := by
    have hfirst : len < rest.length := by omega
    have hsecond : len + 1 < rest.length := by omega
    rw [List.drop_eq_getElem_cons hfirst, List.drop_eq_getElem_cons hsecond, List.drop_of_length_le (by omega),
      List.getD_eq_getElem _ _ hfirst, List.getD_eq_getElem _ _ hsecond]
  rw [htail, joinBytes_eq_iff]
  simp

theorem goodSource_eq_true_iff (a : Byte) : goodSource a = true ↔ 1 ≤ a.toNat ∧ a.toNat ≤ 31 := decide_eq_true_iff

/-- Settles O59: each layout is read back by the five checks, which ask for what the statement lists. -/
theorem framesReadBackAsTheirBulletins : Obligations.FramesReadBackAsTheirBulletins := by
  refine ⟨fun h hs => ⟨fun b => ?_, fun b => ?_, fun b => ?_, fun b => ?_, fun b => ?_, fun t => ?_, fun t => ?_⟩, fun cs => ?_⟩
  · exact checkFrame_encodeFrame (h := h) (by decide : 7 < 256) hs (congrArg (Option.map _) (parseAnnounce_encode b))
  · exact checkFrame_encodeFrame (h := h) (by decide : 26 < 256) hs (congrArg (Option.map _) (parseStatus_encode b))
  · exact checkFrame_encodeFrame (h := h) (by decide : 14 < 256) hs (congrArg (Option.map _) (parseClosure_encode b))
  · exact checkFrame_encodeFrame (h := h) (by decide : 14 < 256) hs (congrArg (Option.map _) (parseClosure_encode b))
  · exact checkFrame_encodeFrame (h := h) (by decide : 4 < 256) hs (congrArg (Option.map _) (parseFloor_encode b))
  · exact checkFrame_encodeFrame (h := h) (by decide : 1 < 256) hs rfl
  · exact checkFrame_encodeFrame (h := h) (by decide : 1 < 256) hs rfl
  · by_cases hshort : cs.length < 4
    · have hnone := checkFrame_short hshort
      dsimp only
      rw [hnone]
      exact ⟨⟨fun ⟨c, hc⟩ => (nomatch hc), fun ⟨h6, _⟩ => absurd h6 (by omega)⟩, nofun⟩
    · match cs, hshort with
      | k :: src :: seq :: l :: rest, _ =>
        refine ⟨⟨fun ⟨c, hc⟩ => ?_, fun ⟨h6, hl, hcrc, hkind, hs⟩ => ?_⟩, fun c hc => ?_⟩
        · obtain ⟨hl, hcrc, hs, hbody⟩ := (checkFrame_eq_some k src seq l rest c).mp hc
          have hkind := (bodyCommand_isSome k ⟨src, seq⟩ (rest.take l.toNat)).mp (by rw [hbody]; rfl)
          rw [List.length_take, hl, Nat.min_eq_left (by omega)] at hkind
          refine ⟨?_, ?_, ?_, hkind, (goodSource_eq_true_iff src).mp hs⟩
          · show 6 ≤ rest.length + 4
            omega
          · show rest.length + 4 = l.toNat + 6
            omega
          · rw [crc_check_iff _ hl, Nat.add_comm 4] at hcrc
            exact hcrc
        · have hl' : rest.length = l.toNat + 2 := by
            have : rest.length + 4 = l.toNat + 6 := hl
            omega
          have hsome : (bodyCommand k ⟨src, seq⟩ (rest.take l.toNat)).isSome = true := by
            rw [bodyCommand_isSome, List.length_take, hl', Nat.min_eq_left (by omega)]
            exact hkind
          obtain ⟨c, hc⟩ := Option.isSome_iff_exists.mp hsome
          refine ⟨c, (checkFrame_eq_some k src seq l rest c).mpr ⟨hl', ?_, (goodSource_eq_true_iff src).mpr hs, hc⟩⟩
          rw [crc_check_iff _ hl', Nat.add_comm 4]
          exact hcrc
        · obtain ⟨-, -, -, hbody⟩ := (checkFrame_eq_some k src seq l rest c).mp hc
          exact frameHeader_bodyCommand hbody
      | [], h => exact absurd (by decide : 0 < 4) h
      | [_], h => exact absurd (by decide : 1 < 4) h
      | [_, _], h => exact absurd (by decide : 2 < 4) h
      | [_, _, _], h => exact absurd (by decide : 3 < 4) h

/-! ## Sign-link messages (R190) -/

/-- R190: four bits are read back from their character. -/
theorem charNibble_nibbleChar : ∀ x : BitVec 4, charNibble (nibbleChar x) = some x := by decide

/-- R190: the check value of an ACK is read back from its four characters. -/
theorem nibbles_append (w : Word16) :
    ((w >>> 12).setWidth 4 ++ (w >>> 8).setWidth 4 ++ (w >>> 4).setWidth 4 ++ w.setWidth 4 : BitVec 16) = w := by
  ext i hi
  have hbit : ∀ {j : Nat}, j = i → w.getLsbD j = w[i] := fun h => by
    rw [h]
    exact BitVec.getLsbD_eq_getElem hi
  simp only [BitVec.getElem_append, BitVec.getElem_setWidth, BitVec.getLsbD_ushiftRight]
  split
  · exact hbit rfl
  split
  · exact hbit (by omega)
  split
  · exact hbit (by omega)
  · exact hbit (by omega)

theorem length_pageSetHead (n : Sign) (ps : PageSet) : (pageSetHead n ps).length = messageLength ps - 2 := by
  unfold pageSetHead messageLength
  cases ps.pageB <;> rfl

/-- Settles O60. -/
theorem signLinkMessagesReadBack : Obligations.SignLinkMessagesReadBack := by
  intro a page check n ps
  have hlength := length_pageSetHead n ps
  have hlong : 2 ≤ messageLength ps := by
    unfold messageLength
    split <;> omega
  have hnak : ∀ r : BitVec 4, checkReply (encodeNak a r page)
      = if r = 1#4 then some (.nakUnknownTemplate a page) else if r = 2#4 then some (.nakBadFormat a page) else none :=
    fun r => by
      unfold encodeNak checkReply
      dsimp only
      rw [if_pos rfl, charNibble_nibbleChar, charNibble_nibbleChar, charNibble_nibbleChar]
  refine ⟨?_, ?_, ?_, fun r h1 h2 => ?_, ?_, ?_, ?_⟩
  · unfold encodeAck checkReply
    dsimp only
    rw [if_pos rfl, charNibble_nibbleChar, charNibble_nibbleChar, charNibble_nibbleChar, charNibble_nibbleChar,
      charNibble_nibbleChar]
    exact congrArg (fun w => some (Instr.ackReceived a w)) (nibbles_append check)
  · rw [hnak, if_pos rfl]
  · rw [hnak, if_neg (by decide), if_pos rfl]
  · rw [hnak, if_neg h1, if_neg h2]
  · unfold pageSetMessage
    rw [List.length_append, hlength]
    show messageLength ps - 2 + 2 = messageLength ps
    omega
  · unfold pageSetMessage
    rw [← hlength, List.take_left]
    rfl
  · unfold pageSetMessage
    rw [show messageLength ps - 1 = messageLength ps - 2 + 1 by omega, ← hlength, joinBytes_eq_iff]
    constructor
    · simp
    · simp

end Sys2Proof.Machine
end
